-- ==== Sys2Proof/Word.lean ====
section
/-! DEFINITION. The plainest data types of the model: bytes, byte strings and sparse indexed tables. -/
namespace Sys2Proof

/-- One byte. -/
abbrev Byte := BitVec 8

/-- A byte string, first byte first. Registers, ring entries and descriptors are little-endian (R11). -/
abbrev Bytes := List Byte

/-- A sparse table from indices to values, kept in one canonical form: indices strictly rising and no
entry equal to the default that an unlisted index reads as. The default is named at each use. -/
abbrev Tab (α : Type) := List (Nat × α)

end Sys2Proof
end

