-- ==== Sys2Proof/Syntax.lean ====
section
/-! DEFINITION. The commands of the block: one constructor per row of spec/opcode_table.json. -/
namespace Sys2Proof

/-- The part fused into the die (R1, Table 0-1). -/
inductive Part where
  | bx6400 | bx6240 | bx6120
deriving DecidableEq, Repr

/-- A 64-byte command entry without its OPCODE (Table 2-9). `args` holds bytes 16–63, byte 16 in bits [7:0]. -/
structure Entry where
  flags     : BitVec 8
  rsvd3     : BitVec 8
  seq       : BitVec 32
  gen       : BitVec 16
  timeLimit : BitVec 16
  rsvd12    : BitVec 32
  args      : BitVec 384
deriving DecidableEq, Repr

/-- The width of a host access to a register (R10): all 64 bits, or the half that the address names. -/
inductive RegWidth where
  | full | half
deriving DecidableEq, Repr

/-- One stored copy of the fuse fields below CAP_FUSES (Table 4-4). -/
structure FuseBits where
  serial      : BitVec 64
  keyHash     : List (BitVec 384)
  provisioned : BitVec 4
  revoked     : BitVec 4
  rollback    : BitVec 127
  bundleKey   : BitVec 256
  debugLock   : Bool
deriving DecidableEq, Repr

/-- No fuse is burned. -/
def FuseBits.blank : FuseBits :=
  { serial := 0, keyHash := [0, 0, 0, 0], provisioned := 0, revoked := 0, rollback := 0, bundleKey := 0, debugLock := false }

/-- What the fuse block delivers at the fuse load (Table 4-4): CAP_FUSES as the part with the step codes of Table 2-16, from which
Table 2-18 gives the capability words, one stored copy of the other fields, and the second copy (R85). -/
structure FuseMap where
  part        : Part
  romRelease  : BitVec 8
  siliconStep : BitVec 8
  serial      : BitVec 64
  keyHash     : List (BitVec 384)
  provisioned : BitVec 4
  revoked     : BitVec 4
  rollback    : BitVec 127
  bundleKey   : BitVec 256
  debugLock   : Bool
  second      : FuseBits
deriving DecidableEq, Repr

/-- A fenceable unit: KIND 1–6 and INDEX of Table 14-7. -/
structure UnitRef where
  kind  : Nat
  index : Nat
deriving DecidableEq, Repr

/-- What a SerDes calibration or a SerDes reference monitor concerns (R82, R391). -/
inductive CalTarget where
  | spoke (s : Fin 16) | tandemLink | fabricLink (f : Fin 3)
deriving DecidableEq, Repr

/-- The FCS of a received frame (Table 5-3): correct, the one's complement of correct, or any other. -/
inductive FcsOutcome where
  | good | stomped | bad
deriving DecidableEq, Repr

/-- RS-FEC codewords counted since the port's last frame end (Table 5-14, counters 20 and 21). -/
structure FecCounts where
  corrected   : Nat
  uncorrected : Nat
deriving DecidableEq, Repr

/-- How the reception of a frame begins and goes on: the preamble and start-of-frame delimiter are right, and the byte of the first
symbol error, counted from the destination address (R112). -/
structure RxStart where
  preambleOk : Bool
  symbolAt   : Option Nat
deriving DecidableEq, Repr

/-- A queue of the switch core that requests cells of the crossbar (Table 9-6). -/
inductive XbarQueue where
  | unicast (port : Fin 128) (cls : Fin 8)
  | fabric (pipe : Fin 8) (member : Fin 4) (port : Fin 128) (cls : Fin 8)
  | host (pipe : Fin 8) (cls : Fin 8)
  | hostTx (port : Fin 128) (cls : Fin 8)
deriving DecidableEq, Repr

/-- A holder of crossbar credit (R229). -/
inductive CreditSink where
  | port (port : Fin 128) | subscriber | host | fabric (link : Fin 3) (cls : Fin 8)
deriving DecidableEq, Repr

/-- The DMA read that a completion timeout or error ends (R307). -/
inductive DmaRead where
  | rxDescriptors (ring : Fin 4096) | txDescriptors (ring : Fin 4096) | txBuffer (ring : Fin 4096)
deriving DecidableEq, Repr

/-- The posted write whose error the PCIe logic detects (R451). -/
inductive DmaWrite where
  | response (mb : Fin 129) | indirect (mb : Fin 129) | rxBuffer (ring : Fin 4096) | completion (ring : Fin 4096) | record | shadow
deriving DecidableEq, Repr

/-- The request port of a DRAM channel (Table 11-3). -/
inductive DramPort where
  | rt | wr | bg | mt
deriving DecidableEq, Repr

/-- What the inline code of a far-store read shows (R286, R287). -/
inductive CodeOutcome where
  | clean | corrected | uncorrectableData | uncorrectableHeader
deriving DecidableEq, Repr

/-- The outcome of one training attempt of a DRAM channel (R293, R294). -/
structure TrainResult where
  present : Bool
  density : Nat
  passed  : Bool
deriving DecidableEq, Repr

/-- A path that carries claims (R404). -/
inductive ClaimPath where
  | pins | link
deriving DecidableEq, Repr

/-- What an optics module answers on its management bus (R365). -/
inductive ModuleReply where
  | ack (data : Bytes) | noAck | stretched
deriving DecidableEq, Repr

/-- One configuration command as the journal carries it. -/
structure JournalCommand where
  mailbox : Nat
  opcode  : BitVec 16
  entry   : Entry
  buf     : Option Bytes
deriving DecidableEq, Repr


/-- A journal record of one cadence cycle (R409). -/
structure JournalRecord where
  epoch    : BitVec 16
  seq      : BitVec 32
  commands : List JournalCommand
deriving DecidableEq, Repr

/-- What a mirror message reports (R411). -/
inductive MirrorKind where
  | learn | move | ageOut | lost
deriving DecidableEq, Repr

/-- A mirror message of the Captain (R411): the entry's table, KEY, ARG, program and learning port. -/
structure MirrorMessage where
  epoch   : BitVec 16
  serial  : BitVec 32
  kind    : MirrorKind
  table   : Nat
  key     : BitVec 384
  arg     : BitVec 48
  program : Nat
  port    : Nat
deriving DecidableEq, Repr

/-- A role or epoch message from the partner (R407, R421). -/
inductive ControlMessage where
  | becomeStandalone (epoch : BitVec 16)
  | newEpoch (epoch next : BitVec 16)
  | setStrict (epoch : BitVec 16) (strict : Bool)
  | becomeCaptain (epoch next : BitVec 16)
deriving DecidableEq, Repr

/-- An entry of the Captain's learned entries as a snapshot carries it (R408). -/
structure LearnedEntry where
  table   : Nat
  key     : BitVec 384
  arg     : BitVec 48
  program : Nat
  port    : Nat
deriving DecidableEq, Repr

/-- The Captain's journalled state at the end of a cycle, as the commands that made it, with its learned
entries, its journal sequence, CONFIG_SEQ and epoch (R408; the format is not given, log entry 12). -/
structure JoinSnapshot where
  epoch     : BitVec 16
  seq       : BitVec 32
  configSeq : BitVec 32
  /-- serial number of the last mirror message that the learned entries include -/
  serial    : BitVec 32
  strict    : Bool
  commands  : List JournalCommand
  learned   : List LearnedEntry
deriving DecidableEq, Repr

/-- A closed digest block as the partner sends it (R417); `stamp` is none for MIXED. -/
structure DigestBlock where
  epoch     : BitVec 16
  port      : Fin 128
  number    : Nat
  bundleId  : BitVec 64
  digest    : BitVec 64
  settled   : Nat
  rxErrors  : Nat
  stamp     : Option (BitVec 32)
  unaligned : Bool
deriving DecidableEq, Repr

/-- The Captain's seal of a port's block at a frame number (R416). -/
structure SealFrame where
  epoch : BitVec 16
  frame : BitVec 32
deriving DecidableEq, Repr

/-- The Stoker's report of the journal sequence that it has applied (R421). -/
structure AppliedReport where
  epoch : BitVec 16
  seq   : BitVec 32
deriving DecidableEq, Repr

/-- The partner's attributed codes for a divergence on a port (R418), as block and code numbers. -/
structure RefereeCodes where
  epoch : BitVec 16
  port  : Fin 128
  codes : List (Nat × Nat)
deriving DecidableEq, Repr

/-- A frame as a fabric link carries it (R427, R428): the stored bytes and the descriptor fields. -/
structure FabricFrame where
  bytes     : Bytes
  port      : Fin 128
  cls       : Fin 8
  colour    : BitVec 2
  slice     : Fin 129
  queue     : Nat
  lifeline  : Bool
  ce        : Bool
  tsReq     : Bool
  ipOffset  : Nat
  flowTag   : BitVec 32
  ingressPort : Fin 128
  corrupt   : Bool
  stomp     : Bool
deriving DecidableEq, Repr

/-- A link control word of a fabric partner (R426): its MODE, member number and the ports it reports down. -/
structure FabricControl where
  mode      : Fin 2
  member    : Fin 4
  portsDown : BitVec 128
deriving DecidableEq, Repr

/-- The commands and events that act on the block. The 90 opcode rows carry the mailbox, the command entry
and, where the opcode accepts an indirect buffer, what the firmware read of it (`none`: a PCIe error, R38). -/
inductive Instr where
  /-- DEVICE_INFO (R51). -/
  | deviceInfo (mb : Fin 129) (e : Entry)
  /-- NOP (R45). -/
  | nop (mb : Fin 129) (e : Entry)
  /-- CLAIM_QUERY (R52). -/
  | claimQuery (mb : Fin 129) (e : Entry)
  /-- FW_LOG_READ (R53). -/
  | fwLogRead (mb : Fin 129) (e : Entry) (buf : Option Bytes)
  /-- FENCE (R60). -/
  | fence (mb : Fin 129) (e : Entry)
  /-- RULE_BANK_SWAP (R66). -/
  | ruleBankSwap (mb : Fin 129) (e : Entry)
  /-- RULE_BANK_STATUS (R68). -/
  | ruleBankStatus (mb : Fin 129) (e : Entry)
  /-- GEAR_SET (R69). -/
  | gearSet (mb : Fin 129) (e : Entry)
  /-- GEAR_STATUS (R73). -/
  | gearStatus (mb : Fin 129) (e : Entry)
  /-- PATCH_STAGE (R90). -/
  | patchStage (mb : Fin 129) (e : Entry) (buf : Option Bytes)
  /-- PATCH_ACTIVATE (R98). -/
  | patchActivate (mb : Fin 129) (e : Entry)
  /-- PATCH_STATUS (R100). -/
  | patchStatus (mb : Fin 129) (e : Entry)
  /-- PATCH_REVERT (R100). -/
  | patchRevert (mb : Fin 129) (e : Entry)
  /-- FUSE_READ (R86). -/
  | fuseRead (mb : Fin 129) (e : Entry)
  /-- ROLLBACK_ADVANCE (R91). -/
  | rollbackAdvance (mb : Fin 129) (e : Entry) (burnFail : Option Nat)
  /-- PORT_CONFIG (R106). -/
  | portConfig (mb : Fin 129) (e : Entry)
  /-- PORT_ENABLE (R110). -/
  | portEnable (mb : Fin 129) (e : Entry)
  /-- PORT_MODE_SET (R111). -/
  | portModeSet (mb : Fin 129) (e : Entry)
  /-- PORT_PAUSE_SET (R121). -/
  | portPauseSet (mb : Fin 129) (e : Entry)
  /-- PORT_STATUS (R126). -/
  | portStatus (mb : Fin 129) (e : Entry)
  /-- PORT_STATS_READ (R126). -/
  | portStatsRead (mb : Fin 129) (e : Entry)
  /-- PARSE_GRAPH_LOAD (R139). -/
  | parseGraphLoad (mb : Fin 129) (e : Entry) (buf : Option Bytes)
  /-- CUSTOMER_STORE_LOAD (R103). -/
  | customerStoreLoad (mb : Fin 129) (e : Entry) (buf : Option Bytes)
  /-- PATTERN_SET_LOAD (R146). -/
  | patternSetLoad (mb : Fin 129) (e : Entry) (buf : Option Bytes)
  /-- PATTERN_SET_BIND (R147). -/
  | patternSetBind (mb : Fin 129) (e : Entry)
  /-- LIFELINE_SET (R148). -/
  | lifelineSet (mb : Fin 129) (e : Entry)
  /-- EM_INSERT (R161). -/
  | emInsert (mb : Fin 129) (e : Entry) (buf : Option Bytes)
  /-- EM_DELETE (R161). -/
  | emDelete (mb : Fin 129) (e : Entry) (buf : Option Bytes)
  /-- EM_UPDATE (R162). -/
  | emUpdate (mb : Fin 129) (e : Entry)
  /-- EM_LOOKUP (R163). -/
  | emLookup (mb : Fin 129) (e : Entry)
  /-- EM_READ_INDEX (R163). -/
  | emReadIndex (mb : Fin 129) (e : Entry)
  /-- LPM_ADD (R176). -/
  | lpmAdd (mb : Fin 129) (e : Entry) (buf : Option Bytes)
  /-- LPM_DELETE (R176). -/
  | lpmDelete (mb : Fin 129) (e : Entry) (buf : Option Bytes)
  /-- LEARN_CONFIG (R168). -/
  | learnConfig (mb : Fin 129) (e : Entry)
  /-- AGEING_CONFIG (R173). -/
  | ageingConfig (mb : Fin 129) (e : Entry)
  /-- PARITY_LOG_READ (R181). -/
  | parityLogRead (mb : Fin 129) (e : Entry)
  /-- RULE_INSERT (R193). -/
  | ruleInsert (mb : Fin 129) (e : Entry) (buf : Option Bytes)
  /-- RULE_DELETE (R198). -/
  | ruleDelete (mb : Fin 129) (e : Entry) (buf : Option Bytes)
  /-- RULE_READ (R200). -/
  | ruleRead (mb : Fin 129) (e : Entry)
  /-- ACTION_PROGRAM_LOAD (R202). -/
  | actionProgramLoad (mb : Fin 129) (e : Entry) (buf : Option Bytes)
  /-- ISOLATION_MATRIX_SET (R214). -/
  | isolationMatrixSet (mb : Fin 129) (e : Entry) (buf : Option Bytes)
  /-- RECIRC_CONFIG (R217). -/
  | recircConfig (mb : Fin 129) (e : Entry)
  /-- QUEUE_THRESHOLD_SET (R235). -/
  | queueThresholdSet (mb : Fin 129) (e : Entry)
  /-- ECN_CONFIG (R233). -/
  | ecnConfig (mb : Fin 129) (e : Entry)
  /-- MCAST_GROUP_SET (R242). -/
  | mcastGroupSet (mb : Fin 129) (e : Entry)
  /-- SPILL_CONFIG (R241). -/
  | spillConfig (mb : Fin 129) (e : Entry)
  /-- CHAIN_AUDIT_RUN (R253). -/
  | chainAuditRun (mb : Fin 129) (e : Entry)
  /-- STORE_STATUS (R254). -/
  | storeStatus (mb : Fin 129) (e : Entry)
  /-- NODE_CONFIG (R264). -/
  | nodeConfig (mb : Fin 129) (e : Entry)
  /-- SHAPER_SET (R274). -/
  | shaperSet (mb : Fin 129) (e : Entry)
  /-- WFQ_WEIGHT_SET (R271). -/
  | wfqWeightSet (mb : Fin 129) (e : Entry)
  /-- POLICER_SET (R280). -/
  | policerSet (mb : Fin 129) (e : Entry)
  /-- CLASS_SCHED_SET (R259). -/
  | classSchedSet (mb : Fin 129) (e : Entry)
  /-- SCHED_READ (R281). -/
  | schedRead (mb : Fin 129) (e : Entry)
  /-- DRAM_TRAIN (R298). -/
  | dramTrain (mb : Fin 129) (e : Entry)
  /-- DRAM_STATUS (R300). -/
  | dramStatus (mb : Fin 129) (e : Entry)
  /-- DRAM_RETRY (R299). -/
  | dramRetry (mb : Fin 129) (e : Entry)
  /-- DRAM_CAPTURE_SET (R301). -/
  | dramCaptureSet (mb : Fin 129) (e : Entry)
  /-- SLICE_CREATE (R313). -/
  | sliceCreate (mb : Fin 129) (e : Entry)
  /-- SLICE_RESIZE (R314). -/
  | sliceResize (mb : Fin 129) (e : Entry)
  /-- SLICE_DESTROY (R316). -/
  | sliceDestroy (mb : Fin 129) (e : Entry)
  /-- SLICE_RESET (R332). -/
  | sliceReset (mb : Fin 129) (e : Entry)
  /-- SLICE_STATUS (R333). -/
  | sliceStatus (mb : Fin 129) (e : Entry)
  /-- RING_PAIR_SET (R320). -/
  | ringPairSet (mb : Fin 129) (e : Entry)
  /-- VECTOR_MAP_SET (R309). -/
  | vectorMapSet (mb : Fin 129) (e : Entry)
  /-- TIME_SET (R338). -/
  | timeSet (mb : Fin 129) (e : Entry)
  /-- TIME_ADJUST (R339). -/
  | timeAdjust (mb : Fin 129) (e : Entry)
  /-- PROBE_SET (R351). -/
  | probeSet (mb : Fin 129) (e : Entry)
  /-- PROBE_READ (R352). -/
  | probeRead (mb : Fin 129) (e : Entry)
  /-- COUNTER_SNAPSHOT (R348). -/
  | counterSnapshot (mb : Fin 129) (e : Entry) (buf : Option Bytes)
  /-- PERF_SELECT (R355). -/
  | perfSelect (mb : Fin 129) (e : Entry)
  /-- LINE_CHANNEL_SET (R361). -/
  | lineChannelSet (mb : Fin 129) (e : Entry)
  /-- LINE_CHANNEL_STATUS (R362). -/
  | lineChannelStatus (mb : Fin 129) (e : Entry)
  /-- MODULE_ACCESS (R365). -/
  | moduleAccess (mb : Fin 129) (e : Entry) (reply : ModuleReply)
  /-- SYNCE_OUT_SET (R342). -/
  | synceOutSet (mb : Fin 129) (e : Entry)
  /-- PPS_OUT_SET (R341). -/
  | ppsOutSet (mb : Fin 129) (e : Entry)
  /-- GPIO_SET (R343). -/
  | gpioSet (mb : Fin 129) (e : Entry)
  /-- FAULT_STATUS_READ (R398). -/
  | faultStatusRead (mb : Fin 129) (e : Entry)
  /-- UNIT_FENCE (R380). -/
  | unitFence (mb : Fin 129) (e : Entry)
  /-- UNIT_UNFENCE (R382). -/
  | unitUnfence (mb : Fin 129) (e : Entry) (checkOk : Bool)
  /-- FAULT_INJECT (R389). -/
  | faultInject (mb : Fin 129) (e : Entry)
  /-- BELL_CONFIG (R385). -/
  | bellConfig (mb : Fin 129) (e : Entry)
  /-- WEAR_READ (R397). -/
  | wearRead (mb : Fin 129) (e : Entry)
  /-- TANDEM_CONFIG (R407). -/
  | tandemConfig (mb : Fin 129) (e : Entry)
  /-- TANDEM_STATUS (R430). -/
  | tandemStatus (mb : Fin 129) (e : Entry)
  /-- ROLE_HANDOVER (R421). -/
  | roleHandover (mb : Fin 129) (e : Entry)
  /-- CLAIM_RANK_SET (R403). -/
  | claimRankSet (mb : Fin 129) (e : Entry)
  /-- PELOTON_CONFIG (R426). -/
  | pelotonConfig (mb : Fin 129) (e : Entry)
  /-- FABRIC_STATUS (R430). -/
  | fabricStatus (mb : Fin 129) (e : Entry)
  /-- DIGEST_READ (R430). -/
  | digestRead (mb : Fin 129) (e : Entry)
  /-- MBOX_ENABLE (R32). -/
  | mboxEnable (mb : Fin 129) (seqInit : Option (BitVec 32))
  /-- MBOX_DISABLE (R36). -/
  | mboxDisable (mb : Fin 129) (seqInit : Option (BitVec 32))
  /-- MBOX_DOORBELL (R33). -/
  | mboxDoorbell (mb : Fin 129) (tail : BitVec 16)
  /-- MBOX_RSP_HEAD (R34). -/
  | mboxRspHead (mb : Fin 129) (head : BitVec 16)
  /-- MBOX_COMMAND_FETCH (R35). -/
  | mboxCommandFetch (mb : Fin 129) (opcode : BitVec 16) (entry : Option Entry)
  /-- COMMAND_TIME_LIMIT (R42). -/
  | commandTimeLimit (mb : Fin 129)
  /-- CLASS_LIMIT (R43). -/
  | classLimit (mb : Fin 129)
  /-- RING_TX_DOORBELL (R318). -/
  | ringTxDoorbell (ring : Fin 4096) (tail : BitVec 16)
  /-- RING_RX_DOORBELL (R318). -/
  | ringRxDoorbell (ring : Fin 4096) (tail : BitVec 16)
  /-- ERR_STATUS_CLEAR (R387). -/
  | errStatusClear (block : Fin 53) (mask : BitVec 64)
  /-- ERR_INJECT_ARM (R388). -/
  | errInjectArm (block : Fin 53) (value : BitVec 64)
  /-- PERF_SEL_CONFIG (R354). -/
  | perfSelConfig (block : Fin 53) (ctr : Fin 8) (value : BitVec 32)
  /-- PERF_COUNTER_CLEAR (R354). -/
  | perfCounterClear (block : Fin 53) (ctr : Fin 8)
  /-- PERF_OVF_CLEAR (R353). -/
  | perfOvfClear (block : Fin 53) (ctr : Fin 8)
  /-- PERF_COUNTER_SAMPLE (R354). -/
  | perfCounterSample (block : Fin 53) (ctr : Fin 8)
  /-- CHAIN_COUNT_SAMPLE (R223). -/
  | chainCountSample (store : Fin 10)
  /-- FAR_COUNT_SAMPLE (R223). -/
  | farCountSample
  /-- TIME_SAMPLE (R366). -/
  | timeSample
  /-- HOST_STOP (R384). -/
  | hostStop (value : Bool)
  /-- DUMP_REARM (R384). -/
  | dumpRearm
  /-- DEVICE_RESET (R399). -/
  | deviceReset (value : BitVec 64) (bootSrc : BitVec 2) (unitId : BitVec 2)
  /-- REGISTER_WRITE (R12). -/
  | registerWrite (bar2 : Bool) (addr : BitVec 24) (width : RegWidth) (value : BitVec 64)
  /-- SYS_RESET_ASSERT (R443). -/
  | sysResetAssert
  /-- RESET_RELEASE (R81). -/
  | resetRelease (bootSrc : BitVec 2) (unitId : BitVec 2)
  /-- FUSE_LOAD_COMPLETE (R81). -/
  | fuseLoadComplete (fuses : FuseMap)
  /-- BOOT_BUNDLE_READ (R89). -/
  | bootBundleRead (slot : Fin 2) (data other : Bytes)
  /-- MEMORY_INIT_COMPLETE (R82). -/
  | memoryInitComplete (failedUnits : List UnitRef) (failedBlock : Option (Fin 53))
  /-- SERDES_CALIBRATION_COMPLETE (R82). -/
  | serdesCalibrationComplete (target : CalTarget) (ok : Bool)
  /-- DEFAULT_CONFIGURATION (R82). -/
  | defaultConfiguration
  /-- PERST (R444). -/
  | perst
  /-- FUNCTION_LEVEL_RESET (R306). -/
  | functionLevelReset
  /-- PCIE_REFCLK_LOSS (R444). -/
  | pcieRefclkLoss
  /-- PCIE_LINK_UP (R444). -/
  | pcieLinkUp
  /-- LANE_SIGNAL_DETECT (R108). -/
  | laneSignalDetect (lane : Fin 128) (value : Bool)
  /-- LANE_LOCK_CHANGE (R108). -/
  | laneLockChange (lane : Fin 128) (cdr lock : Bool)
  /-- LINK_TRAINING_COMPLETE (R108). -/
  | linkTrainingComplete (port : Fin 128)
  /-- LINK_FAULT_CHANGE (R109). -/
  | linkFaultChange (port : Fin 128) (localFault remoteFault : Bool)
  /-- LINK_UP_HOLD_EXPIRY (R108). -/
  | linkUpHoldExpiry (port : Fin 128)
  /-- LINK_DOWN_HOLD_EXPIRY (R108). -/
  | linkDownHoldExpiry (port : Fin 128)
  /-- FLUSH_COMPLETE (R246). -/
  | flushComplete (port : Fin 128)
  /-- LANE_SKEW_MEASURED (R122). -/
  | laneSkewMeasured (port : Fin 128)
  /-- RX_FRAME_START (R114). -/
  | rxFrameStart (port : Fin 128) (bytes : Bytes) (start : RxStart)
  /-- PIPE_HEAD_TAKEN (R114). -/
  | pipeHeadTaken (port : Fin 128)
  /-- PACKET_PASS (R208). -/
  | packetPass (pipe : Fin 8)
  /-- MATCHER_RESULT (R144). -/
  | matcherResult (pipe : Fin 8)
  /-- RECIRC_HEAD (R215). -/
  | recircHead (pipe : Fin 8)
  /-- INGRESS_CELL_WRITE (R224). -/
  | ingressCellWrite (port : Fin 128)
  /-- RX_FRAME_END (R112). -/
  | rxFrameEnd (port : Fin 128) (fcs : FcsOutcome) (symbols : Nat) (fec : FecCounts)
  /-- STAT_UPDATE (R164). -/
  | statUpdate
  /-- XBAR_GRANT (R229). -/
  | xbarGrant (queue : XbarQueue)
  /-- SINK_CREDIT_RETURN (R229). -/
  | sinkCreditReturn (sink : CreditSink) (cells : Nat)
  /-- MCAST_REPLICATE (R244). -/
  | mcastReplicate (pipe : Fin 8) (cls : Fin 8)
  /-- PLAIN_CLASS_SELECT (R258). -/
  | plainClassSelect (port : Fin 128)
  /-- TX_FRAME_START (R117). -/
  | txFrameStart (port : Fin 128)
  /-- TX_FRAME_END (R115). -/
  | txFrameEnd (port : Fin 128)
  /-- PAUSE_TIMER_EXPIRY (R117). -/
  | pauseTimerExpiry (port : Fin 128) (prio : Fin 8)
  /-- PAUSE_WATCHDOG_TRIP (R118). -/
  | pauseWatchdogTrip (port : Fin 128) (prio : Fin 8)
  /-- PAUSE_WATCHDOG_END (R118). -/
  | pauseWatchdogEnd (port : Fin 128) (prio : Fin 8)
  /-- XOFF_REFRESH (R119). -/
  | xoffRefresh (port : Fin 128) (prio : Fin 8)
  /-- SUBSCRIBER_ADMISSION (R236). -/
  | subscriberAdmission (pipe : Fin 8)
  /-- SPILL_WRITE_DONE (R236). -/
  | spillWriteDone (ch : Fin 24)
  /-- REFILL_START (R239). -/
  | refillStart (queue : Fin 1048576)
  /-- REFILL_READ_DONE (R239). -/
  | refillReadDone (queue : Fin 1048576) (ok : Bool)
  /-- SUBSCRIBER_SELECT (R267). -/
  | subscriberSelect (port : Fin 128)
  /-- SHAPER_REFILL (R273). -/
  | shaperRefill (level : Fin 5) (index : Fin 1048576)
  /-- LOAN_OVERDUE (R251). -/
  | loanOverdue (store : Fin 10) (loan : Nat)
  /-- CHAIN_AUDIT_WALK_DONE (R252). -/
  | chainAuditWalkDone (store : Fin 10)
  /-- HOST_RX_FRAME (R322). -/
  | hostRxFrame
  /-- RX_DESCRIPTOR_FETCH_DONE (R317). -/
  | rxDescriptorFetchDone (ring : Fin 4096) (descs : List (BitVec 256))
  /-- TX_FETCH (R327). -/
  | txFetch (ring : Fin 4096)
  /-- TX_DESCRIPTORS_RECEIVED (R328); `start` is the start of the frame, as far as its tags. -/
  | txDescriptorsReceived (ring : Fin 4096) (descs : List (BitVec 256)) (start : Bytes)
  /-- TX_BUFFER_READ_DONE (R329). -/
  | txBufferReadDone (ring : Fin 4096) (data : Bytes)
  /-- DMA_COMPLETION_TIMEOUT (R307). -/
  | dmaCompletionTimeout (read : DmaRead)
  /-- PCIE_WRITE_ERROR (R451). -/
  | pcieWriteError (write : DmaWrite) (aer : BitVec 32)
  /-- RING_STOPPED (R320). -/
  | ringStopped (ring : Fin 4096) (tx : Bool)
  /-- GENERATION_DRAINED (R332). -/
  | generationDrained (slice : Fin 128)
  /-- MSIX_GAP_EXPIRY (R308). -/
  | msixGapExpiry (vector : Fin 2048)
  /-- FENCE_ISLAND_ACK (R60). -/
  | fenceIslandAck (mb : Fin 129) (island : Fin 33)
  /-- DRAIN_COMPLETE (R61). -/
  | drainComplete (mb : Fin 129)
  /-- PIPE_SWITCH (R66). -/
  | pipeSwitch (pipe : Fin 8)
  /-- ISLAND_TIME_STEP (R338). -/
  | islandTimeStep (island : Fin 33)
  /-- STAGED_FIRMWARE_READY (R98). -/
  | stagedFirmwareReady
  /-- PATCH_READY_TIMEOUT (R99). -/
  | patchReadyTimeout
  /-- PATCH_PERSIST_DONE (R90). -/
  | patchPersistDone (ok : Bool)
  /-- LEARN_REQUEST (R169). -/
  | learnRequest
  /-- TE_MICRO_TRAP (R94). -/
  | teMicroTrap
  /-- TE_LONG_ROUTINE_START (R165). -/
  | teLongRoutineStart
  /-- TE_LONG_STEP (R95). -/
  | teLongStep
  /-- AGEING_SWEEP_START (R173). -/
  | ageingSweepStart
  /-- SCRUB_PASS_START (R180). -/
  | scrubPassStart
  /-- OVERFLOW_COMPACTION_START (R165). -/
  | overflowCompactionStart
  /-- SHADOW_COPY_DONE (R180). -/
  | shadowCopyDone
  /-- PARITY_REPAIR (R179). -/
  | parityRepair
  /-- DRAM_REQUEST (R289). -/
  | dramRequest (ch : Fin 24) (cls : DramPort) (outcome : CodeOutcome)
  /-- DRAM_PANIC_RAISE (R290). -/
  | dramPanicRaise (ch : Fin 24)
  /-- DRAM_PANIC_CLEAR (R290). -/
  | dramPanicClear (ch : Fin 24)
  /-- DRAM_REFRESH_DUE (R292). -/
  | dramRefreshDue (ch : Fin 24) (bank : Fin 16) (mr4 : BitVec 3)
  /-- DRAM_WRITE_BATCH (R289). -/
  | dramWriteBatch (ch : Fin 24)
  /-- RETRAIN_START (R294). -/
  | retrainStart (ch : Fin 24)
  /-- DRAM_TRAINING_DONE (R293). -/
  | dramTrainingDone (ch : Fin 24) (result : TrainResult)
  /-- DRAM_RETRY_TIMER (R296). -/
  | dramRetryTimer (ch : Fin 24)
  /-- LOW_TRAFFIC_ENTRY (R297). -/
  | lowTrafficEntry
  /-- SELF_REFRESH_ENTRY (R297). -/
  | selfRefreshEntry (ch : Fin 24)
  /-- SELF_REFRESH_WAKE (R297). -/
  | selfRefreshWake (ch : Fin 24)
  /-- CAPTURE_REGION_RESERVED (R301). -/
  | captureRegionReserved
  /-- CAPTURE_REPLAY_DONE (R302). -/
  | captureReplayDone
  /-- DUMP_RESERVED (R385). -/
  | dumpReserved
  /-- DUMP_COMPLETE (R386). -/
  | dumpComplete
  /-- CADENCE_CYCLE (R335). -/
  | cadenceCycle (expanders : List (BitVec 16))
  /-- PERIODIC_SNAPSHOT_TICK (R348). -/
  | periodicSnapshotTick (timer : Fin 16)
  /-- SNAPSHOT_DONE (R349). -/
  | snapshotDone (timer : Fin 16)
  /-- PROBE_WINDOW_END (R352). -/
  | probeWindowEnd (timer : Fin 16)
  /-- PERF_SAMPLE_TICK (R355). -/
  | perfSampleTick
  /-- SLEW_COMPLETE (R339). -/
  | slewComplete
  /-- PPS_PULSE (R341). -/
  | ppsPulse
  /-- SYNCE_RESUME (R342). -/
  | synceResume (output : Fin 2)
  /-- GPIO_EDGE (R343). -/
  | gpioEdge (gpio : Fin 32) (rising : Bool)
  /-- LINE_SENSOR_FRAME (R356). -/
  | lineSensorFrame (bus : Fin 4) (words : Option (List (BitVec 32)))
  /-- LINE_ALARM_INPUT (R357). -/
  | lineAlarmInput (ch : Fin 32)
  /-- LINE_CHANNEL_ENABLE (R360). -/
  | lineChannelEnable (ch : Fin 32)
  /-- INRUSH_END (R357). -/
  | inrushEnd (ch : Fin 32)
  /-- LINE_RETRY_EXPIRY (R359). -/
  | lineRetryExpiry (ch : Fin 32)
  /-- LINE_RETRY_RESTORE (R359). -/
  | lineRetryRestore (ch : Fin 32)
  /-- HEARTBEAT (R383). -/
  | heartbeat
  /-- HEARTBEAT_EXPIRY (R383). -/
  | heartbeatExpiry
  /-- HANDSHAKE_TIMEOUT (R374). -/
  | handshakeTimeout (block : Fin 53)
  /-- SYSCLK_MONITOR (R391). -/
  | sysclkMonitor (bad : Bool) (kHz : BitVec 32)
  /-- SERDES_REFCLK_MONITOR (R391). -/
  | serdesRefclkMonitor (target : CalTarget) (bad : Bool) (ppm : BitVec 32)
  /-- THERMAL_SAMPLE (R395). -/
  | thermalSample (temps : List Int) (slowdown : List Nat) (demandMv : Nat)
  /-- WEAR_MARGIN (R396). -/
  | wearMargin (mV : Nat)
  /-- VOLTAGE_LIMIT (R396). -/
  | voltageLimit (shortfallPs : BitVec 32)
  /-- CLAIM_FRAME_RECEIVED (R404). -/
  | claimFrameReceived (path : ClaimPath) (frame : BitVec 32)
  /-- CLAIM_PATH_TIMEOUT (R404). -/
  | claimPathTimeout (path : ClaimPath)
  /-- HOLDOFF_EXPIRY (R405). -/
  | holdoffExpiry
  /-- BELL_IN_TIMEOUT (R419). -/
  | bellInTimeout
  /-- TANDEM_LINK_DOWN (R412). -/
  | tandemLinkDown
  /-- TANDEM_LINK_UP (R412). -/
  | tandemLinkUp
  /-- LINK_DOWN_INELIGIBLE (R412). -/
  | linkDownIneligible
  /-- JOURNAL_RECORD_RECEIVED (R410). -/
  | journalRecordReceived (record : JournalRecord)
  /-- MIRROR_MESSAGE_RECEIVED (R411). -/
  | mirrorMessageReceived (message : MirrorMessage)
  /-- TANDEM_CONTROL_MESSAGE (R407). -/
  | tandemControlMessage (message : ControlMessage)
  /-- JOIN_SNAPSHOT_RECEIVED (R408). -/
  | joinSnapshotReceived (snapshot : JoinSnapshot)
  /-- STOKER_APPLIED_REPORT (R421). -/
  | stokerAppliedReport (report : AppliedReport)
  /-- SEAL_TIMER (R416). -/
  | sealTimer (half : Bool)
  /-- SEAL_RECEIVED (R416). -/
  | sealReceived (port : Fin 128) (mark : SealFrame) (late : Bool)
  /-- DIGEST_BLOCK_RECEIVED (R417). -/
  | digestBlockReceived (block : DigestBlock)
  /-- PARTNER_BLOCK_TIMEOUT (R417). -/
  | partnerBlockTimeout (port : Fin 128)
  /-- REFEREE_CODES_RECEIVED (R418). -/
  | refereeCodesReceived (codes : RefereeCodes)
  /-- FABRIC_FRAME_ARRIVAL (R428). -/
  | fabricFrameArrival (link : Fin 3) (frame : FabricFrame)
  /-- FABRIC_CREDIT_RETURN (R427). -/
  | fabricCreditReturn (link : Fin 3) (cls : Fin 8) (cells : Nat)
  /-- FABRIC_LINK_CONTROL_WORD (R426). -/
  | fabricLinkControlWord (link : Fin 3) (word : FabricControl)
  /-- FABRIC_LANE_LOCK_LOSS (R425). -/
  | fabricLaneLockLoss (link : Fin 3) (lane : Fin 8)
  /-- FABRIC_SPARE_TRAINED (R425). -/
  | fabricSpareTrained (link : Fin 3)
  /-- LOCKSTEP_MISMATCH (R376). -/
  | lockstepMismatch (pair : Fin 2)
  /-- BELL_IN_EDGE (R419). -/
  | bellInEdge
  /-- PERST_RELEASE (R444). -/
  | perstRelease
  /-- PCIE_REFCLK_RETURN (R444). -/
  | pcieRefclkReturn
  /-- FABRIC_LINK_DOWN (R426). -/
  | fabricLinkDown (link : Fin 3)
  /-- FABRIC_LINK_UP (R425). -/
  | fabricLinkUp (link : Fin 3) (word : FabricControl)
  /-- POWER_APPLIED (R441). -/
  | powerApplied
  /-- POWER_REMOVED (R441). -/
  | powerRemoved
deriving DecidableEq, Repr

end Sys2Proof
end

