-- ==== Sys2Proof/Machine/StateControl.lean ====
section
/-! DEFINITION. The state of the control complex: mailboxes, boot, fuses, firmware, gears, fences, host
interface, slices, rings, time, timers, probes, line supervision, faults and the bell. -/
namespace Sys2Proof.Machine
open Sys2Proof

/-- A word of on-chip memory whose failure has an effect of its own (R137, R210, R212, R377, R378): in the switch core; in the copy
that a pipe holds of a bank of a control store; in the patch memories and ROMs of the sequencer types (0 parse, 1 action,
2 table engine); and, told apart by their kind only, the data words of a block's cells, its descriptor, link and loan words, and
the words of the Tsuska SRAM. -/
inductive ChipWord where
  | pair (n : Nat) | policer (n : Nat) | node (key : Nat) | classQueue (q : Nat) | nodeLink (key : Nat) | trapArea
  | graphNode (pipe : Nat) (bank : Bool) (n : Nat) | transition (pipe : Nat) (bank : Bool) (n : Nat)
  | customer (pipe : Nat) (bank : Bool) (n : Nat)
  | instruction (pipe : Nat) (bank : Bool) (n : Nat) | template (pipe : Nat) (bank : Bool) (n : Nat)
  | plan (pipe : Nat) (bank : Bool) (n : Nat) | profile (pipe : Nat) (bank : Bool) (n : Nat)
  | session (pipe : Nat) (bank : Bool) (n : Nat)
  | matrixRow (pipe : Nat) (copy : Bool) (n : Nat)
  | patchWord (type : Nat) (half : Bool) (n : Nat)
  | rom (type address : Nat)
  | cellData | descriptor | sram
deriving DecidableEq, Repr

/-- A word with flipped bits: how many, the DETAIL that reports it, and whether an injection flipped them (R367, R389). -/
structure BadWord where
  word   : ChipWord
  bits   : Nat
  detail : Nat
  inj    : Bool
deriving DecidableEq, Repr

/-- STATE of MBOX_STATUS (Table 2-6), and of a ring (Table 12-19). -/
inductive RunState where
  | disabled | running | error | stopping
deriving DecidableEq, Repr

/-- ERR_CAUSE of MBOX_STATUS (Table 2-6). -/
inductive MboxCause where
  | none | badBase | badVector | fetchFault | seqGap | doorbellRange | headRange
deriving DecidableEq, Repr

/-- A command in execution whose response a later event posts (R41, R42). -/
structure InExec where
  opcode  : BitVec 16
  entry   : Entry
  buf     : Option Bytes
  startNs : Nat
  /-- its class limit has passed without a response (R43) -/
  missed  : Bool
  /-- a batch that the firmware has not finished: items applied, and items still to apply (R39) -/
  batch   : Option (Nat × List Bytes)
deriving DecidableEq, Repr

/-- One mailbox (R29–R36, Tables 2-1 to 2-8). -/
structure Mailbox where
  cmdBase  : BitVec 64
  rspBase  : BitVec 64
  vector   : BitVec 11
  intMode  : BitVec 2
  rspLog2  : BitVec 4
  cmdLog2  : BitVec 4
  seqInit  : BitVec 32
  enable   : Bool
  errCause : MboxCause
  state    : RunState
  cmdTail  : BitVec 16
  cmdHead  : BitVec 16
  rspTail  : BitVec 16
  rspHead  : BitVec 16
  /-- the number that the next command must carry (R35) -/
  nextSeq  : BitVec 32
  /-- fetched commands that have not started, oldest first (R30, R36) -/
  fetched  : List (BitVec 16 × Entry)
  /-- the command in execution -/
  inExec   : Option InExec
  /-- no response is written for the command in execution (a Function Level Reset, R306) -/
  muted    : Bool
deriving DecidableEq, Repr

/-- The reset values of Tables 2-2 to 2-8. -/
def Mailbox.reset : Mailbox :=
  { cmdBase := 0, rspBase := 0, vector := 0, intMode := 0, rspLog2 := 4, cmdLog2 := 4, seqInit := 0,
    enable := false, errCause := .none, state := .disabled, cmdTail := 0, cmdHead := 0, rspTail := 0,
    rspHead := 0, nextSeq := 0, fetched := [], inExec := none, muted := false }

/-- A record of the firmware log (Table 2-22); TIME in `time`. -/
structure FwRecord where
  seq    : BitVec 32
  kind   : Nat
  mbox   : Nat
  status : Nat
  opcode : BitVec 16
  index  : BitVec 32
  detail : BitVec 64
  time   : Nat
deriving DecidableEq, Repr

/-- The holder of a claimable resource (R49). -/
structure Claim where
  opcode : BitVec 16
  object : Nat
deriving DecidableEq, Repr

/-- One sequencer's patch: control words and match entries (ROM address, patch index) (R88). -/
structure SeqPatch where
  words   : List (BitVec 256)
  entries : List (BitVec 14 × BitVec 7)
deriving DecidableEq, Repr

/-- An empty patch: no words, no enabled match registers (R88). -/
def SeqPatch.empty : SeqPatch := { words := [], entries := [] }

/-- What an authenticated bundle leaves in the device (R87, R88). -/
structure Bundle where
  id            : BitVec 64
  version       : Nat
  keySlot       : Nat
  revokeMask    : BitVec 4
  fwMajor       : BitVec 16
  fwMinor       : BitVec 16
  commandLevel  : BitVec 16
  stateFormat   : Nat
  stateFormatMin : Nat
  parse         : SeqPatch
  action        : SeqPatch
  table         : SeqPatch
deriving DecidableEq, Repr

/-- PHASE of BOOT_STATUS (Table 4-3). -/
inductive BootPhase where
  | reset | fuseLoad | romBoot | authenticating | firmwareInit | ready | failed | hold
deriving DecidableEq, Repr

/-- The boot state (R79–R84, Table 4-3). -/
structure Boot where
  phase         : BootPhase
  bootSrc       : BitVec 2
  unitId        : BitVec 2
  slot0Step     : BitVec 4
  slot1Step     : BitVec 4
  slotBooted    : BitVec 2
  keySlot       : BitVec 2
  bundleVersion : BitVec 8
  rollbackValue : BitVec 8
  initFail      : Bool
  initBlock     : BitVec 6
  /-- CAP_WORD_0 to 2 have been loaded (R46) -/
  capValid      : Bool
  /-- on-chip memory initialisation has ended -/
  memReady      : Bool
  /-- units whose initialisation or calibration failed: KINDs of Table 14-7, fenced with the default configuration, 7 for
  the Tandem link and 8 for a fabric link, which stay down (R82) -/
  failed        : List UnitRef
deriving DecidableEq, Repr

/-- Table 4-3's reset values; the straps are the balls' (R79, log entry 6). -/
def Boot.reset : Boot :=
  { phase := .reset, bootSrc := 0, unitId := 0, slot0Step := 0, slot1Step := 0, slotBooted := 3, keySlot := 0,
    bundleVersion := 0, rollbackValue := 0, initFail := false, initBlock := 0x3F, capValid := false,
    memReady := false, failed := [] }

/-- The OTP fuses (Table 4-4). The spec gives no contents: log entry 5. -/
structure Fuses where
  part        : Part
  romRelease  : BitVec 8
  siliconStep : BitVec 8
  serial      : BitVec 64
  keyHash     : List (BitVec 384)
  provisioned : BitVec 4
  revoked     : BitVec 4
  rollback    : BitVec 127
  bundleKey   : BitVec 256
  debugLock   : Bool
  /-- the two stored copies of the bits that have two: a bit reads as burned when either copy is -/
  first       : FuseBits
  second      : FuseBits
deriving DecidableEq, Repr

def Fuses.reset : Fuses :=
  { part := .bx6400, romRelease := 0, siliconStep := 0, serial := 0, keyHash := [0, 0, 0, 0], provisioned := 0,
    revoked := 0, rollback := 0, bundleKey := 0, debugLock := false, first := FuseBits.blank, second := FuseBits.blank }

/-- A live activation in progress (R98–R100). -/
structure Activation where
  mb         : Nat
  revert     : Bool
  started    : Bool
  tablePending : Bool
deriving DecidableEq, Repr

/-- The Auley firmware and the sequencers' patches (R46, R53, R90–R100, Tables 2-17, 4-10, 4-11). -/
structure Firmware where
  fwMajor      : BitVec 16
  fwMinor      : BitVec 16
  commandLevel : BitVec 16
  fwReady      : Bool
  /-- both lockstep pairs are halted (R376) -/
  halted       : Bool
  log          : List FwRecord
  logSeq       : BitVec 32
  active       : Option Bundle
  staged       : Option Bundle
  previous     : Option Bundle
  /-- bank, and patch memory half, that new work uses -/
  bank         : Bool
  activation   : Option Activation
  /-- a bundle whose write to flash is under way: mailbox and slot -/
  persist      : Option (Nat × Nat × Bytes)
  /-- the commands completed with OK in this cycle that the journal carries (R409) -/
  journal      : List JournalCommand
  /-- the last command started came on mailbox 0, and the slice mailbox served last (R41) -/
  managerLast  : Bool
  lastSlice    : Nat
  /-- items of a batch that the firmware applies in the step that starts it; none: all. The model's own field (log entry 118) -/
  pace         : Option Nat
  /-- patch words and match registers with which the firmware has redirected bad ROM words, by sequencer type × 2 + bank (R378) -/
  repairs      : Tab SeqPatch
deriving DecidableEq, Repr

def Firmware.reset : Firmware :=
  { fwMajor := 0, fwMinor := 0, commandLevel := 0, fwReady := false, halted := false, log := [], logSeq := 1,
    active := none, staged := none, previous := none, bank := false, activation := none,
    persist := none, journal := [], managerLast := false, lastSlice := 0, pace := none, repairs := [] }

/-- A gear change in progress (R69–R73). -/
structure GearChange where
  mb     : Nat
  domain : Nat
  target : Nat
  done   : Nat
  total  : Nat
deriving DecidableEq, Repr

/-- The gear positions (Table 1-7) and the change in progress. -/
structure Gears where
  table   : Nat
  buffer  : Nat
  matcher : Nat
  latency : Nat
  change  : Option GearChange
deriving DecidableEq, Repr

/-- The default positions (Table 1-7). -/
def Gears.reset : Gears := { table := 1, buffer := 1, matcher := 1, latency := 2, change := none }

/-- A FENCE that has not responded (R59–R63). -/
structure PendingFence where
  drain   : Bool
  acked   : List Nat
  /-- islands that it does not await: fenced when it was issued, or since (R63) -/
  left    : List Nat
  /-- FREE_NS at the last acknowledgement -/
  lastAck : Option Nat
  /-- fence stamps of the entry points: pipes 0–7, host port 8 -/
  stamps  : Tab Nat
  /-- FREE_NS and cycle at the last acknowledgement, once every island has acknowledged -/
  done    : Option Nat
  /-- the drain is complete -/
  empty   : Bool
  /-- events of the owner, generated before that moment, that are not yet written to host memory: vectors with a merged
  message, tables whose notification interrupt is held back, and periodic snapshots (R60) -/
  vectors : List Nat
  learns  : List Nat
  snaps   : List (Nat × Nat)
deriving DecidableEq, Repr

/-- A vector of the MSI-X table with its pending bit and gap state (R305, R308). -/
structure Vector where
  addr    : BitVec 64
  data    : BitVec 32
  masked  : Bool
  pending : Bool
  lastSent : Option Nat
  /-- a merged event waits for MIN_GAP: the slice and generation that raised it, or none for the manager -/
  merged  : Option (Option (Nat × BitVec 16))
deriving DecidableEq, Repr

/-- Masked, as the MSI-X table of PCIe resets (PRESUMED, log entry 8). -/
def Vector.reset : Vector :=
  { addr := 0, data := 0, masked := true, pending := false, lastSent := none, merged := none }

/-- A mapping of VECTOR_MAP_SET (R309). -/
structure Mapping where
  mbox   : Nat
  kind   : Nat
  object : Nat
  vector : Nat
  minGap : Nat
deriving DecidableEq, Repr

/-- A counter event ring (R346). -/
structure EventRing where
  base : Nat
  log2 : Nat
  seq  : BitVec 32
  /-- slots that have been written -/
  slots : Nat
deriving DecidableEq, Repr

/-- No ring. SEQ starts at 1 when a ring is set (R346). -/
def EventRing.none : EventRing := { base := 0, log2 := 0, seq := 1, slots := 0 }

/-- PCIe and the host-facing state (R304–R309, R346, R444, Table 16-7). -/
structure HostIf where
  /-- bytes the device has written to host memory, addresses rising -/
  mem      : List (Nat × Byte)
  /-- the bytes written with a PASID, by PASID (R321) -/
  spaces   : Tab (List (Nat × Byte))
  linkUp   : Bool
  training : Bool
  /-- speed in GT/s and width to which the link has trained; 0 while it is down (Table 12-1) -/
  speed    : Nat
  width    : Nat
  /-- power state D3hot; D0 otherwise (Table 12-1) -/
  d3hot    : Bool
  perstN   : Bool
  refclk   : Bool
  vectors  : Tab Vector
  maps     : List Mapping
  rings    : Tab EventRing
  /-- samples of RS registers, by address (R10) -/
  samples  : Tab (BitVec 64)
  /-- the ring pair at which the transmit rotation goes on (R327) -/
  txTurn   : Nat
deriving DecidableEq, Repr

def HostIf.reset : HostIf :=
  { mem := [], spaces := [], linkUp := false, training := false, speed := 0, width := 0, d3hot := false, perstN := true, refclk := true,
    vectors := [], maps := [], rings := [], samples := [], txTurn := 0 }

/-- STATE of a slice (R310). -/
inductive SliceState where
  | none | active | resetting | closing
deriving DecidableEq, Repr

/-- First index and count of a range component (Table 12-3). -/
structure Range where
  first : Nat
  count : Nat
deriving DecidableEq, Repr

/-- One slice (R310–R316, Tables 12-3, 12-13). -/
structure Slice where
  state      : SliceState
  gen        : BitVec 16
  pasid      : BitVec 20
  pasidEn    : Bool
  ports      : BitVec 128
  /-- count components: c × 16, plus the pipe for components 1 and 6 -/
  counts     : Tab Nat
  /-- range components by number -/
  ranges     : Tab Range
  genDiscards : BitVec 64
  rxNoRing   : BitVec 64
  released   : BitVec 64
  /-- the mailbox that waits for a reset or destroy, and GEN_DISCARDS when it began -/
  waiting    : Option (Nat × BitVec 64)
  lifeline   : Bool
  budget     : Nat
deriving DecidableEq, Repr

def Slice.reset : Slice :=
  { state := .none, gen := 0, pasid := 0, pasidEn := false, ports := 0, counts := [], ranges := [],
    genDiscards := 0, rxNoRing := 0, released := 0, waiting := none, lifeline := false, budget := 0 }

/-- A token bucket (R273): tokens in units of 2^-16 byte. `rate` in kb/s, 0 unset. -/
structure Bucket where
  rate   : Nat
  size   : Nat
  tokens : Int
  rem    : Nat
  last   : Nat
deriving DecidableEq, Repr

def Bucket.zero : Bucket := { rate := 0, size := 0, tokens := 0, rem := 0, last := 0 }

/-- CAUSE of a ring (Table 12-19). -/
inductive RingCause where
  | none | doorbellRange | fetchFault
deriving DecidableEq, Repr

/-- A receive descriptor posted by the host (Table 12-7). -/
structure RxDesc where
  addr   : Nat
  cookie : BitVec 64
deriving DecidableEq, Repr

/-- A frame that a receive ring is writing (R323): its last buffer is written, and the completion of that buffer is not yet. -/
structure RxFrame where
  frameId : Nat
  /-- the buffer's number within the frame -/
  index   : Nat
  desc    : RxDesc
  gen     : BitVec 16
  /-- a write of it was in error (R325) -/
  fault   : Bool
deriving DecidableEq, Repr

/-- A receive ring (R317–R326). -/
structure RxRing where
  state    : RunState
  cause    : RingCause
  tail     : BitVec 16
  head     : BitVec 16
  log2     : Nat
  base     : Nat
  bufUnits : Nat
  bucket   : Bucket
  /-- descriptors fetched and not yet used -/
  posted   : List RxDesc
  /-- descriptors of a fetch outstanding, with the generation that began it -/
  fetching : Option (Nat × BitVec 16)
  writing  : Option RxFrame
  frames   : BitVec 64
  bytes    : BitVec 64
  noBuffer : BitVec 64
  truncated : BitVec 64
  rateDrops : BitVec 64
deriving DecidableEq, Repr

def RxRing.reset : RxRing :=
  { state := .disabled, cause := .none, tail := 0, head := 0, log2 := 0, base := 0, bufUnits := 0,
    bucket := Bucket.zero, posted := [], fetching := none, writing := none, frames := 0, bytes := 0, noBuffer := 0,
    truncated := 0, rateDrops := 0 }

/-- A transmit descriptor (Table 12-9), as fetched. -/
structure TxDesc where
  addr   : Nat
  cookie : BitVec 64
  length : Nat
  last   : Bool
  tsReq  : Bool
  destKind : Nat
  dest   : Nat
  reserved : Bool
deriving DecidableEq, Repr

/-- What a transmit ring's DMA has outstanding (R327–R331). -/
inductive TxWork where
  | idle
  | fetching (gen : BitVec 16)
  /-- the loan is of the store of `pipe` (R251) -/
  | reading (gen : BitVec 16) (descs : List TxDesc) (pipe loan : Nat)
deriving DecidableEq, Repr

/-- A transmit ring (R317–R321, R327–R330). -/
structure TxRing where
  state    : RunState
  cause    : RingCause
  tail     : BitVec 16
  head     : BitVec 16
  done     : BitVec 16
  log2     : Nat
  base     : Nat
  bucket   : Bucket
  work     : TxWork
  frames   : BitVec 64
  bytes    : BitVec 64
  errors   : BitVec 64
deriving DecidableEq, Repr

def TxRing.reset : TxRing :=
  { state := .disabled, cause := .none, tail := 0, head := 0, done := 0, log2 := 0, base := 0,
    bucket := Bucket.zero, work := .idle, frames := 0, bytes := 0, errors := 0 }

/-- A ring pair (R317); `stopMb` is the mailbox of the RING_PAIR_SET that waits for it. -/
structure RingPair where
  tx : TxRing
  rx : RxRing
  stopMb : Option Nat
deriving DecidableEq, Repr

def RingPair.reset : RingPair := { tx := TxRing.reset, rx := RxRing.reset, stopMb := none }

/-- A slew in progress (R339): sign, rate in ppm and what remains, in units of 2^-32 ns. -/
structure Slew where
  negative : Bool
  ppm      : Nat
  remaining : Nat
deriving DecidableEq, Repr

/-- PPS_OUT (R341): high until `endNs`. -/
structure Pps where
  enable   : Bool
  widthUs  : Nat
  offsetNs : Int
  /-- PTP time has been stepped since the last pulse -/
  stepped  : Bool
  /-- FREE_NS at which the last pulse ends -/
  endNs    : Nat
deriving DecidableEq, Repr

/-- A SyncE output (R342). -/
structure SyncE where
  enable    : Bool
  port      : Nat
  lane      : Nat
  squelched : Bool
deriving DecidableEq, Repr

/-- A GPIO ball (R343). FUNCTION 0–3; `level` is the deglitched input. -/
structure Gpio where
  function : Nat
  value    : Bool
  edges    : BitVec 2
  level    : Bool
  lastEdge : Option Nat
deriving DecidableEq, Repr

/-- An unconfigured ball drives nothing; its input level after reset is not given (log entry 6). -/
def Gpio.reset : Gpio := { function := 0, value := false, edges := 0, level := false, lastEdge := none }

/-- A periodic snapshot (R348, R349). -/
structure PeriodicSnap where
  mbox    : Nat
  addr    : Nat
  first   : Nat
  count   : Nat
  clear   : Bool
  /-- bytes of half the buffer -/
  half    : Nat
  number  : Nat
  running : Option Nat
  skipped : Bool
deriving DecidableEq, Repr

/-- The use of a general timer (R340). -/
inductive TimerUse where
  | probes | snapshot (p : PeriodicSnap) | perf
deriving DecidableEq, Repr

/-- A claimed general timer: its period in cadence cycles. -/
structure Timer where
  period : Nat
  use    : TimerUse
deriving DecidableEq, Repr

/-- The results of one probe window (R350). DELAY_MIN and DELAY_MAX saturate at 2^32 − 1. -/
structure ProbeWindow where
  out      : Nat
  lost     : Nat
  delaySum : BitVec 64
  delayMin : Nat
  delayMax : Nat
deriving DecidableEq, Repr

/-- No frame yet; the minimum of no frame is read by nothing (PROBE_READ gives a free value for it). -/
def ProbeWindow.empty : ProbeWindow := { out := 0, lost := 0, delaySum := 0, delayMin := 0, delayMax := 0 }

/-- The target of a probe (R350). -/
inductive ProbeTarget where
  | queue (q : Nat) | portClass (port cls : Nat)
deriving DecidableEq, Repr

/-- An enabled probe (R350–R352). -/
structure Probe where
  mbox      : Nat
  timer     : Nat
  target    : ProbeTarget
  delayLimit : Nat
  lossPpm   : Nat
  window    : ProbeWindow
  last      : ProbeWindow
  lastCycle : Nat
  windows   : Nat
  totalOut  : BitVec 64
  totalLost : BitVec 64
deriving DecidableEq, Repr

/-- STATE of a power-feed channel (Table 13-20). -/
inductive LineState where
  | off | on | tripped | latched
deriving DecidableEq, Repr

/-- The settings of LINE_CHANNEL_SET (Table 13-13). -/
structure LineSettings where
  confirm   : Nat
  alarmGpio : Nat
  vLsbUv    : Nat
  iLsbUa    : Nat
  tripMa    : Nat
  inrushMa  : Nat
  inrushMs  : Nat
  uvMv      : Nat
  ovMv      : Nat
  retryMs   : Nat
  retryMax  : Nat
deriving DecidableEq, Repr

/-- A power-feed channel (R356–R362). -/
structure LineChannel where
  set        : LineSettings
  /-- LINE_EN is high -/
  enabled    : Bool
  /-- an enable or a retry waits for the next sensor period -/
  enablePending : Bool
  state      : LineState
  cause      : Nat
  retriesLeft : Nat
  currentMa  : Nat
  voltageMv  : Nat
  overCount  : Nat
  voltCount  : Nat
  badCount   : Nat
  /-- the alarm GPIO is low (cause 4's condition) -/
  alarmNow   : Bool
  /-- the inrush period runs -/
  inrush     : Bool
  implausible : BitVec 64
deriving DecidableEq, Repr

def LineChannel.reset : LineChannel :=
  { set := { confirm := 0, alarmGpio := 0xFF, vLsbUv := 0, iLsbUa := 0, tripMa := 0, inrushMa := 0, inrushMs := 0,
             uvMv := 0, ovMv := 0, retryMs := 0, retryMax := 0 },
    enabled := false, enablePending := false, state := .off, cause := 0, retriesLeft := 0, currentMa := 0,
    voltageMv := 0, overCount := 0, voltCount := 0, badCount := 0, alarmNow := false, inrush := false, implausible := 0 }

/-- A module management bus (R363–R365). -/
structure ModuleBus where
  fast     : Bool
  muxAddr  : Nat
  expAddr  : Nat
  held     : Bool
  present  : BitVec 8
  int      : BitVec 8
  /-- last bank and page written per position -/
  selected : Tab (Option (Nat × Nat))
deriving DecidableEq, Repr

/-- Table 13-21's reset values. -/
def ModuleBus.reset : ModuleBus :=
  { fast := false, muxAddr := 0, expAddr := 0, held := false, present := 0, int := 0, selected := [] }

/-- The Cadence unit (R335–R366). `ptp` counts units of 2^-32 ns below 2^48 s. -/
structure Cadence where
  freeNs   : BitVec 64
  ptp      : Nat
  stepCount : BitVec 2
  freq     : Int
  slew     : Option Slew
  /-- islands that have not taken the PTP step in progress, the step in units of 2^-32 ns, the mailbox that waits for the
  islands, and what it is answered -/
  stepPending : List Nat
  stepBy   : Int
  stepMb   : Option Nat
  stepResult : BitVec 128
  timers   : Tab (Option Timer)
  pps      : Pps
  synce    : Tab SyncE
  gpios    : Tab Gpio
  probes   : Tab (Option Probe)
  lines    : Tab LineChannel
  modules  : Tab ModuleBus
  counters : Tab (BitVec 64)
deriving DecidableEq, Repr

def SyncE.reset : SyncE := { enable := false, port := 0, lane := 0, squelched := true }

def Cadence.reset : Cadence :=
  { freeNs := 0, ptp := 0, stepCount := 0, freq := 0, slew := none, stepPending := [], stepBy := 0, stepMb := none, stepResult := 0,
    timers := [], pps := { enable := false, widthUs := 0, offsetNs := 0, stepped := false, endNs := 0 }, synce := [],
    gpios := [], probes := [], lines := [], modules := [], counters := [] }

/-- A performance counter (R353, R354). -/
structure PerfCounter where
  event  : BitVec 16
  mode   : BitVec 2
  chain  : Bool
  ovf    : Bool
  count  : BitVec 48
  /-- its part of the last chain sample -/
  sampled : BitVec 48
  /-- PERF_SAMPLE_i -/
  ticked : BitVec 48
deriving DecidableEq, Repr

def PerfCounter.reset : PerfCounter :=
  { event := 0, mode := 0, chain := false, ovf := false, count := 0, sampled := 0, ticked := 0 }

/-- A history entry (Table 14-4). -/
structure HistEntry where
  time     : Nat
  code     : Nat
  severity : Nat
  inj      : Bool
  count    : Nat
  detail   : BitVec 32
deriving DecidableEq, Repr

/-- The error registers, history queue and performance counters of one block page (R368–R371, R353). -/
structure Block where
  codes    : BitVec 48
  /-- codes set by a real detection since they were last clear (INJ_ONLY, R390) -/
  real     : BitVec 48
  /-- codes whose condition holds (the Cause column of Table 14-5) -/
  causes   : BitVec 48
  mask     : BitVec 48
  injCode  : BitVec 6
  fatalOk  : Bool
  total    : BitVec 32
  next     : BitVec 3
  history  : Tab (Option HistEntry)
  perf     : Tab PerfCounter
  sampleTime  : BitVec 64
  sampleCycle : BitVec 32
  /-- armed FAULT_INJECT kinds, with their ADDRESS and BITS (R389) -/
  armed    : Tab (Option (Nat × Nat × Nat))
deriving DecidableEq, Repr

def Block.reset : Block :=
  { codes := 0, real := 0, causes := 0, mask := 0, injCode := 0, fatalOk := false, total := 0, next := 0, history := [],
    perf := [], sampleTime := 0, sampleCycle := 0, armed := [] }

/-- DUMP_STATE of BELL_CTRL (Table 14-8). -/
inductive DumpState where
  | off | armed | writing | done
deriving DecidableEq, Repr

/-- What the post-mortem dump records (Table 14-9). -/
structure Dump where
  freeNs  : Nat
  cycle   : BitVec 32
  block   : Nat
  code    : Nat
  bundle  : BitVec 64
  fwMinor : BitVec 16
  blocks  : Tab Block
  mboxes  : Tab Mailbox
  log     : List FwRecord
deriving DecidableEq, Repr

/-- The bell and its monitors (R383–R386). -/
structure Bell where
  rateHz    : BitVec 16
  hostStop  : Bool
  heartbeat : Bool
  lastBeat  : Nat
  /-- FW_READY has become 1 since reset (R383) -/
  started   : Bool
  dumpState : DumpState
  dumpOn    : Bool
  dump      : Option Dump
  /-- the rate held before the Tandem role (R401) -/
  soloRate  : BitVec 16
deriving DecidableEq, Repr

def Bell.reset : Bell :=
  { rateHz := 0x3E8, hostStop := false, heartbeat := false, lastBeat := 0, started := false, dumpState := .off,
    dumpOn := false, dump := none, soloRate := 0x3E8 }

/-- Temperature, voltage and wear (R395–R397). -/
structure Wear where
  hottest    : Int
  demandMv   : Nat
  slowdown   : List Nat
  /-- equivalent hours at 90 °C since reset release, in units of 10^-9 ms -/
  equivalent : Nat
deriving DecidableEq, Repr

/-- VDD_CORE is 0.75 V at power-up (R442); the other readings start at 0 (log entry 7). -/
def Wear.reset : Wear := { hottest := 0, demandMv := 750, slowdown := [], equivalent := 0 }

/-- The lifeline watch of one (port, slice) pair: losses of the last 10 cycles, newest first (R393). -/
structure LifelineWatch where
  recent : List Nat
  now    : Nat
  /-- a marked frame of the slice was assigned to the port in this cycle -/
  assigned : Bool
  overBudget : Bool
deriving DecidableEq, Repr

def LifelineWatch.reset : LifelineWatch := { recent := [], now := 0, assigned := false, overBudget := false }

end Sys2Proof.Machine
end

