-- ==== Sys2Proof/Config.lean ====
section
/-! DEFINITION. What the spec leaves open or names without giving: free values and named external
functions. Each is opaque, so no proof can rest on what it returns. -/
namespace Sys2Proof.Config
open Sys2Proof.Machine

/-- Free values: the n-th value that the device draws where the spec states no value (log entry 3).
`State.freeIx` counts the draws. -/
opaque freeValue : Nat → BitVec 64

/-- The SHA-384 hash of a byte string, named by R85 and R87 and not given (log entry 4). -/
opaque sha384 : Bytes → BitVec 384

/-- Whether an ECDSA P-384 signature verifies: key X and Y, digest, signature (R87, log entry 4). -/
opaque ecdsaVerifies : Bytes → BitVec 384 → Bytes → Bool

/-- AES-256-GCM decryption: key, IV, additional data, ciphertext, tag; `none` on a tag mismatch (R89). -/
opaque aesGcmOpen : BitVec 256 → Bytes → Bytes → Bytes → Bytes → Option Bytes

/-- Blocks of 4 KiB that the compiled automata of a pattern list take (R145 gives no figure). -/
opaque automataBlocks : List (Bytes × Bool × Option Nat × Nat) → Nat

/-- The acceleration factor of R397 in units of 10^-9, for a junction temperature in °C: a formula over the
reals that the model does not evaluate. -/
opaque accelFactor : Int → Nat

/-- The control word that the mask ROM of a sequencer type holds at an address (R92: Dendar supplies every word). -/
opaque romWord : Nat → Nat → BitVec 256

/-- A table engine word of this UNIT_OP and these OPERANDS commits a step: it writes to state that others observe (R95, R96). Their
encoding "is not an interface for the user" (R92). -/
opaque commitWord : BitVec 8 → BitVec 192 → Bool

/-- The word at an address of a numbered memory of a block, for KIND 1 of R389: the spec numbers no memory (log entry 116). -/
opaque chipWordAt : Nat → Nat → Nat → Option ChipWord

/-- The contents of a word address of the route memory, which R174 lays out by its parts only: none and the key of a
route among those held, or the number of a result (false) or of a directory word (true) (log entry 116). -/
opaque routeWordAt : List Nat → Nat → Option Bool × Nat

/-- The number that stands for a drop reason in a decision record (Table 15-4): the spec numbers no reason of the
pipe (log entry 15). -/
opaque dropReasonCode : Nat → BitVec 8

end Sys2Proof.Config
end

