-- ==== Sys2Proof/Machine/StateForward.lean ====
section
/-! DEFINITION. The state of the forwarding units: ports and lanes, pipes, parser, matcher, tables, rules,
action banks, isolation, stores, frames and queues. -/
namespace Sys2Proof.Machine
open Sys2Proof

/-- LINK of PORT_STATE (Table 5-9). -/
inductive LinkState where
  | down | up | holdUp | holdDown
deriving DecidableEq, Repr

/-- A lane (Table 5-12). TRAINING and TX_IDLE follow from the port's and the gate's state. -/
structure Lane where
  sd       : Bool
  cdr      : Bool
  lock     : Bool
  snrCb    : BitVec 16
deriving DecidableEq, Repr

def Lane.reset : Lane := { sd := false, cdr := false, lock := false, snrCb := 0 }

/-- PORT_CFG and TS_DELAY of a port (Tables 5-8, 5-11) with the hold times of Table 5-2. `width` 0: no port. -/
structure PortCfg where
  width       : Nat
  rate        : Nat
  tagAllow    : Nat
  maxFrame    : Nat
  linkTrain   : Bool
  untaggedPri : Nat
  tsRx        : BitVec 16
  tsTx        : BitVec 16
  upHold      : Nat
  downHold    : Nat
  extraTpid   : BitVec 16
  subscriber  : Bool
  admin       : Bool
deriving DecidableEq, Repr

def PortCfg.none : PortCfg :=
  { width := 0, rate := 0, tagAllow := 0, maxFrame := 0, linkTrain := false, untaggedPri := 0, tsRx := 0, tsTx := 0,
    upHold := 0, downHold := 0, extraTpid := 0, subscriber := false, admin := false }

/-- PORT_STATE of a port (Table 5-9). -/
structure PortLink where
  link        : LinkState
  changeCount : BitVec 8
  tsValid     : Bool
  fecDegrade  : Bool
  /-- an uncorrectable codeword was seen in this cadence cycle -/
  fecBadNow   : Bool
  localFault  : Bool
  remoteFault : Bool
  trained     : Bool
deriving DecidableEq, Repr

def PortLink.reset : PortLink :=
  { link := .down, changeCount := 0, tsValid := false, fecDegrade := false, fecBadNow := false, localFault := false,
    remoteFault := false, trained := false }

/-- One priority's watermarks and pause state (Table 5-13, R117–R119). -/
structure PausePrio where
  xoff     : Nat
  xon      : Nat
  headroom : Nat
  /-- FREE_NS at which the received pause runs out -/
  until_   : Option Nat
  /-- FREE_NS since which it has been held paused -/
  since    : Nat
  storm    : Bool
  /-- XOFF is outstanding for the priority, by store occupancy -/
  txXoff   : Bool
  /-- XOFF is outstanding for the priority, by the receive FIFO (R114) -/
  txFifo   : Bool
deriving DecidableEq, Repr

def PausePrio.reset : PausePrio :=
  { xoff := 0, xon := 0, headroom := 0, until_ := none, since := 0, storm := false, txXoff := false,
    txFifo := false }

/-- Pause settings of a port (Table 5-10). -/
structure PortPause where
  mode      : Nat
  rxMask    : BitVec 8
  txMask    : BitVec 8
  txQuanta  : Nat
  rxQuantaMax : Nat
  watchdogMs : Nat
  prios     : Tab PausePrio
  /-- the receive FIFO has passed half full and not yet fallen below a quarter (R114) -/
  fifoXoff  : Bool
  /-- the last flow-control frame sent: the priorities that it carries, each with its pause time in quanta (R114, R119, R121) -/
  sent      : List (Nat × Nat)
deriving DecidableEq, Repr

def PortPause.reset : PortPause :=
  { mode := 0, rxMask := 0, txMask := 0, txQuanta := 0, rxQuantaMax := 0, watchdogMs := 0, prios := [],
    fifoXoff := false, sent := [] }

/-- A frame in transmit staging or in transmission at a port (R229, R115). -/
structure TxFrame where
  bytes     : Bytes
  cellsIn   : Nat
  /-- cells whose staging the MAC has freed -/
  freed     : Nat
  complete  : Bool
  cls       : Nat
  lifeline  : Bool
  slice     : Nat
  ce        : Bool
  tsReq     : Bool
  cut       : Bool
  stomp     : Bool
  mirror    : Bool
  ipOffset  : Nat
  ingressTime : Nat
  entry     : Nat
  /-- ring and cookie of a host transmit frame, for its timestamp record (R345) -/
  hostRing  : Option (Nat × BitVec 64)
  flowTag   : BitVec 32
  /-- the class queue that released it, for the probe of R350 -/
  queue     : Option Nat
  limit     : Nat
  /-- the stored frame whose cells are still to come, or that the class queue still refers to -/
  frameId   : Nat
  /-- the transmit timestamp, taken at the start, with its validity -/
  stamp     : BitVec 64
  stampOk   : Bool
deriving DecidableEq, Repr

/-- Scheduling of one class of a plain port (R258–R260). -/
structure ClassSched where
  wfq      : Bool
  weight   : Nat
  bucket   : Bucket
  start    : BitVec 40
  lag      : BitVec 40
  eligible : Bool
  active   : Bool
deriving DecidableEq, Repr

/-- STRICT at boot (R259). -/
def ClassSched.reset : ClassSched :=
  { wfq := false, weight := 1, bucket := Bucket.zero, start := 0, lag := 0, eligible := false, active := false }

/-- A digest block (R416). -/
structure DigestState where
  number    : Nat
  /-- the first frame number of the block -/
  first     : Nat
  digest    : BitVec 64
  settled   : Nat
  rxErrors  : Nat
  stamp     : Option (Option (BitVec 32))
  unaligned : Bool
  count     : Nat
  firstTime : Nat
deriving DecidableEq, Repr

def DigestState.empty (number first : Nat) : DigestState :=
  { number := number, first := first, digest := 0, settled := 0, rxErrors := 0, stamp := none, unaligned := false, count := 0, firstTime := 0 }

/-- The last compared block of a port (DIGEST_READ, R430). -/
structure Compared where
  number    : Nat
  mismatch  : Bool
  digest    : BitVec 64
  partner   : BitVec 64
  settled   : Nat
  partnerSettled : Nat
deriving DecidableEq, Repr

/-- A port's part in the Tandem comparison (R413–R418). -/
structure PortDigest where
  frameNo   : BitVec 32
  lastFrame : Nat
  current   : DigestState
  closed    : List DigestState
  partner   : List DigestBlock
  seals     : List (BitVec 32)
  compared  : Option Compared
  run       : Nat
  windowFrom : Nat
  windowTo   : Nat
deriving DecidableEq, Repr

def PortDigest.reset : PortDigest :=
  { frameNo := 0, lastFrame := 0, current := DigestState.empty 0 0, closed := [], partner := [], seals := [],
    compared := none, run := 0, windowFrom := 0, windowTo := 0 }

/-- A port (chapters 05, 09, 10, 15). -/
structure Port where
  cfg       : PortCfg
  link      : PortLink
  pause     : PortPause
  counters  : Tab (BitVec 64)
  /-- packets whose heads wait for a head slot, in order -/
  waiting   : List Nat
  /-- the packet in reception -/
  receiving : Option Nat
  staging   : List TxFrame
  sending   : Option TxFrame
  /-- the queue and frame that the crossbar output has chosen and is granting (R258) -/
  chosen    : Option (Nat × Nat)
  classes   : Tab ClassSched
  classTime : BitVec 40
  /-- pattern set bound (R147); 0 none -/
  patternSet : Nat
  /-- R246: admission block, flush pending -/
  blocked   : Bool
  flushing  : Bool
  drops     : Tab (BitVec 64)
  /-- lifeline counts IN, OUT, LOST, unaccounted at the last boundary (R393) -/
  llIn      : Nat
  llOut     : Nat
  llLost    : Nat
  llSeen    : Int
  digest    : PortDigest
deriving DecidableEq, Repr

/-- No port: every field at its reset value. The admission block of a port that has never been UP holds. -/
def Port.reset : Port :=
  { cfg := PortCfg.none, link := PortLink.reset, pause := PortPause.reset, counters := [], waiting := [],
    receiving := none, staging := [], sending := none, chosen := none, classes := [], classTime := 0, patternSet := 0, blocked := true,
    flushing := false, drops := [], llIn := 0, llOut := 0, llLost := 0, llSeen := 0, digest := PortDigest.reset }

/-- A parsed header of a pass: class and byte range in the packet (R128, R205). -/
structure Header where
  cls    : Nat
  start  : Nat
  length : Nat
deriving DecidableEq, Repr

/-- A result of the lookup stage (R185): hit, program and ARG. -/
structure LookupResult where
  hit     : Bool
  program : Nat
  arg     : BitVec 83
deriving DecidableEq, Repr

def LookupResult.miss : LookupResult := { hit := false, program := 0, arg := 0 }

/-- A learn or move candidate (R169). -/
structure LearnRequest where
  table : Nat
  key   : BitVec 384
  value : BitVec 48
  port  : Nat
  move  : Bool
deriving DecidableEq, Repr

/-- How a reception ended (Table 5-3); `ok` for a good frame. -/
inductive RxCause where
  | ok | preamble | runt | linkLoss | overrun | symbol | oversize | stomped | fcs
deriving DecidableEq, Repr

/-- What a pass has formed while its rule search waits for the matcher (R144): the key vector, the headers, and the
inspection depth that it keeps (R143). -/
structure PassState where
  key       : BitVec 1536
  headers   : List Header
  headerEnd : Nat
  depth     : Nat
deriving DecidableEq, Repr

/-- A packet: a received frame between its first byte and the end of its reception and of its last pass, with
what it keeps across passes (R61, R64, R97, R103, R141, R202, R216). -/
structure Packet where
  port       : Nat
  bytes      : Bytes
  length     : Nat
  /-- bytes that have arrived -/
  arrived    : Nat
  /-- its limit, under the port's settings at its first byte (R107, R113) -/
  limit      : Nat
  /-- the byte of its first uncorrectable codeword or invalid code group -/
  symbolAt   : Option Nat
  frameNo    : BitVec 32
  stamp      : Nat
  rxStamp    : BitVec 64
  tsValid    : Bool
  pass       : Nat
  started    : Bool
  ruleBank   : Bool
  patchBank  : Bool
  graphBank  : Bool
  custBank   : Bool
  actBank    : Bool
  patternSet : Nat
  slice      : Nat
  plan       : Nat
  recircData : BitVec 32
  priority   : Nat
  ended      : Option RxCause
  state      : Option PassState
  /-- learn candidates held until the FCS is verified (R169) -/
  learns     : List LearnRequest
  /-- the stored frames formed from it whose bytes are not complete -/
  frames     : List Nat
  decided    : Bool
  unsettled  : Bool
  digestStamp : Option (BitVec 32)
  /-- hash of its decision, added to the digest at the good end of its reception -/
  digestHash : Option (BitVec 64)
  /-- failed the full-frame checks of gear L3 (R24) -/
  l3bad      : Bool
  /-- TIMESTAMP was executed, with the winner's ARG of that pass (R122, R345) -/
  tsReq      : Bool
  tsTag      : BitVec 32
  /-- the bytes as received, which the exception path of a packet with SLOW_REASON delivers on every pass (R323, R452) -/
  received   : Bytes
  /-- reasons that it has raised (Table 6-11) -/
  raised     : List Nat
deriving DecidableEq, Repr

/-- Where a stored frame goes (R208, R228). -/
inductive FrameDest where
  | port (p : Nat) | fabric (d p : Nat) | host | group (g : Nat) | recirc
deriving DecidableEq, Repr

/-- A target of a replicated multicast frame, with the cells that it has taken (R244). -/
inductive Target where
  | plain (port cls cells : Nat)
  | intake (pipe cells : Nat) (queues : List (Nat × Nat))
  | fabric (d port cls cells : Nat)
deriving DecidableEq, Repr

/-- A stored frame with its owner descriptor and INGRESS_TIME word (R220, R221, Table 9-2). -/
structure Frame where
  store      : Nat
  bytes      : Bytes
  cells      : List Nat
  refs       : Nat
  slice      : Nat
  cls        : Nat
  colour     : BitVec 2
  lifeline   : Bool
  ce         : Bool
  cut        : Bool
  stomp      : Bool
  tsReq      : Bool
  lossless   : Bool
  mirror     : Bool
  ipOffset   : Nat
  gen        : BitVec 4
  ingressPort : Nat
  destQueue  : Nat
  entry      : Nat
  ingressTime : Nat
  dest       : FrameDest
  /-- every byte is written and its FCS verified -/
  complete   : Bool
  /-- cells granted by the crossbar -/
  granted    : Nat
  /-- read with an uncorrectable codeword (R230) -/
  corrupt    : Bool
  slowReason : Nat
  rxStamp    : BitVec 64
  tsValid    : Bool
  flowTag    : BitVec 32
  permitPorts : BitVec 128
  permitFabric : BitVec 4
  /-- port and priority of its flow-control accounting (R119) -/
  account    : Option (Nat × Nat)
  /-- the packet still in reception that fills it -/
  pkt        : Option Nat
  hostRing   : Option (Nat × BitVec 64)
  /-- replication targets still to serve, once formed (R244) -/
  targets    : List Target
  /-- a multicast frame has been given its targets (R244) -/
  replicated : Bool
  /-- the loan that holds its cells (Table 9-4) -/
  loan       : Option Nat
  /-- the slice that it was charged to until SLICE_DESTROY charged it to slice 128 (R316) -/
  was        : Option Nat
  /-- queued under gear L3 with a failed full-frame check (R24) -/
  l3bad      : Bool
deriving DecidableEq, Repr

/-- Borrowers of cells (Table 9-4). -/
inductive Borrower where
  | host | firmware | intake | spill
deriving DecidableEq, Repr

/-- A loan record (R251). -/
structure Loan where
  borrower : Borrower
  owner    : Nat
  cells    : List Nat
  since    : Nat
  reported : Bool
deriving DecidableEq, Repr

/-- STATE of a cell (Table 9-3). -/
inductive CellState where
  | free | queued | loaned | withheld
deriving DecidableEq, Repr

/-- A cell link word (Table 9-3); NEXT is the order of the frame's, loan's or chain's cell list. -/
structure Link where
  state    : CellState
  owner    : Nat
  ownerGen : BitVec 4
  mark     : Bool
deriving DecidableEq, Repr

def Link.free : Link := { state := .free, owner := 0, ownerGen := 0, mark := false }

/-- A store and its chain manager (R219–R223, R251–R253). The chain is the returned cells, newest first, then
the never allocated cells from `fresh` up. During a buffer gear change the losing store's `limit` is its new size:
its cells from `limit` up are withheld as they become free (log entry 14). -/
structure Store where
  total     : Nat
  chain     : List Nat
  fresh     : Nat
  limit     : Nat
  free      : Nat
  queued    : Nat
  loaned    : Nat
  withheld  : List Nat
  links     : Tab Link
  /-- the generation that the next use of a descriptor takes (R221); a frame has the descriptor numbered as its first cell -/
  gens      : Tab (BitVec 4)
  loans     : Tab (Option Loan)
  nextLoan  : Nat
  mismatch  : Bool
  leaked    : Nat
  overdue   : Nat
  lastCycle : BitVec 32
deriving DecidableEq, Repr

/-- The counts are written when memory initialisation completes (Table 9-16). -/
def Store.reset : Store :=
  { total := 0, chain := [], fresh := 0, limit := 0, free := 0, queued := 0, loaned := 0, withheld := [],
    links := [], gens := [], loans := [], nextLoan := 0, mismatch := false, leaked := 0, overdue := 0, lastCycle := 0 }

/-- What a pipe switches between two packets (R66, R72, R98, R141, R103, R202, R214, R217). -/
inductive Switch where
  | ruleBank | matchGear (g : Nat) | latencyGear (g : Nat) | graph | customer | action | matrix | patch
deriving DecidableEq, Repr

/-- Recirculation of a pipe (R217, Table 8-13). -/
structure Recirc where
  enable : Bool
  share  : Nat
  limit  : Nat
deriving DecidableEq, Repr

/-- A rule entry (Table 8-3). -/
structure RuleEntry where
  banks    : BitVec 2
  profile  : Nat
  priority : Nat
  gen      : BitVec 8
  value    : BitVec 640
  mask     : BitVec 640
  program  : Nat
  count    : Bool
  stat     : Nat
  arg      : BitVec 48
  parityOk : Bool
deriving DecidableEq, Repr

/-- One step of an edit of a pipe's TCAM: the two steps of a move from one index to another, or the write of an entry (R196). -/
inductive RuleStep where
  | copy (pipe src dst : Nat) | drop (pipe src dst : Nat) | write (pipe index : Nat) (e : RuleEntry)
deriving DecidableEq, Repr

/-- Steps left of the rule item that a mailbox's batch applies (R194, R196). -/
structure RuleWork where
  mb    : Nat
  steps : List RuleStep
deriving DecidableEq, Repr

/-- A pipe (chapters 06, 08, 09). -/
structure Pipe where
  ruleBank   : Bool
  graphBank  : Bool
  custBank   : Bool
  actBank    : Bool
  patchBank  : Bool
  matrixCopy : Bool
  matrixLoads : BitVec 16
  matchGear  : Nat
  latencyGear : Nat
  /-- packets in flight in each bank: key 2 × kind + bank; kinds rule, graph, customer, action, patch -/
  inFlight   : Tab Nat
  switches   : List Switch
  fenceStamp : Nat
  /-- packets whose head is taken and whose pass is to run, in order -/
  heads      : List Nat
  /-- packets held for the matcher result -/
  matching   : List Nat
  recirc     : Recirc
  /-- entries in use, by index, and generations of the positions -/
  rules      : Tab (Option RuleEntry)
  ruleGens   : Tab (BitVec 8)
  /-- routine 0x0010 reloads the TCAM: entries from this index on are invalid (Table 8-5) -/
  reload     : Option Nat
  parseCnt   : Tab (BitVec 64)
  matchCnt   : Tab (BitVec 64)
  actionCnt  : Tab (BitVec 64)
  isoDrop    : Tab (BitVec 64)
  /-- the cycle of the last logged ISOLATION_DROP (R21) -/
  isoLogged  : Option Nat
  /-- permit entries in use (R245) and headroom reserved -/
  permits    : Nat
  /-- injected SEQ_FAULT and ISOLATION_ROW codes that its next pass meets (R388, log entry 133) -/
  injected   : List Nat
deriving DecidableEq, Repr

/-- The reset values of Tables 6-10, 6-12, 8-11 to 8-14. -/
def Pipe.reset : Pipe :=
  { ruleBank := false, graphBank := false, custBank := false, actBank := false, patchBank := false, matrixCopy := false,
    matrixLoads := 0, matchGear := 1, latencyGear := 2, inFlight := [], switches := [], fenceStamp := 0, heads := [],
    matching := [], recirc := { enable := false, share := 0, limit := 0 }, rules := [], ruleGens := [], reload := none,
    parseCnt := [], matchCnt := [], actionCnt := [], isoDrop := [], isoLogged := none, permits := 0, injected := [] }

/-- A transition entry (R129). -/
structure Transition where
  value : BitVec 32
  mask  : BitVec 32
  next  : Nat
deriving DecidableEq, Repr

/-- One bank of the protocol graph (R128, Tables 6-1, 6-7). -/
structure Graph where
  nodes       : List (BitVec 256)
  transitions : List Transition
  starts      : List Nat
  recircStart : Nat
  dispositions : List Nat
  /-- the default graph of R138, whose Ethernet and VLAN nodes also know the port's EXTRA_TPID -/
  isDefault   : Bool
deriving DecidableEq, Repr

def Graph.empty : Graph :=
  { nodes := [], transitions := [], starts := [], recircStart := 0, dispositions := [], isDefault := false }

/-- A pattern (R145). -/
structure Pattern where
  bytes    : Bytes
  cls      : Nat
  nocase   : Bool
  anchor   : Option Nat
deriving DecidableEq, Repr

/-- A pattern set (R145, R146). `captured` counts packets captured against replaced contents. -/
structure PatternSet where
  patterns : List Pattern
  owner    : Nat
  blocks   : Nat
deriving DecidableEq, Repr

/-- A PATTERN_SET_LOAD whose response waits for the packets captured against the old contents (R146). -/
structure SetLoad where
  mb      : Nat
  set     : Nat
  old     : Option PatternSet
  packets : List Nat
deriving DecidableEq, Repr

/-- One bank of the action image, sections 1–7 (Table 8-6), and its image words. -/
structure ActionBank where
  profiles  : Tab (BitVec 384)
  plans     : Tab (BitVec 256)
  portPlans : Tab Nat
  programs  : Tab (BitVec 32)
  instrs    : Tab (BitVec 64)
  templates : Tab Bytes
  sessions  : Tab (BitVec 64)
deriving DecidableEq, Repr

def ActionBank.empty : ActionBank :=
  { profiles := [], plans := [], portPlans := [], programs := [], instrs := [], templates := [], sessions := [] }

/-- A row of the isolation matrix (Table 8-9). -/
structure MatrixRow where
  ports  : BitVec 128
  dest   : BitVec 128
  host   : Bool
  recirc : Bool
  fabric : BitVec 4
deriving DecidableEq, Repr

def MatrixRow.zero : MatrixRow := { ports := 0, dest := 0, host := false, recirc := false, fabric := 0 }
def MatrixRow.all : MatrixRow := { ports := BitVec.allOnes 128, dest := BitVec.allOnes 128, host := true, recirc := true, fabric := 0xF }

/-- Control stores shared by the pipes: graph, customer words, patterns, action banks, matrix copies. -/
structure Stores2 where
  graphA : Graph
  graphB : Graph
  custA  : List (BitVec 128)
  custB  : List (BitVec 128)
  sets   : Tab (Option PatternSet)
  setLoads : List SetLoad
  actA   : ActionBank
  actB   : ActionBank
  matA   : Tab MatrixRow
  matB   : Tab MatrixRow
  /-- banks that new loads make current, and the mailboxes that wait for the pipes to switch -/
  graphBank : Bool
  custBank  : Bool
  actBank   : Bool
  matCopy   : Bool
  graphMb   : Option Nat
  custMb    : Option Nat
  actMb     : Option Nat
  matMb     : Option Nat
deriving DecidableEq, Repr

def Stores2.reset : Stores2 :=
  { graphA := Graph.empty, graphB := Graph.empty, custA := [], custB := [], sets := [], setLoads := [], actA := ActionBank.empty,
    actB := ActionBank.empty, matA := [], matB := [], graphBank := false, custBank := false, actBank := false,
    matCopy := false, graphMb := none, custMb := none, actMb := none, matMb := none }

/-- The rule bank swap (R64–R68). -/
structure BankSwap where
  count  : BitVec 16
  mb     : Option Nat
deriving DecidableEq, Repr

/-- An exact-match table descriptor (Table 7-1). -/
structure EmTable where
  desc : BitVec 256
deriving DecidableEq, Repr

/-- An exact-match entry at its first position (Table 7-2). -/
structure EmEntry where
  table    : Nat
  hit      : Bool
  static   : Bool
  learned  : Bool
  gen      : BitVec 4
  key      : BitVec 384
  action   : BitVec 112
  port     : Nat
  parityOk : Bool
  /-- a copy in a relocation: the other copy's index -/
  twin     : Option Nat
  /-- FREE_NS at which it was last learned, moved or installed (R415) -/
  changed  : Nat
deriving DecidableEq, Repr

/-- LEARN_CONFIG of a table (Table 7-6). -/
structure LearnCfg where
  flags      : BitVec 8
  program    : Nat
  argLen     : Nat
  argStart   : Nat
  vector     : Nat
  tableLimit : Nat
  portLimit  : Nat
  ringBase   : Nat
  ringLog2   : Nat
  seq        : BitVec 32
  lastInt    : Option Nat
  intPending : Bool
  /-- requests suppressed in this and the previous cycle, and whether this cycle's LIMIT record is written -/
  suppressed : Nat
  suppressedPrev : Nat
  limitWritten : Bool
  interval   : Nat
  lastSweep  : Nat
  /-- a sweep has served the table -/
  swept      : Bool
  joined     : Bool
deriving DecidableEq, Repr

def LearnCfg.reset : LearnCfg :=
  { flags := 0, program := 0, argLen := 0, argStart := 0, vector := 0xFFFF, tableLimit := 0, portLimit := 0, ringBase := 0,
    ringLog2 := 0, seq := 1, lastInt := none, intPending := false, suppressed := 0, suppressedPrev := 0,
    limitWritten := false, interval := 0, lastSweep := 0, swept := false, joined := false }

/-- The holder of a statistics pair (R164): an exact-match index or a rule number. -/
inductive StatHolder where
  | em (index : Nat) | rule (number : Nat)
deriving DecidableEq, Repr

/-- A statistics pair (R164, R347). -/
structure StatPair where
  packets : BitVec 64
  bytes   : BitVec 64
  holder  : Option StatHolder
  gen     : BitVec 8
deriving DecidableEq, Repr

def StatPair.zero : StatPair := { packets := 0, bytes := 0, holder := none, gen := 0 }

/-- A counting update on its way (R164, R347). `check` is the captured generation and holder kind. -/
structure StatUpdate where
  pair   : Nat
  bytes  : Nat
  gen    : Option (BitVec 8)
  slice  : Nat
deriving DecidableEq, Repr

/-- A route (R175). -/
structure Route where
  vrf    : Nat
  v6     : Bool
  length : Nat
  prefix_ : BitVec 128
  result : Nat
  parityOk : Bool
deriving DecidableEq, Repr

/-- A parity event of R181. -/
structure ParityEvent where
  address : Nat
  memory  : Nat
  outcome : Nat
  time    : Nat
deriving DecidableEq, Repr

/-- A long routine of the table engine (Table 7-5, Table 8-5) with its trap save area (Table 4-12). -/
structure LongRoutine where
  id     : Nat
  step   : Nat
  /-- index, or pipe for 0x0010, that the routine works on -/
  arg    : Nat
  tables : List Nat
  mb     : Option Nat
  /-- a step is open on this position -/
  target : Option Nat
  dest   : Nat
  /-- match register bank under which it runs (R97) -/
  bank   : Bool
deriving DecidableEq, Repr

/-- The table engine (R94–R96, R156–R183). -/
structure TableEngine where
  seed0    : BitVec 32
  seed1    : BitVec 32
  running  : Option LongRoutine
  queued   : List LongRoutine
  /-- learn and move requests waiting (R169) -/
  learnQ   : List LearnRequest
  stats    : List StatUpdate
  /-- the trap save area (Table 4-12) as the last micro-trap wrote it: ROUTINE_ID, STEP, TARGET and BANK of the long routine, and
  MICRO_PC, LOOP, TEMP and TRAP_CAUSE, whose values the spec does not give (log entry 9) -/
  trapRoutine : BitVec 16
  trapStep  : BitVec 32
  trapTarget : BitVec 64
  trapBank  : Bool
  trapMicroPc : BitVec 16
  trapLoop  : BitVec 64
  trapTemp  : List (BitVec 64)
  trapCause : BitVec 8
  bank     : Bool
  parityLog : List ParityEvent
  parityDropped : Bool
  /-- positions that wait for repair: address and memory of R181, and whether the detection was injected -/
  repairs  : List (Nat × Nat × Bool)
  scrubPeriod : Nat
  shadowBase : Nat
  shadowValid : Bool
  passCount : BitVec 16
  lastPass : BitVec 32
  lastCompaction : Nat
  counters : Tab (BitVec 64)
  stale    : Tab (BitVec 64)
  /-- parity failures by distinct position in the current window, per bank or TCAM (Table 14-7) -/
  failures : List (Nat × Nat × Nat)
  /-- bad words of the route memory that hold no route: word address, and result number (false) or directory number (true) -/
  badRoutes : List (Nat × Bool × Nat)
  /-- route keys of the bad route words: word address and key -/
  badKeys  : List (Nat × Nat)
  /-- positions of the hit array with bad parity (R172) -/
  badHits  : List Nat
  /-- a learn request waits for the open step of the long routine to commit (R96) -/
  deferred : Bool
  /-- units of the prefix store from its start on that routes have taken since the last compaction (R165, log entry 126) -/
  routeTail : Nat
  /-- the rule item in progress -/
  ruleWork : Option RuleWork
deriving DecidableEq, Repr

def TableEngine.reset : TableEngine :=
  { seed0 := 0, seed1 := 0, running := none, queued := [], learnQ := [], stats := [],
    trapRoutine := 0, trapStep := 0, trapTarget := 0, trapBank := false, trapMicroPc := 0, trapLoop := 0, trapTemp := [],
    trapCause := 0, bank := false,
    parityLog := [], parityDropped := false, repairs := [], scrubPeriod := 60, shadowBase := 0,
    shadowValid := false, passCount := 0, lastPass := 0, lastCompaction := 0, counters := [], stale := [], failures := [],
    badRoutes := [], badKeys := [], badHits := [], deferred := false, routeTail := 0, ruleWork := none }

/-- The memories of the table island (chapter 07). -/
structure Tables where
  descs   : Tab EmTable
  entries : Tab (Option EmEntry)
  /-- generations of positions by index -/
  gens    : Tab (BitVec 4)
  learn   : Tab LearnCfg
  routes  : List Route
  results : Tab (BitVec 64)
  pairs   : Tab StatPair
  te      : TableEngine
deriving DecidableEq, Repr

def Tables.reset : Tables :=
  { descs := [], entries := [], gens := [], learn := [], routes := [], results := [], pairs := [], te := TableEngine.reset }

end Sys2Proof.Machine
end

