-- ==== Sys2Proof/Machine/StateCore.lean ====
section
/-! DEFINITION. The state of the subscriber stage, the scheduler, the policers, the far store, the multicast
groups, the Tandem block and the fabric links. -/
namespace Sys2Proof.Machine
open Sys2Proof

/-- A frame record in a far block or near part: the stored frame's id, or a far copy (R237, R238). -/
structure FarFrame where
  frame  : Frame
  /-- blocks of the far part that hold its bytes, in order -/
  blocks : List Nat
  /-- a refill under way will link it to the near part (R239) -/
  refilling : Bool
deriving DecidableEq, Repr

/-- A far block (R238): owner queue, bytes used, frame records, BASE_TIME; `lost` once its header or channel is. -/
structure FarBlock where
  queue   : Nat
  used    : Nat
  records : Nat
  base    : Nat
  closed  : Bool
  lost    : Bool
deriving DecidableEq, Repr

/-- A class queue's own state (R235–R241, R281). -/
structure ClassQueue where
  maxCells   : Nat
  ecn        : Nat
  spillOn    : Nat
  refill     : Nat
  /-- near part: stored frame ids, oldest first -/
  near       : List Nat
  /-- far part: its blocks and frames, oldest first -/
  blocks     : List Nat
  far        : List FarFrame
  lastChannel : Option Nat
  /-- a refill read of the head block is under way, on these reserved near cells (a SPILL loan) -/
  refilling  : Option Nat
  dropped    : BitVec 64
  sent       : BitVec 64
deriving DecidableEq, Repr

/-- NODE_CONFIG's CREATE (R235, R241). -/
def ClassQueue.reset : ClassQueue :=
  { maxCells := 4096, ecn := 0xFF, spillOn := 64, refill := 32, near := [], blocks := [], far := [], lastChannel := none,
    refilling := none, dropped := 0, sent := 0 }

/-- A node of levels 0–4 (R261–R273). -/
structure Node where
  parent   : Nat
  owner    : Nat
  attached : Bool
  prio     : Nat
  weight   : Nat
  cir      : Bucket
  pir      : Bucket
  adjust   : Int
  start    : BitVec 40
  lag      : BitVec 40
  /-- the service set (group, committed) it is in, while active -/
  set      : Option (Nat × Bool)
  eligible : Bool
  /-- virtual times of its 8 service sets, by 2 × group + committed -/
  vt       : Tab (BitVec 40)
  queue    : ClassQueue
deriving DecidableEq, Repr

def Node.reset : Node :=
  { parent := 0, owner := 0, attached := true, prio := 0, weight := 1, cir := Bucket.zero, pir := Bucket.zero, adjust := 0,
    start := 0, lag := 0, set := none, eligible := false, vt := [], queue := ClassQueue.reset }

/-- A policer (R276–R280). -/
structure Policer where
  mode   : Nat
  flags  : BitVec 8
  cBucket : Bucket
  eBucket : Bucket
  green  : BitVec 64
  yellow : BitVec 64
  red    : BitVec 64
  trueUps : BitVec 64
deriving DecidableEq, Repr

def Policer.reset : Policer :=
  { mode := 0, flags := 0, cBucket := Bucket.zero, eBucket := Bucket.zero, green := 0, yellow := 0, red := 0, trueUps := 0 }

/-- An ECN profile (R233). -/
structure EcnProfile where
  enabled    : Bool
  dropNonEct : Bool
  min        : Nat
  max        : Nat
  prob       : Nat
deriving DecidableEq, Repr

def EcnProfile.reset : EcnProfile := { enabled := false, dropNonEct := false, min := 0, max := 0, prob := 0 }

/-- Thresholds of a VOQ of (port, class) or of a multicast class (R235). -/
structure VoqCfg where
  maxCells : Nat
  alpha    : Nat
  ecn      : Nat
  rank     : Nat
deriving DecidableEq, Repr

/-- A member of a multicast group (R242). -/
structure Member where
  kind   : Nat
  port   : Nat
  member : Nat
  cls    : Nat
  queue  : Nat
deriving DecidableEq, Repr

/-- A meter debited on an estimate and trued up when the length is known (R278). -/
structure TrueUp where
  pkt     : Nat
  policer : Nat
  cDebit  : Bool
  eDebit  : Bool
  estimate : Nat
deriving DecidableEq, Repr

/-- A frame in intake on loan to INTAKE (R236), with the ports and class queues it is offered to. -/
structure Intake where
  frame  : Frame
  queues : List (Nat × Nat)
  loan   : Nat
  /-- the stored frame whose cells cross -/
  src    : Nat
  /-- every cell has crossed -/
  done   : Bool
deriving DecidableEq, Repr

/-- A chain audit in progress (R252, R253): mailbox, stores named, stores still walked, RECLAIM, and the stores that
failed R223. -/
structure Audit where
  mb       : Nat
  named    : List Nat
  left     : List Nat
  reclaim  : Bool
  mismatch : List Nat
deriving DecidableEq, Repr

/-- The switch core and subscriber stage (chapters 09, 10). -/
structure Switching where
  stores   : Tab Store
  frames   : Tab (Option Frame)
  nextFrame : Nat
  packets  : Tab (Option Packet)
  nextPacket : Nat
  /-- queues of the pipe stores: pipe × 8192 + number in Table 9-6's order -/
  queues   : Tab (List Nat)
  voqs     : Tab VoqCfg
  mcastVoqs : Tab VoqCfg
  ecn      : Tab EcnProfile
  groups   : Tab (List Member)
  /-- intake per crossbar output (pipe) -/
  intakes  : Tab (List Intake)
  trueUps  : List TrueUp
  spillOn  : Nat
  refill   : Nat
  nodes    : Tab (Option Node)
  policers : Tab Policer
  ready    : Bool
  counters : Tab (BitVec 64)
  schedCnt : Tab (BitVec 64)
  watches  : Tab LifelineWatch
  /-- rotation pointers of the crossbar (R229) -/
  rotation : Tab Nat
  audit    : Option Audit
  /-- frames that wait in the host port, in order (R322) -/
  hostQueue : List Nat
deriving DecidableEq, Repr

def Switching.reset : Switching :=
  { stores := [], frames := [], nextFrame := 0, packets := [], nextPacket := 0, queues := [], voqs := [], mcastVoqs := [],
    ecn := [], groups := [], intakes := [], trueUps := [], spillOn := 64, refill := 32, nodes := [], policers := [],
    ready := false, counters := [], schedCnt := [], watches := [], rotation := [], audit := none, hostQueue := [] }

/-- STATE of a DRAM channel (Table 11-8). -/
inductive ChannelState where
  | init | inService | retraining | selfRefresh | fenced
deriving DecidableEq, Repr

/-- A request waiting at a DRAM channel's port (R289, R290). -/
structure DramRequest where
  block : Nat
  queue : Nat
  since : Nat
  /-- intake output and loan that a spill write frees when it completes (R236) -/
  loan  : Option (Nat × Nat)
deriving DecidableEq, Repr

/-- A DRAM channel (chapter 11). -/
structure Channel where
  state     : ChannelState
  cause     : Nat
  lastTrain : BitVec 32
  attempts  : Nat
  panic     : Bool
  mr4       : BitVec 3
  /-- the cadence cycle in which MR4 was last read (R292) -/
  mr4Cycle  : Option Nat
  /-- the refresh-rate code at the last training: none until MR4 is first read after the channel entered service (R294) -/
  trainedMr4 : Option (BitVec 3)
  /-- segments masked in self-refresh (R297) -/
  pasr      : BitVec 8
  density   : Nat
  total     : Nat
  free      : Nat
  /-- blocks never allocated begin here; returned blocks in `chain`, newest first -/
  fresh     : Nat
  chain     : List Nat
  withheld  : List Nat
  owed      : Tab Nat
  /-- per bank: the open row and when it was last used (R292) -/
  openRows  : Tab (Option (Nat × Nat))
  rt        : List DramRequest
  wr        : List DramRequest
  /-- spill writes served whose completion is to come -/
  writing   : List DramRequest
  counters  : Tab (BitVec 64)
  /-- a training under way: true for a full one, at boot or in a retry; a trigger waits -/
  training  : Option Bool
  triggered : Bool
  /-- RT requests served under panic since the last WR request (R290) -/
  panicRun  : Nat
  /-- writes left of the batch that is being served, and request slots since the last BG request, at most 63 (R289) -/
  batch     : Nat
  bgGap     : Nat
  /-- CW_CORRECTED at the last cycle boundary (R294) -/
  correctedAt : BitVec 64
  /-- uncorrectable codewords by cadence cycle (Table 14-7) -/
  errors    : List Nat
deriving DecidableEq, Repr

def Channel.reset : Channel :=
  { state := .init, cause := 0, lastTrain := 0, attempts := 0, panic := false, mr4 := 0, mr4Cycle := none, trainedMr4 := none, pasr := 0, density := 0, total := 0, free := 0,
    fresh := 0, chain := [], withheld := [], owed := [], openRows := [], rt := [], wr := [], writing := [], counters := [],
    training := none, triggered := false, panicRun := 0, batch := 0, bgGap := 63, correctedAt := 0,
    errors := [] }

/-- What the DRAM capture region is used for (R301, R385). -/
inductive RegionUse where
  | off | capture (buffer session : Nat) (wrap : Bool) | dump
deriving DecidableEq, Repr

/-- CAPTURE of DRAM_STATUS (Table 11-5). -/
inductive CaptureState where
  | off | reserving | capturing | replaying
deriving DecidableEq, Repr

/-- A block of the capture region in the format of R238: its running number, its channel, bytes used, frame records, BASE_TIME. -/
structure CaptureBlock where
  seq     : Nat
  channel : Nat
  used    : Nat
  records : Nat
  base    : Nat
deriving DecidableEq, Repr

/-- What a SLICE_DESTROY or SLICE_RESET in execution has replaced, for its rollback (R39, R42). -/
structure SliceUndo where
  mb       : Nat
  slice    : Slice
  row      : MatrixRow
  mbox     : Mailbox
  /-- policers that were not in MODE 0, and ECN profiles that were enabled -/
  policers : List (Nat × Nat)
  ecn      : List Nat
  rings    : List (Nat × RingPair)
  learn    : List (Nat × LearnCfg)
  events   : EventRing
  maps     : List Mapping
deriving DecidableEq, Repr

/-- The fields that DRAM_TRAIN's POLICY and SPEED_CHANGE set (R298). -/
structure DramPolicy where
  idleNs   : Nat
  panicNs  : Nat
  retryS   : Nat
  speed    : Nat
  lowEn    : Bool
  lowEnter : Nat
  lowExit  : Nat
deriving DecidableEq, Repr

/-- The far store as a whole (chapter 11). -/
structure FarStore where
  idleNs   : Nat
  panicNs  : Nat
  retryS   : Nat
  speed    : Nat
  lowEn    : Bool
  lowEnter : Nat
  lowExit  : Nat
  lowTraffic : Bool
  use      : RegionUse
  capture  : CaptureState
  /-- blocks of the region, in all and by channel (R301) -/
  wanted   : Nat
  region   : Tab Nat
  /-- the blocks written, oldest first, and the copies in them: their `blocks` are block numbers (R301) -/
  captureBlocks : List CaptureBlock
  captureSeq : Nat
  captured : List FarFrame
  captureDrops : Nat
  replayQueue : Nat
  replayLeft : List FarFrame
  channels : Tab Channel
  /-- blocks in use, by channel × 2^20 + block number -/
  blocks   : Tab (Option FarBlock)
  /-- blocks that a flush returns in the background, by port (R246) -/
  flushed  : Tab (List Nat)
  lastStart : Option Nat
  trainMb  : Option Nat
  trainMask : BitVec 24
  /-- what a DRAM_TRAIN in execution has replaced (R39) -/
  trainWas : Option DramPolicy
deriving DecidableEq, Repr

/-- The reset values of Table 11-9 and the defaults of Table 11-4. -/
def FarStore.reset : FarStore :=
  { idleNs := 0x96, panicNs := 0x7D0, retryS := 0x3C, speed := 3, lowEn := false, lowEnter := 5, lowExit := 50,
    lowTraffic := false, use := .off, capture := .off, wanted := 0, region := [], captureBlocks := [], captureSeq := 0, captured := [], captureDrops := 0,
    replayQueue := 0, replayLeft := [], channels := [], blocks := [], flushed := [], lastStart := none, trainMb := none,
    trainMask := 0, trainWas := none }

/-- The roles of R401. -/
inductive Role where
  | standalone | captain | stoker
deriving DecidableEq, Repr

/-- SYNC of TANDEM_STATE (Table 15-10). -/
inductive SyncState where
  | none | syncing | synced | unsynced
deriving DecidableEq, Repr

/-- What a claim path last received and accepted (R404). -/
structure PathState where
  last     : Option (BitVec 32)
  accepted : Option (BitVec 32)
deriving DecidableEq, Repr

/-- The Tandem block (chapter 15). -/
structure Tandem where
  role     : Role
  sync     : SyncState
  epoch    : BitVec 16
  rank     : Nat
  /-- the claim is raised to rank 63 (Table 15-1) -/
  raised   : Bool
  strict   : Bool
  noTakeover : Bool
  /-- lost eligibility until joined again (R410, R418), by lag, or by the link being down for 2 ms (R412) -/
  barred   : Bool
  lagging  : Bool
  linkLost : Bool
  holdoff  : Bool
  gatesOpen : Bool
  pins     : PathState
  link     : PathState
  bellInOk : Bool
  linkUp   : Bool
  journalSeq : BitVec 32
  configSeq : BitVec 32
  changing : Bool
  /-- records received and not applied, oldest first -/
  records  : List JournalRecord
  /-- mirror messages held, each with the number of records that arrived before it and are not applied -/
  mirrors  : List (Nat × MirrorMessage)
  /-- what is left of a snapshot to load: its commands and learned entries -/
  loading  : Option (List JournalCommand × List LearnedEntry)
  serialIn : BitVec 32
  serialOut : BitVec 32
  /-- sent records of the last 100 ms, and sent mirror messages -/
  history  : List JournalRecord
  /-- last journalled or applied SEQ and its record's sequence, by mailbox -/
  lastSeq  : Tab (BitVec 32 × BitVec 32)
  mustApply : Bool
  /-- a record or a snapshot is being applied -/
  applying : Bool
  /-- a handover waits for the report of this journal sequence (R421) -/
  handover : Option (BitVec 32)
  /-- the Captain's partner joins (R408) -/
  joining  : Bool
  /-- messages completed with ROLE_CHANGED, and the role that the last of those completions carried as DETAIL (R76, Table 2-11) -/
  rejected : Nat
  rejectRole : Nat
  counters : Tab (BitVec 64)
deriving DecidableEq, Repr

def Tandem.reset : Tandem :=
  { role := .standalone, sync := .none, epoch := 0, rank := 1, raised := false, strict := false, noTakeover := false,
    barred := false, lagging := false, linkLost := false, holdoff := false, gatesOpen := false,
    pins := { last := none, accepted := none }, link := { last := none, accepted := none }, bellInOk := false,
    linkUp := false, journalSeq := 0, configSeq := 0, changing := false, records := [], mirrors := [], loading := none, serialIn := 0,
    serialOut := 0, history := [], lastSeq := [], mustApply := false, applying := false, handover := none, joining := false, rejected := 0,
    rejectRole := 0, counters := [] }

/-- STATE of FABRIC_LINK (Table 15-12). -/
inductive FabricState where
  | down | training | up | mismatch
deriving DecidableEq, Repr

/-- A fabric link (R425–R428). -/
structure FabricLink where
  state     : FabricState
  /-- cells of each class whose credit has not returned; 2,048 cells less these are the credit held -/
  used      : Tab Nat
  lanesUp   : BitVec 8
  spares    : BitVec 4
  farMember : BitVec 2
  portsDown : BitVec 128
  /-- cells received and waiting, as frames with FREE_NS at the arrival of their first cell -/
  received  : List (Nat × FabricFrame)
  cells     : Nat
deriving DecidableEq, Repr

def FabricLink.reset : FabricLink :=
  { state := .down, used := [], lanesUp := 0, spares := 0, farMember := 0, portsDown := 0, received := [], cells := 0 }

/-- The Peloton (R426): joined, and MODE. -/
structure Peloton where
  joined : Bool
  paired : Bool
  links  : Tab FabricLink
  spareUsed : BitVec 4
deriving DecidableEq, Repr

def Peloton.reset : Peloton := { joined := false, paired := false, links := [], spareUsed := 0 }

end Sys2Proof.Machine
end

