-- ==== Sys2Proof/Machine/State.lean ====
section
/-! DEFINITION. The state of the block, its faults and refusals, and the state after reset. -/
namespace Sys2Proof.Machine
open Sys2Proof

/-- Supplies and reset balls (R441–R443). -/
structure Balls where
  powered   : Bool
  sysResetN : Bool
  bootSrc   : BitVec 2
  unitId    : BitVec 2
  /-- the device drives the SPI balls; else they are at high impedance (R80) -/
  spiDriven : Bool
deriving DecidableEq, Repr

/-- Everything the spec gives the machine, with the queue of waiting commands. -/
structure State where
  /-- commands waiting, first in, first out -/
  pending : List Instr
  /-- free values drawn so far: the model's own field (log entry 3) -/
  freeIx  : Nat
  balls   : Balls
  boot    : Boot
  fuses   : Fuses
  /-- what has been written to the flash slots; unlisted: not written by this device -/
  flash   : Tab (Option Bytes)
  fw      : Firmware
  /-- claim table by class × 256 + index (R49) -/
  claims  : Tab (Option Claim)
  mboxes  : Tab Mailbox
  gears   : Gears
  swap    : BankSwap
  fences  : Tab (Option PendingFence)
  hostStamp : Nat
  host    : HostIf
  slices  : Tab Slice
  /-- by slice: what its destroy or reset in execution has replaced -/
  undo    : Tab (Option SliceUndo)
  rings   : Tab RingPair
  cad     : Cadence
  blocks  : Tab Block
  bell    : Bell
  wear    : Wear
  /-- fenced units: kind × 256 + index (Table 14-7) -/
  fenced  : Tab Bool
  /-- words of on-chip memory with flipped bits that nothing has read since (R367) -/
  bad     : List BadWord
  ports   : Tab Port
  lanes   : Tab Lane
  pipes   : Tab Pipe
  ctl     : Stores2
  tables  : Tables
  sw      : Switching
  far     : FarStore
  tandem  : Tandem
  peloton : Peloton
deriving DecidableEq, Repr

/-- Reasons for a fault. -/
inductive Fault where
  /-- The step meets a command whose operands lie outside what Sys2Proof.WellFormed admits. Raised by no meaning;
  kept so that the type is inhabited. Safe. -/
  | illFormed
deriving DecidableEq, Repr

/-- Reasons for a refusal. -/
inductive Refusal where
  /-- A command that has no meaning yet. Raised by exec's arms only. Safe. -/
  | notModelled (mnemonic : String)
deriving DecidableEq, Repr

/-- The machine right after reset: powered, SYS_RESET_N low, every register at its reset value. -/
def State.reset : State :=
  { pending := [], freeIx := 0, balls := { powered := true, sysResetN := false, bootSrc := 0, unitId := 0, spiDriven := false },
    boot := Boot.reset, fuses := Fuses.reset, flash := [], fw := Firmware.reset, claims := [], mboxes := [],
    gears := Gears.reset, swap := { count := 0, mb := none }, fences := [], hostStamp := 0, host := HostIf.reset,
    slices := [], undo := [], rings := [], cad := Cadence.reset, blocks := [], bell := Bell.reset, wear := Wear.reset, fenced := [], bad := [],
    ports := [], lanes := [], pipes := [], ctl := Stores2.reset, tables := Tables.reset, sw := Switching.reset,
    far := FarStore.reset, tandem := Tandem.reset, peloton := Peloton.reset }

end Sys2Proof.Machine
end

