-- ==== Sys2Proof/Machine/Ops.lean ====
section
/-! DEFINITION. The named operations that every meaning uses: sparse tables, byte strings, accessors of the
state's parts, presence and fencing of units, time, free values and writes to host memory. -/
namespace Sys2Proof.Machine
open Sys2Proof

/-- What a command's meaning answers. -/
abbrev Result := Host.Outcome State Fault Refusal

/-! ### Sparse tables -/

/-- The value at index `i`; an unlisted index reads as `d`. -/
def tget {α : Type} (t : Tab α) (d : α) (i : Nat) : α :=
  match t with
  | [] => d
  | (j, a) :: r => if i = j then a else tget r d i

/-- The table with the entry at `i` removed. -/
def tdel {α : Type} (t : Tab α) (i : Nat) : Tab α :=
  match t with
  | [] => []
  | (j, a) :: r => if i = j then tdel r i else (j, a) :: tdel r i

/-- The table with `a` listed at `i`. -/
def tput {α : Type} (t : Tab α) (i : Nat) (a : α) : Tab α :=
  match t with
  | [] => [(i, a)]
  | (j, b) :: r => if i = j then (i, a) :: r else if i < j then (i, a) :: (j, b) :: r else (j, b) :: tput r i a

/-- Write `a` at `i`; writing the default removes the entry, so that equal tables are equal data. -/
def tset {α : Type} [DecidableEq α] (t : Tab α) (d : α) (i : Nat) (a : α) : Tab α :=
  if a = d then tdel t i else tput (tdel t i) i a

/-- Change the value at `i`. -/
def tmod {α : Type} [DecidableEq α] (t : Tab α) (d : α) (i : Nat) (f : α → α) : Tab α :=
  tset t d i (f (tget t d i))

/-- The listed indices. -/
def tkeys {α : Type} (t : Tab α) : List Nat := t.map (·.1)

/-- The canonical form: indices strictly rising, no entry equal to the default. -/
def tabWf {α : Type} [DecidableEq α] (t : Tab α) (d : α) : Bool :=
  match t with
  | [] => true
  | (i, a) :: r => decide (a ≠ d) && r.all (fun p => decide (i < p.1)) && tabWf r d

/-- Add `n` to 64-bit counter `i`, which wraps. -/
def cbump (t : Tab (BitVec 64)) (i n : Nat) : Tab (BitVec 64) := tmod t 0 i (· + BitVec.ofNat 64 n)

/-- The listed values that are present. -/
def tsome {α : Type} (t : Tab (Option α)) : List (Nat × α) :=
  t.filterMap (fun p => p.2.map (fun a => (p.1, a)))

/-! ### Byte strings -/

/-- The low `n` bytes of `v`, least significant first (R11). -/
def leBytes (n v : Nat) : Bytes :=
  match n with
  | 0 => []
  | k + 1 => BitVec.ofNat 8 v :: leBytes k (v / 256)

/-- The value of a little-endian byte string. -/
def leNat (b : Bytes) : Nat := b.foldr (fun x n => x.toNat + 256 * n) 0

/-- The value of a byte string in wire order, first byte most significant. -/
def beNat (b : Bytes) : Nat := b.foldl (fun n x => 256 * n + x.toNat) 0

/-- The low `n` bytes of `v` in wire order. -/
def beBytes (n v : Nat) : Bytes := (leBytes n v).reverse

/-- Bytes `i` to `i + n − 1`. -/
def slice (b : Bytes) (i n : Nat) : Bytes := (b.drop i).take n

/-- The little-endian number in bytes `i` to `i + n − 1` of a buffer. -/
def leAt (b : Bytes) (i n : Nat) : Nat := leNat (slice b i n)

/-- The wire-order number in bytes `i` to `i + n − 1` of a frame; bytes beyond its end count as absent. -/
def beAt (b : Bytes) (i n : Nat) : Nat := beNat (slice b i n)

/-- `b` with `v` written over it from byte `i`. -/
def overwrite (b : Bytes) (i : Nat) (v : Bytes) : Bytes := b.take i ++ v ++ b.drop (i + v.length)

/-- All bytes are zero. -/
def allZero (b : Bytes) : Bool := b.all (· == 0)

/-- Bits `[lo + n − 1 : lo]` of a number. -/
def bitsAt (v lo n : Nat) : Nat := v / 2 ^ lo % 2 ^ n

/-- Bit `i` of a number. -/
def bitAt (v i : Nat) : Bool := v.testBit i

/-- The number as a signed value of `n` bits. -/
def signed (n v : Nat) : Int := if v % 2 ^ n < 2 ^ (n - 1) then (v % 2 ^ n : Nat) else (v % 2 ^ n : Nat) - (2 ^ n : Nat)

/-- A Bool as a bit. -/
def bit (b : Bool) : Nat := if b then 1 else 0

/-- Ceiling of a quotient. -/
def ceilDiv (a b : Nat) : Nat := (a + b - 1) / b

/-- R78: `a` is later than `b` in serial arithmetic of the given width. -/
def serialAfter (bits a b : Nat) : Bool :=
  let d := (a + 2 ^ bits - b % 2 ^ bits) % 2 ^ bits
  d ≠ 0 && d < 2 ^ (bits - 1)

/-- The numbers `a` to `a + n − 1`. -/
def upFrom (a n : Nat) : List Nat := (List.range n).map (a + ·)

/-! ### Time and free values -/

/-- FREE_NS (R335). -/
def State.now (s : State) : Nat := s.cad.freeNs.toNat

/-- Whole cadence cycles since the start of FREE_NS. -/
def State.cycles (s : State) : Nat := s.now / 1000000

/-- The cadence cycle number (R335). -/
def State.cycle (s : State) : BitVec 32 := BitVec.ofNat 32 s.cycles

/-- PTP seconds and nanoseconds (Table 13-1). -/
def State.ptpSec (s : State) : Nat := s.cad.ptp / 2 ^ 32 / 1000000000 % 2 ^ 48
def State.ptpNs (s : State) : Nat := s.cad.ptp / 2 ^ 32 % 1000000000

/-- A 64-bit timestamp (Table 13-2) of a PTP time in whole nanoseconds, under a step count. -/
def stampOf (ns : Nat) (step : BitVec 2) : BitVec 64 :=
  BitVec.ofNat 64 (ns / 1000000000 % 2 ^ 32 * 2 ^ 32 + step.toNat * 2 ^ 30 + ns % 1000000000)

/-- The timestamp of now. -/
def State.stamp (s : State) : BitVec 64 := stampOf (s.cad.ptp / 2 ^ 32) s.cad.stepCount

/-- Draw the next free value (log entry 3). -/
def State.draw (s : State) : BitVec 64 × State := (Config.freeValue s.freeIx, { s with freeIx := s.freeIx + 1 })

/-! ### Accessors -/

def State.mbox (s : State) (m : Nat) : Mailbox := tget s.mboxes Mailbox.reset m
/-- The SPI balls are driven, or released to high impedance (R80). -/
def State.spi (s : State) (drive : Bool) : State := { s with balls := { s.balls with spiDriven := drive } }

def State.setMbox (s : State) (m : Nat) (x : Mailbox) : State := { s with mboxes := tset s.mboxes Mailbox.reset m x }
def State.slice (s : State) (n : Nat) : Slice := tget s.slices Slice.reset n
def State.setSlice (s : State) (n : Nat) (x : Slice) : State := { s with slices := tset s.slices Slice.reset n x }
def State.ring (s : State) (n : Nat) : RingPair := tget s.rings RingPair.reset n
def State.setRing (s : State) (n : Nat) (x : RingPair) : State := { s with rings := tset s.rings RingPair.reset n x }
def State.block (s : State) (n : Nat) : Block := tget s.blocks Block.reset n
def State.setBlock (s : State) (n : Nat) (x : Block) : State := { s with blocks := tset s.blocks Block.reset n x }
def State.port (s : State) (n : Nat) : Port := tget s.ports Port.reset n
def State.setPort (s : State) (n : Nat) (x : Port) : State := { s with ports := tset s.ports Port.reset n x }
def State.modPort (s : State) (n : Nat) (f : Port → Port) : State := s.setPort n (f (s.port n))
def State.lane (s : State) (n : Nat) : Lane := tget s.lanes Lane.reset n
def State.setLane (s : State) (n : Nat) (x : Lane) : State := { s with lanes := tset s.lanes Lane.reset n x }
def State.pipe (s : State) (n : Nat) : Pipe := tget s.pipes Pipe.reset n
def State.setPipe (s : State) (n : Nat) (x : Pipe) : State := { s with pipes := tset s.pipes Pipe.reset n x }
def State.modPipe (s : State) (n : Nat) (f : Pipe → Pipe) : State := s.setPipe n (f (s.pipe n))
def State.store (s : State) (n : Nat) : Store := tget s.sw.stores Store.reset n
def State.setStore (s : State) (n : Nat) (x : Store) : State :=
  { s with sw := { s.sw with stores := tset s.sw.stores Store.reset n x } }
def State.frame (s : State) (n : Nat) : Option Frame := tget s.sw.frames none n
def State.setFrame (s : State) (n : Nat) (x : Option Frame) : State :=
  { s with sw := { s.sw with frames := tset s.sw.frames none n x } }
def State.packet (s : State) (n : Nat) : Option Packet := tget s.sw.packets none n
def State.setPacket (s : State) (n : Nat) (x : Option Packet) : State :=
  { s with sw := { s.sw with packets := tset s.sw.packets none n x } }
def State.queueOf (s : State) (n : Nat) : List Nat := tget s.sw.queues [] n
def State.setQueue (s : State) (n : Nat) (x : List Nat) : State :=
  { s with sw := { s.sw with queues := tset s.sw.queues [] n x } }
/-- Nodes are keyed by level × 2^20 + index (R261). -/
def State.node (s : State) (k : Nat) : Option Node := tget s.sw.nodes none k
def State.setNode (s : State) (k : Nat) (x : Option Node) : State :=
  { s with sw := { s.sw with nodes := tset s.sw.nodes none k x } }
def State.channel (s : State) (c : Nat) : Channel := tget s.far.channels Channel.reset c
def State.setChannel (s : State) (c : Nat) (x : Channel) : State :=
  { s with far := { s.far with channels := tset s.far.channels Channel.reset c x } }
def State.line (s : State) (c : Nat) : LineChannel := tget s.cad.lines LineChannel.reset c
def State.setLine (s : State) (c : Nat) (x : LineChannel) : State :=
  { s with cad := { s.cad with lines := tset s.cad.lines LineChannel.reset c x } }
def State.learnCfg (s : State) (t : Nat) : LearnCfg := tget s.tables.learn LearnCfg.reset t
def State.setLearn (s : State) (t : Nat) (x : LearnCfg) : State :=
  { s with tables := { s.tables with learn := tset s.tables.learn LearnCfg.reset t x } }
def State.te (s : State) : TableEngine := s.tables.te
def State.setTe (s : State) (x : TableEngine) : State := { s with tables := { s.tables with te := x } }
def State.gpio (s : State) (g : Nat) : Gpio := tget s.cad.gpios Gpio.reset g
def State.setGpio (s : State) (g : Nat) (x : Gpio) : State :=
  { s with cad := { s.cad with gpios := tset s.cad.gpios Gpio.reset g x } }
def State.link (s : State) (f : Nat) : FabricLink := tget s.peloton.links FabricLink.reset f
def State.setLink (s : State) (f : Nat) (x : FabricLink) : State :=
  { s with peloton := { s.peloton with links := tset s.peloton.links FabricLink.reset f x } }

/-! ### Presence and fencing -/

/-- Units of the part (Table 0-1, R47). -/
def State.spokes (s : State) : Nat := if s.fuses.part = .bx6120 then 8 else 16
def State.pipeCount (s : State) : Nat := if s.fuses.part = .bx6120 then 4 else 8
def State.portCount (s : State) : Nat := 8 * s.spokes
def State.hasFar (s : State) : Bool := s.fuses.part != .bx6120
def State.hasTandem (s : State) : Bool := s.fuses.part != .bx6120
def State.hasMatcher (s : State) : Bool := s.fuses.part == .bx6400
def State.tcamSize (s : State) : Nat := if s.fuses.part = .bx6240 then 6144 else 12288
def State.partCode (s : State) : Nat :=
  match s.fuses.part with | .bx6400 => 0x6400 | .bx6240 => 0x6240 | .bx6120 => 0x6120
def State.presentPipes (s : State) : List Nat := List.range s.pipeCount

/-- A unit of Table 14-7 is fenced. -/
def State.isFenced (s : State) (kind index : Nat) : Bool := tget s.fenced false (kind * 256 + index)
def State.setFenced (s : State) (kind index : Nat) (b : Bool) : State :=
  { s with fenced := tset s.fenced false (kind * 256 + index) b }

/-- Pipes that are present and not fenced. -/
def State.livePipes (s : State) : List Nat := s.presentPipes.filter (fun p => !s.isFenced 2 p)

/-- Pipe of a port, spoke of a port (R16). -/
def pipeOf (port : Nat) : Nat := port / 16
def spokeOf (port : Nat) : Nat := port / 8

/-- A port's spoke is fenced, or its pipe (R379). -/
def State.portFenced (s : State) (p : Nat) : Bool := s.isFenced 1 (spokeOf p) || s.isFenced 2 (pipeOf p)

/-- The islands of Table 1-2: spokes 0–15, pipes 16–23, crossbar 24, subscriber 25, table 26, DRAM 27–29,
control 30, cadence 31, Tandem 32. -/
def State.islandPresent (s : State) (i : Nat) : Bool :=
  if i < 16 then i < s.spokes else if i < 24 then i - 16 < s.pipeCount
  else if 27 ≤ i && i < 30 then s.hasFar else i < 33

def State.islandLive (s : State) (i : Nat) : Bool :=
  s.islandPresent i && !(if i < 16 then s.isFenced 1 i else if i < 24 then s.isFenced 2 (i - 16) else false)

def State.liveIslands (s : State) : List Nat := (List.range 33).filter s.islandLive

/-- Islands that are present and fenced. -/
def State.downIslands (s : State) : List Nat := (List.range 33).filter (fun i => s.islandPresent i && !s.islandLive i)

/-- Block numbers (R368). -/
def spokeBlock (n : Nat) : Nat := 2 + n
def pipeBlock (n : Nat) : Nat := 18 + n
def channelBlock (n : Nat) : Nat := 26 + n
def swBlock : Nat := 50
def cadBlock : Nat := 51
def tandemBlock : Nat := 52

def State.blockPresent (s : State) (b : Nat) : Bool :=
  if b < 2 then true else if b < 18 then b - 2 < s.spokes else if b < 26 then b - 18 < s.pipeCount
  else if b < 50 then s.hasFar else b < 53

def State.presentBlocks (s : State) : List Nat := (List.range 53).filter s.blockPresent

/-- The spoke or pipe of a block is fenced. -/
def State.blockFenced (s : State) (b : Nat) : Bool :=
  if b < 2 then false else if b < 18 then s.isFenced 1 (b - 2) else if b < 26 then s.isFenced 2 (b - 18)
  else if b < 50 then s.isFenced 6 (b - 26) else false

/-! ### Host memory -/

/-- List bytes from an address up. -/
def memPut (m : List (Nat × Byte)) (a : Nat) (b : Bytes) : List (Nat × Byte) :=
  match b with
  | [] => m
  | x :: r => memPut (tput m (a % 2 ^ 64) x) (a + 1) r

/-- `n` bytes from an address, when all of them have been written. -/
def memGet (m : List (Nat × Byte)) (a n : Nat) : Option Bytes :=
  match n with
  | 0 => some []
  | k + 1 =>
    match m.find? (fun p => p.1 == a % 2 ^ 64), memGet m (a + 1) k with
    | some p, some r => some (p.2 :: r)
    | _, _ => none

/-- What the device has written at an address. -/
def memAt (m : List (Nat × Byte)) (a : Nat) : Option Byte :=
  match m with
  | [] => none
  | (i, b) :: r => if a = i then some b else memAt r a

/-- A posted write to host memory (R451); while the link is down it is lost. -/
def State.dmaWrite (s : State) (a : Nat) (b : Bytes) : State :=
  if s.host.linkUp then { s with host := { s.host with mem := memPut s.host.mem a b } } else s

/-- The slice of a mailbox; 128 is the manager's. -/
def mboxSlice (mb : Nat) : Nat := if mb = 0 then 128 else mb - 1

/-- The PASID that DMA for a slice carries (R321). -/
def State.pasidOf (s : State) (slc : Nat) : Option Nat :=
  if slc < 128 && (s.slice slc).pasidEn then some (s.slice slc).pasid.toNat else none

/-- The bytes that the device has written for a slice. -/
def State.memFor (s : State) (slc : Nat) : List (Nat × Byte) :=
  match s.pasidOf slc with | some p => tget s.host.spaces [] p | none => s.host.mem

/-- A DMA write for a slice. -/
def State.dmaFor (s : State) (slc a : Nat) (b : Bytes) : State :=
  match s.pasidOf slc with
  | none => s.dmaWrite a b
  | some p =>
    if s.host.linkUp then { s with host := { s.host with spaces := tset s.host.spaces [] p (memPut (tget s.host.spaces [] p) a b) } } else s

/-- Memory's canonical form: addresses strictly rising. -/
def memWf (m : List (Nat × Byte)) : Bool :=
  match m with
  | [] => true
  | (i, _) :: r => r.all (fun p => decide (i < p.1)) && memWf r

/-! ### Lists -/

/-- The first failure of a list of checks. -/
def firstSome {α : Type} (l : List (Option α)) : Option α :=
  match l with
  | [] => none
  | some a :: _ => some a
  | none :: r => firstSome r

/-- Apply an operation to the state for each element, in order. -/
def forAll {α : Type} (l : List α) (s : State) (f : α → State → State) : State := l.foldl (fun t a => f a t) s

/-- Replace the element at `i`. -/
def lset {α : Type} (l : List α) (i : Nat) (a : α) : List α := l.set i a

/-- The least element by a key, the first of equals. -/
def minBy {α : Type} (key : α → Nat) (l : List α) : Option α :=
  match l with
  | [] => none
  | a :: r => some (r.foldl (fun m x => if key x < key m then x else m) a)

end Sys2Proof.Machine
end

