-- ==== Sys2Proof/Machine/Flags.lean ====
section
/-! DEFINITION. Status that events set: performance counters, MSI-X messages and event mappings, error status,
history entries and the reactions that belong to a severity, the firmware log, and the bell's stop cause. -/
namespace Sys2Proof.Machine
open Sys2Proof

/-! ### Performance counters (R353, R354) -/

/-- Add `n` to counter `i`; a carry goes into counter `i + 1` when that counter is chained, and otherwise sets
OVF. `fuel` bounds the chain. -/
def perfAdd (fuel : Nat) (perf : Tab PerfCounter) (i n : Nat) : Tab PerfCounter :=
  match fuel with
  | 0 => perf
  | k + 1 =>
    let c := tget perf PerfCounter.reset i
    let sum := c.count.toNat + n
    let carry := sum / 2 ^ 48
    let chained := i < 7 && (tget perf PerfCounter.reset (i + 1)).chain
    let c' := { c with count := BitVec.ofNat 48 sum, ovf := c.ovf || (carry ≠ 0 && !chained) }
    let perf' := tset perf PerfCounter.reset i c'
    if carry ≠ 0 && chained then perfAdd k perf' (i + 1) carry else perf'

/-- Counter `i` counts events of number `ev` in mode `m` (1 edge, 2 level). -/
def perfCounts (perf : Tab PerfCounter) (ev m i : Nat) : Bool :=
  let c := tget perf PerfCounter.reset i
  c.event.toNat == ev && c.mode.toNat == m && (i == 0 || !c.chain)

/-- `n` occurrences of an event in a block: counted in either mode, each occurrence lasting one island clock. -/
def State.perfEvent (s : State) (b ev n : Nat) : State :=
  let blk := s.block b
  if blk.perf = [] then s
  else
    s.setBlock b { blk with
      perf := ((List.range 8).filter (fun i => perfCounts blk.perf ev 1 i || perfCounts blk.perf ev 2 i)).foldl
        (fun p i => perfAdd 8 p i n) blk.perf }

/-- A rising edge of an event that lasts: counted in edge mode. -/
def State.perfEdge (s : State) (b ev : Nat) : State :=
  let blk := s.block b
  if blk.perf = [] then s
  else s.setBlock b { blk with
    perf := ((List.range 8).filter (fun i => perfCounts blk.perf ev 1 i)).foldl (fun p i => perfAdd 8 p i 1) blk.perf }

/-- `n` island clocks of events that hold, counted in level mode; the clocks themselves in either mode. -/
def Block.clocks (x : Block) (n : Nat) (levels : List Nat) : Block :=
  if x.perf = [] then x
  else { x with
    perf := ((List.range 8).filter (fun i => perfCounts x.perf 0 1 i || (0 :: levels).any (fun ev => perfCounts x.perf ev 2 i))).foldl
      (fun p i => perfAdd 8 p i n) x.perf }

/-! ### MSI-X (R305, R308) -/

/-- The longest MIN_GAP, in ns, of the mappings that name a vector. -/
def State.vectorGap (s : State) (v : Nat) : Nat :=
  (s.host.maps.filter (fun m => m.vector == v)).foldl (fun g m => max g (m.minGap * 1000)) 0

def State.setVector (s : State) (v : Nat) (x : Vector) : State :=
  { s with host := { s.host with vectors := tset s.host.vectors Vector.reset v x } }

/-- Send a vector's message, or set its pending bit while it is masked. -/
def State.vectorDeliver (s : State) (v : Nat) : State :=
  let x := tget s.host.vectors Vector.reset v
  if x.masked then s.setVector v { x with pending := true, merged := none }
  else (s.setVector v { x with lastSent := some s.now, pending := false, merged := none }).dmaWrite x.addr.toNat
    (leBytes 4 x.data.toNat)

/-- Raise a vector for an event of a slice generation, or of the manager: events within the gap merge. -/
def State.vectorRaise (s : State) (v : Nat) (tag : Option (Nat × BitVec 16)) : State :=
  if 2048 ≤ v then s
  else
    let x := tget s.host.vectors Vector.reset v
    match x.lastSent with
    | some t => if s.now < t + s.vectorGap v then s.setVector v { x with merged := some tag } else s.vectorDeliver v
    | none => s.vectorDeliver v

/-- The slice and generation that a mailbox's work carries; none for the manager. -/
def State.mboxTag (s : State) (mb : Nat) : Option (Nat × BitVec 16) :=
  if mb = 0 then none else some (mb - 1, (s.slice (mb - 1)).gen)

/-- An event of a kind about an object: every mapping of it raises its vector (R309, R373). Objects are ports,
blocks, and rings by their ring pair number. -/
def State.event (s : State) (kind object : Nat) : State :=
  forAll (s.host.maps.filter (fun m => m.kind == kind && m.object == object)) s
    (fun m t => t.vectorRaise m.vector (t.mboxTag m.mbox))

/-! ### Firmware log (R53) -/

/-- Write a record; the oldest of 7,168 is overwritten. A halted firmware writes none. -/
def State.fwRecord (s : State) (kind mbox status opcode index detail : Nat) : State :=
  if s.fw.halted then s
  else
    let r : FwRecord :=
      { seq := s.fw.logSeq, kind := kind, mbox := mbox, status := status, opcode := BitVec.ofNat 16 opcode,
        index := BitVec.ofNat 32 index, detail := BitVec.ofNat 64 detail, time := s.now }
    let l := s.fw.log ++ [r]
    { s with fw := { s.fw with log := l.drop (l.length - 7168), logSeq := s.fw.logSeq + 1 } }

/-! ### Error status (R369–R376) -/

/-- SEVERITY of a code in a block (Table 14-5): 0 corrected, 1 degraded, 2 fatal. -/
def severity (b code : Nat) : Nat :=
  if code ∈ [8, 9, 10, 11, 14, 27, 29] then 2
  else if code = 16 then (if b ∈ [0, 1, 50, 51] then 2 else 1)
  else if code ∈ [0, 4, 12, 17, 18, 25, 32] then 0
  else 1

/-- How Table 14-5 says a code clears. -/
inductive ClearRule where
  | w1c | cause | reset
deriving DecidableEq, Repr

def clearRule (code : Nat) : ClearRule :=
  if code ∈ [8, 9] then .reset
  else if code ∈ [10, 11, 14, 15, 26, 27, 28, 29] then .cause
  else .w1c

/-- Codes 0–32 are defined. -/
def codeDefined (code : Nat) : Bool := code ≤ 32

/-- A set bit of a register of codes. -/
def hasCode (w : BitVec 48) (code : Nat) : Bool := w.getLsbD code
def setCode (w : BitVec 48) (code : Nat) (b : Bool) : BitVec 48 :=
  if b then w ||| BitVec.ofNat 48 (2 ^ code) else w &&& ~~~ BitVec.ofNat 48 (2 ^ code)

/-- The highest severity set in a block, if any code is. -/
def blockSeverity (b : Nat) (w : BitVec 48) : Nat :=
  (List.range 48).foldl (fun m c => if hasCode w c then max m (severity b c) else m) 0

/-- A fatal code is set in some block. -/
def State.anyFatal (s : State) : Bool :=
  s.blocks.any (fun p => (List.range 48).any (fun c => hasCode p.2.codes c && severity p.1 c == 2))

/-- The newest history entry. -/
def Block.newest (x : Block) : Option HistEntry := tget x.history none ((x.next + 7#3).toNat)

/-- Write or merge a history entry (R371, R372). The Bool says that an entry was written. -/
def Block.record (x : Block) (time b code detail : Nat) (inj : Bool) : Block × Bool :=
  let sev := severity b code
  match x.newest with
  | some h =>
    if sev = 0 && h.code = code && h.inj = inj then
      ({ x with history := tset x.history none ((x.next + 7#3).toNat) (some { h with count := min 0xFFFF (h.count + 1) }) },
        false)
    else
      ({ x with
          history := tset x.history none x.next.toNat (some
            { time := time, code := code, severity := sev, inj := inj, count := 1, detail := BitVec.ofNat 32 detail }),
          next := x.next + 1, total := x.total + 1 }, true)
  | none =>
    ({ x with
        history := tset x.history none x.next.toNat (some
          { time := time, code := code, severity := sev, inj := inj, count := 1, detail := BitVec.ofNat 32 detail }),
        next := x.next + 1, total := x.total + 1 }, true)

/-- The content of a post-mortem dump (Table 14-9) at a fatal fault. -/
def State.dumpNow (s : State) (b code : Nat) : Dump :=
  { freeNs := s.now, cycle := s.cycle, block := b, code := code,
    bundle := match s.fw.active with | some x => x.id | none => 0,
    fwMinor := s.fw.fwMinor, blocks := s.blocks, mboxes := s.mboxes, log := s.fw.log }

/-- What a newly set fatal code does beyond stopping the bell: the dump (R386) and the halt (R376). -/
def State.fatalSet (s : State) (b code : Nat) : State :=
  let s := if s.bell.dumpState = .armed then
      { s with bell := { s.bell with dumpState := .writing, dump := some (s.dumpNow b code) } } else s
  if code = 8 || code = 9 then { s with fw := { s.fw with halted := true, fwReady := false } } else s

/-- A block detects a fault code: latch, history, interrupt, events, and what every fatal code does. -/
def State.raise (s : State) (b code detail : Nat) (inj : Bool) : State :=
  if !s.blockPresent b || !codeDefined code then s
  else
    let x := s.block b
    let old := hasCode x.codes code
    let (y, wrote) := { x with codes := setCode x.codes code true,
                               real := if inj then x.real else setCode x.real code true }.record s.now b code detail inj
    let s := s.setBlock b y
    let s := if old then s else s.perfEvent b 1 1
    let s := if wrote then s.perfEvent b 2 1 else s
    let s := if !old && severity b code = 2 then s.fatalSet b code else s
    let s := if !old && !hasCode x.mask code then s.event 8 b else s
    if !old && (code = 26 || code = 27 || code = 28 || code = 29) then s.event 11 0 else s

/-- Set whether the condition of a Cause code holds (R387). -/
def State.setCause (s : State) (b code : Nat) (holds : Bool) : State :=
  let x := s.block b
  s.setBlock b { x with causes := setCode x.causes code holds }

/-- A real detection of a Cause code: its condition holds, and the code is recorded once while it does. -/
def State.raiseCause (s : State) (b code detail : Nat) (inj : Bool) : State :=
  if hasCode (s.block b).causes code && hasCode (s.block b).real code then s
  else (s.setCause b code true).raise b code detail inj

/-- The history entry of a mailbox that enters ERROR (R36), its state and its log record. -/
def State.mboxError (s : State) (mb : Nat) (cause : MboxCause) (n : Nat) : State :=
  let s := s.setMbox mb { s.mbox mb with state := .error, errCause := cause }
  (s.raise 1 12 (mb + n * 256) false).fwRecord 2 mb 0 0 0 n

/-! ### Fences (R379) -/

/-- The block of a fenceable unit (Table 14-7). -/
def unitBlock (kind index : Nat) : Nat :=
  match kind with
  | 1 => spokeBlock index
  | 5 => swBlock
  | 6 => channelBlock index
  | _ => pipeBlock index

/-- What every fence does: the unit's mark, UNIT_FENCED with the trigger, the event and the log record. `mb` is the mailbox of
UNIT_FENCE, 0xFF for another trigger. -/
def State.unitFenced (s : State) (kind index trigger : Nat) (inj : Bool) (mb : Nat) : State :=
  let s := s.setFenced kind index true
  let s := s.raise (unitBlock kind index) 22 (kind + index * 256 + trigger * 65536) inj
  (s.event 10 0).fwRecord 3 mb 0 (if trigger = 0xFF then 0x0D02 else 0) (kind + index * 256) 0

/-! ### The bell (R383) -/

/-- STOP_CAUSE: 1 fatal code, 2 heartbeat, 3 HOST_STOP, 4 no firmware, 0 running; the lowest that applies. -/
def State.bellCause (s : State) : Nat :=
  if s.anyFatal then 1
  else if s.bell.started && !s.bell.heartbeat then 2
  else if s.bell.hostStop then 3
  else if !s.bell.started || s.boot.phase = .failed || s.boot.phase = .hold then 4
  else 0

/-- The BELL ball carries its square wave. -/
def State.bellRuns (s : State) : Bool := s.bellCause == 0

end Sys2Proof.Machine
end

