-- ==== Sys2Proof/Machine/Opcodes.lean ====
section
/-! DEFINITION. The opcode index, Table 2-13. -/
namespace Sys2Proof.Machine
open Sys2Proof

/-- Time class (R42). -/
inductive TimeClass where
  | a | b | c
deriving DecidableEq, Repr

/-- The indirect forms of an opcode (R38): none, accepted, or the only form. -/
inductive IndForm where
  | never | optional | always
deriving DecidableEq, Repr

/-- An opcode's row of Table 2-13: number, use by slice mailboxes, class, acceptance by the Stoker, buffer. The
class of a batch opcode is that of its inline form, where it has one; FENCE stands with the class of its DRAIN form. -/
structure OpRow where
  op     : Nat
  slices : Bool
  cls    : TimeClass
  stoker : Bool
  ind    : IndForm
deriving DecidableEq, Repr

def rowDeviceInfo : OpRow := { op := 0x0101, slices := true, cls := .a, stoker := true, ind := .never }
def rowNop : OpRow := { op := 0x0102, slices := true, cls := .a, stoker := true, ind := .never }
def rowClaimQuery : OpRow := { op := 0x0103, slices := false, cls := .a, stoker := true, ind := .never }
def rowFwLogRead : OpRow := { op := 0x0104, slices := false, cls := .b, stoker := true, ind := .always }
def rowFence : OpRow := { op := 0x0201, slices := true, cls := .c, stoker := true, ind := .never }
def rowRuleBankSwap : OpRow := { op := 0x0202, slices := false, cls := .b, stoker := false, ind := .never }
def rowRuleBankStatus : OpRow := { op := 0x0203, slices := true, cls := .a, stoker := true, ind := .never }
def rowGearSet : OpRow := { op := 0x0204, slices := false, cls := .c, stoker := false, ind := .never }
def rowGearStatus : OpRow := { op := 0x0205, slices := true, cls := .a, stoker := true, ind := .never }
def rowPatchStage : OpRow := { op := 0x0301, slices := false, cls := .c, stoker := true, ind := .always }
def rowPatchActivate : OpRow := { op := 0x0302, slices := false, cls := .b, stoker := true, ind := .never }
def rowPatchStatus : OpRow := { op := 0x0303, slices := false, cls := .a, stoker := true, ind := .never }
def rowPatchRevert : OpRow := { op := 0x0304, slices := false, cls := .b, stoker := true, ind := .never }
def rowFuseRead : OpRow := { op := 0x0305, slices := false, cls := .a, stoker := true, ind := .never }
def rowRollbackAdvance : OpRow := { op := 0x0306, slices := false, cls := .b, stoker := true, ind := .never }
def rowPortConfig : OpRow := { op := 0x0401, slices := false, cls := .b, stoker := false, ind := .never }
def rowPortEnable : OpRow := { op := 0x0402, slices := false, cls := .b, stoker := false, ind := .never }
def rowPortModeSet : OpRow := { op := 0x0403, slices := false, cls := .a, stoker := false, ind := .never }
def rowPortPauseSet : OpRow := { op := 0x0404, slices := false, cls := .a, stoker := false, ind := .never }
def rowPortStatus : OpRow := { op := 0x0405, slices := true, cls := .a, stoker := true, ind := .never }
def rowPortStatsRead : OpRow := { op := 0x0406, slices := true, cls := .a, stoker := true, ind := .never }
def rowParseGraphLoad : OpRow := { op := 0x0501, slices := false, cls := .c, stoker := false, ind := .optional }
def rowCustomerStoreLoad : OpRow := { op := 0x0502, slices := false, cls := .c, stoker := false, ind := .always }
def rowPatternSetLoad : OpRow := { op := 0x0503, slices := false, cls := .c, stoker := false, ind := .always }
def rowPatternSetBind : OpRow := { op := 0x0504, slices := true, cls := .a, stoker := false, ind := .never }
def rowLifelineSet : OpRow := { op := 0x0505, slices := true, cls := .a, stoker := false, ind := .never }
def rowEmInsert : OpRow := { op := 0x0601, slices := true, cls := .a, stoker := false, ind := .optional }
def rowEmDelete : OpRow := { op := 0x0602, slices := true, cls := .a, stoker := false, ind := .optional }
def rowEmUpdate : OpRow := { op := 0x0603, slices := true, cls := .a, stoker := false, ind := .never }
def rowEmLookup : OpRow := { op := 0x0604, slices := true, cls := .a, stoker := true, ind := .never }
def rowEmReadIndex : OpRow := { op := 0x0605, slices := true, cls := .a, stoker := true, ind := .never }
def rowLpmAdd : OpRow := { op := 0x0606, slices := true, cls := .a, stoker := false, ind := .optional }
def rowLpmDelete : OpRow := { op := 0x0607, slices := true, cls := .a, stoker := false, ind := .optional }
def rowLearnConfig : OpRow := { op := 0x0608, slices := true, cls := .a, stoker := false, ind := .never }
def rowAgeingConfig : OpRow := { op := 0x0609, slices := true, cls := .a, stoker := false, ind := .never }
def rowParityLogRead : OpRow := { op := 0x060A, slices := false, cls := .a, stoker := true, ind := .never }
def rowRuleInsert : OpRow := { op := 0x0701, slices := true, cls := .c, stoker := false, ind := .always }
def rowRuleDelete : OpRow := { op := 0x0702, slices := true, cls := .c, stoker := false, ind := .always }
def rowRuleRead : OpRow := { op := 0x0703, slices := true, cls := .a, stoker := true, ind := .never }
def rowActionProgramLoad : OpRow := { op := 0x0704, slices := false, cls := .b, stoker := false, ind := .always }
def rowIsolationMatrixSet : OpRow := { op := 0x0705, slices := false, cls := .b, stoker := false, ind := .always }
def rowRecircConfig : OpRow := { op := 0x0706, slices := false, cls := .a, stoker := false, ind := .never }
def rowQueueThresholdSet : OpRow := { op := 0x0801, slices := true, cls := .a, stoker := false, ind := .never }
def rowEcnConfig : OpRow := { op := 0x0802, slices := true, cls := .a, stoker := false, ind := .never }
def rowMcastGroupSet : OpRow := { op := 0x0803, slices := true, cls := .a, stoker := false, ind := .never }
def rowSpillConfig : OpRow := { op := 0x0804, slices := true, cls := .a, stoker := false, ind := .never }
def rowChainAuditRun : OpRow := { op := 0x0805, slices := false, cls := .c, stoker := true, ind := .never }
def rowStoreStatus : OpRow := { op := 0x0806, slices := false, cls := .a, stoker := true, ind := .never }
def rowNodeConfig : OpRow := { op := 0x0901, slices := true, cls := .a, stoker := false, ind := .never }
def rowShaperSet : OpRow := { op := 0x0902, slices := true, cls := .a, stoker := false, ind := .never }
def rowWfqWeightSet : OpRow := { op := 0x0903, slices := true, cls := .a, stoker := false, ind := .never }
def rowPolicerSet : OpRow := { op := 0x0904, slices := true, cls := .a, stoker := false, ind := .never }
def rowClassSchedSet : OpRow := { op := 0x0905, slices := false, cls := .a, stoker := false, ind := .never }
def rowSchedRead : OpRow := { op := 0x0906, slices := true, cls := .a, stoker := true, ind := .never }
def rowDramTrain : OpRow := { op := 0x0A01, slices := false, cls := .c, stoker := true, ind := .never }
def rowDramStatus : OpRow := { op := 0x0A02, slices := false, cls := .a, stoker := true, ind := .never }
def rowDramRetry : OpRow := { op := 0x0A03, slices := false, cls := .c, stoker := true, ind := .never }
def rowDramCaptureSet : OpRow := { op := 0x0A04, slices := false, cls := .a, stoker := true, ind := .never }
def rowSliceCreate : OpRow := { op := 0x0B01, slices := false, cls := .b, stoker := false, ind := .never }
def rowSliceResize : OpRow := { op := 0x0B02, slices := false, cls := .b, stoker := false, ind := .never }
def rowSliceDestroy : OpRow := { op := 0x0B03, slices := false, cls := .c, stoker := false, ind := .never }
def rowSliceReset : OpRow := { op := 0x0B04, slices := true, cls := .c, stoker := false, ind := .never }
def rowSliceStatus : OpRow := { op := 0x0B05, slices := true, cls := .a, stoker := true, ind := .never }
def rowRingPairSet : OpRow := { op := 0x0B06, slices := true, cls := .a, stoker := true, ind := .never }
def rowVectorMapSet : OpRow := { op := 0x0B07, slices := true, cls := .a, stoker := true, ind := .never }
def rowTimeSet : OpRow := { op := 0x0C01, slices := false, cls := .a, stoker := true, ind := .never }
def rowTimeAdjust : OpRow := { op := 0x0C02, slices := false, cls := .a, stoker := true, ind := .never }
def rowProbeSet : OpRow := { op := 0x0C03, slices := true, cls := .a, stoker := false, ind := .never }
def rowProbeRead : OpRow := { op := 0x0C04, slices := true, cls := .a, stoker := true, ind := .never }
def rowCounterSnapshot : OpRow := { op := 0x0C05, slices := true, cls := .b, stoker := true, ind := .optional }
def rowPerfSelect : OpRow := { op := 0x0C06, slices := false, cls := .a, stoker := true, ind := .never }
def rowLineChannelSet : OpRow := { op := 0x0C07, slices := false, cls := .a, stoker := true, ind := .never }
def rowLineChannelStatus : OpRow := { op := 0x0C08, slices := false, cls := .a, stoker := true, ind := .never }
def rowModuleAccess : OpRow := { op := 0x0C09, slices := false, cls := .b, stoker := true, ind := .never }
def rowSynceOutSet : OpRow := { op := 0x0C0A, slices := false, cls := .a, stoker := true, ind := .never }
def rowPpsOutSet : OpRow := { op := 0x0C0B, slices := false, cls := .a, stoker := true, ind := .never }
def rowGpioSet : OpRow := { op := 0x0C0C, slices := false, cls := .a, stoker := true, ind := .never }
def rowFaultStatusRead : OpRow := { op := 0x0D01, slices := false, cls := .a, stoker := true, ind := .never }
def rowUnitFence : OpRow := { op := 0x0D02, slices := false, cls := .b, stoker := true, ind := .never }
def rowUnitUnfence : OpRow := { op := 0x0D03, slices := false, cls := .c, stoker := true, ind := .never }
def rowFaultInject : OpRow := { op := 0x0D04, slices := false, cls := .a, stoker := true, ind := .never }
def rowBellConfig : OpRow := { op := 0x0D05, slices := false, cls := .a, stoker := true, ind := .never }
def rowWearRead : OpRow := { op := 0x0D06, slices := false, cls := .a, stoker := true, ind := .never }
def rowTandemConfig : OpRow := { op := 0x0E01, slices := false, cls := .b, stoker := true, ind := .never }
def rowTandemStatus : OpRow := { op := 0x0E02, slices := false, cls := .a, stoker := true, ind := .never }
def rowRoleHandover : OpRow := { op := 0x0E03, slices := false, cls := .c, stoker := true, ind := .never }
def rowClaimRankSet : OpRow := { op := 0x0E04, slices := false, cls := .a, stoker := true, ind := .never }
def rowPelotonConfig : OpRow := { op := 0x0E05, slices := false, cls := .b, stoker := false, ind := .never }
def rowFabricStatus : OpRow := { op := 0x0E06, slices := false, cls := .a, stoker := true, ind := .never }
def rowDigestRead : OpRow := { op := 0x0E07, slices := false, cls := .a, stoker := true, ind := .never }

/-- The opcodes that the firmware defines. -/
def opTable : List OpRow :=
  [rowDeviceInfo, rowNop, rowClaimQuery, rowFwLogRead, rowFence, rowRuleBankSwap] ++
  [rowRuleBankStatus, rowGearSet, rowGearStatus, rowPatchStage, rowPatchActivate, rowPatchStatus] ++
  [rowPatchRevert, rowFuseRead, rowRollbackAdvance, rowPortConfig, rowPortEnable, rowPortModeSet] ++
  [rowPortPauseSet, rowPortStatus, rowPortStatsRead, rowParseGraphLoad, rowCustomerStoreLoad, rowPatternSetLoad] ++
  [rowPatternSetBind, rowLifelineSet, rowEmInsert, rowEmDelete, rowEmUpdate, rowEmLookup] ++
  [rowEmReadIndex, rowLpmAdd, rowLpmDelete, rowLearnConfig, rowAgeingConfig, rowParityLogRead] ++
  [rowRuleInsert, rowRuleDelete, rowRuleRead, rowActionProgramLoad, rowIsolationMatrixSet, rowRecircConfig] ++
  [rowQueueThresholdSet, rowEcnConfig, rowMcastGroupSet, rowSpillConfig, rowChainAuditRun, rowStoreStatus] ++
  [rowNodeConfig, rowShaperSet, rowWfqWeightSet, rowPolicerSet, rowClassSchedSet, rowSchedRead] ++
  [rowDramTrain, rowDramStatus, rowDramRetry, rowDramCaptureSet, rowSliceCreate, rowSliceResize] ++
  [rowSliceDestroy, rowSliceReset, rowSliceStatus, rowRingPairSet, rowVectorMapSet, rowTimeSet] ++
  [rowTimeAdjust, rowProbeSet, rowProbeRead, rowCounterSnapshot, rowPerfSelect, rowLineChannelSet] ++
  [rowLineChannelStatus, rowModuleAccess, rowSynceOutSet, rowPpsOutSet, rowGpioSet, rowFaultStatusRead] ++
  [rowUnitFence, rowUnitUnfence, rowFaultInject, rowBellConfig, rowWearRead, rowTandemConfig] ++
  [rowTandemStatus, rowRoleHandover, rowClaimRankSet, rowPelotonConfig, rowFabricStatus, rowDigestRead]

/-- The row of an opcode. -/
def opRow? (op : Nat) : Option OpRow := opTable.find? (fun r => r.op == op)

end Sys2Proof.Machine
end

