-- ==== Sys2Proof/Machine/Operands.lean ====
section
/-! DEFINITION. Operands and results of mailbox commands: the fields of a command entry and of its indirect
buffer, the check order of Table 2-12, the response entry, and the start and completion of a command. -/
namespace Sys2Proof
open Sys2Proof.Machine

/-- Bits `[lo + n − 1 : lo]` of the little-endian number that begins at byte `off` (16–63) of the entry. -/
def Entry.f (e : Entry) (off lo n : Nat) : Nat := bitsAt e.args.toNat ((off - 16) * 8 + lo) n
def Entry.u8 (e : Entry) (off : Nat) : Nat := e.f off 0 8
def Entry.u16 (e : Entry) (off : Nat) : Nat := e.f off 0 16
def Entry.u32 (e : Entry) (off : Nat) : Nat := e.f off 0 32
def Entry.u64 (e : Entry) (off : Nat) : Nat := e.f off 0 64
def Entry.bit (e : Entry) (off i : Nat) : Bool := e.f off i 1 == 1

/-- FLAGS.INDIRECT and FLAGS.INT (Table 2-9). -/
def Entry.indirect (e : Entry) : Bool := e.flags.getLsbD 0
def Entry.wantsInt (e : Entry) : Bool := e.flags.getLsbD 1
def Entry.bufAddr (e : Entry) : Nat := e.u64 16
def Entry.bufLen (e : Entry) : Nat := e.u32 24

/-- The bytes 16–63 of the entry. -/
def Entry.argBytes (e : Entry) : Bytes := leBytes 48 e.args.toNat

/-- What the firmware read of the indirect buffer: `none` when the read failed. -/
def Entry.readBuf (e : Entry) (buf : Option Bytes) : Option Bytes :=
  match buf with
  | some b => if b.length = e.bufLen then some b else none
  | none => none

end Sys2Proof

namespace Sys2Proof.Machine
open Sys2Proof

/-- A failed check: STATUS and DETAIL of Table 2-11. -/
abbrev Check := Option (Nat × Nat)

/-- The check fails with a status and detail when its condition holds. -/
def failIf (bad : Bool) (status detail : Nat) : Check := if bad then some (status, detail) else none

/-- BAD_ARG naming the field at a byte offset. -/
def badIf (bad : Bool) (off : Nat) : Check := failIf bad 0x02 off

/-- A failing field: its condition and its offset. -/
def fld (bad : Bool) (off : Nat) : Bool × Nat := (bad, off)

/-- A field of the arguments: byte offset, low bit, width. -/
abbrev Field := Nat × Nat × Nat

/-- Offsets of the argument bytes that hold a set reserved bit, given the fields that the opcode uses. -/
def reservedSet (e : Entry) (used : List Field) : List Nat :=
  let mask := used.foldl (fun m f => m ||| ((2 ^ f.2.2 - 1) <<< ((f.1 - 16) * 8 + f.2.1))) 0
  (upFrom 16 48).filter (fun off =>
    bitsAt e.args.toNat ((off - 16) * 8) 8 &&& (255 ^^^ bitsAt mask ((off - 16) * 8) 8) != 0)

/-- The least of a list of offsets. -/
def leastOff (l : List Nat) : Option Nat := minBy id l

/-- Step 2 over the arguments: reserved bytes zero and values in range, DETAIL naming the first failing field in
entry order (log entry 13). -/
def argCheck (e : Entry) (used : List Field) (bad : List (Bool × Nat)) : Check :=
  match leastOff (reservedSet e used ++ (bad.filter (·.1)).map (·.2)) with
  | some off => some (0x02, off)
  | none => none

/-- The time class of one command: a batch opcode is class C with a buffer and class A without (R42); FENCE is class B
without DRAIN (R59). -/
def OpRow.classOf (r : OpRow) (e : Entry) : TimeClass :=
  if r.op = 0x0201 then (if e.bit 16 0 then .c else .b) else if r.ind = .optional && r.cls = .a then (if e.indirect then .c else .a) else r.cls

/-- Step 2 over the entry's fixed fields and the buffer words. -/
def headCheck (r : OpRow) (mb : Nat) (e : Entry) (cls : TimeClass) : Check :=
  firstSome [
    badIf (e.flags.toNat ≥ 4 || (e.indirect && r.ind = .never) || (!e.indirect && r.ind = .always)) 2,
    badIf (e.rsvd3 ≠ 0) 3,
    badIf (mb = 0 && e.gen ≠ 0) 8,
    badIf (cls ≠ .c && e.timeLimit ≠ 0) 10,
    (match leastOff ((List.range 4).filter (fun i => bitsAt e.rsvd12.toNat (8 * i) 8 != 0)) with
     | some i => some (0x02, 12 + i)
     | none => none),
    badIf (e.indirect && e.bufAddr % 64 ≠ 0) 16,
    badIf (e.indirect && (e.bufLen < 64 || 16777216 < e.bufLen || e.bufLen % 64 ≠ 0)) 24 ]

/-- The buffer words as used fields. -/
def bufFields : List Field := [(16, 0, 64), (24, 0, 32)]

/-- ROLE as the commands report it (R44). -/
def Role.num (r : Role) : Nat := match r with | .standalone => 0 | .captain => 1 | .stoker => 2

/-- Steps 3 to 5 of Table 2-12. A unit that has taken over answers BUSY to configuration opcodes until it has applied the records
that it holds (R420). -/
def callerCheck (r : OpRow) (s : State) (mb : Nat) (e : Entry) : Check :=
  firstSome [
    failIf (mb ≠ 0 && !r.slices) 0x03 0,
    failIf (mb ≠ 0 && e.gen ≠ 0 && e.gen ≠ (s.slice (mb - 1)).gen) 0x0B (s.slice (mb - 1)).gen.toNat,
    failIf (s.tandem.role = .stoker && !s.tandem.applying && !r.stoker) 0x0C 2,
    failIf (s.tandem.mustApply && !s.tandem.applying && !r.stoker) 0x08 0x0E01 ]

/-- The whole of step 2: of the failing fields the first in entry order is named. -/
def stepTwo (r : OpRow) (mb : Nat) (e : Entry) (used : List Field) (bad : List (Bool × Nat)) : Check :=
  match headCheck r mb e (r.classOf e), argCheck e (if e.indirect then bufFields ++ used else used) bad with
  | some a, some b => some (0x02, min a.2 b.2)
  | some a, none => some a
  | none, b => b

/-- Steps 2 to 5 for a command whose arguments use the given fields. -/
def entryCheck (r : OpRow) (s : State) (mb : Nat) (e : Entry) (used : List Field) (bad : List (Bool × Nat)) : Check :=
  firstSome [stepTwo r mb e used bad, callerCheck r s mb e]

/-- Steps 2 to 5 where a form of the command is the manager's alone (step 3). -/
def formCheck (r : OpRow) (s : State) (mb : Nat) (e : Entry) (used : List Field) (bad : List (Bool × Nat)) (managers : Bool) : Check :=
  firstSome [stepTwo r mb e used bad,
    failIf (mb ≠ 0 && managers) 0x03 0, callerCheck r s mb e]

/-- What a command's effect answers. -/
inductive CmdOut where
  /-- OK with a state, DONE_COUNT and RESULT -/
  | ok (s : State) (count : Nat) (result : BitVec 128)
  /-- any other status, with no state changed (R39) -/
  | fail (status detail : Nat) (result : BitVec 128)
  /-- any other status with a changed state: an exception of R39, or a record of the firmware log -/
  | part (s : State) (status detail count : Nat)
  /-- the response is posted by a later event -/
  | hold (s : State)

/-- A failed check as an answer. -/
def CmdOut.ofCheck (c : Nat × Nat) : CmdOut := .fail c.1 c.2 0

/-- OK without a result. -/
def CmdOut.done (s : State) : CmdOut := .ok s 0 0

/-- Run `k` when no check fails. -/
def andThen (c : Check) (k : CmdOut) : CmdOut :=
  match c with
  | some x => .ofCheck x
  | none => k

/-- The TIMEOUT of a failed buffer access (R38). -/
def bufFault : CmdOut := .fail 0x0E 0xFFFFFFFF 0

/-- RESULT bytes 16–31 from (offset, bytes, value). -/
def resultOf (l : List (Nat × Nat × Nat)) : BitVec 128 :=
  BitVec.ofNat 128 (l.foldl (fun r f => r + (f.2.2 % 2 ^ (8 * f.2.1)) * 2 ^ (8 * (f.1 - 16))) 0)

/-- The header of a batch buffer (R38): ITEM_COUNT when it is valid. -/
def batchCount (b : Bytes) (maxItems itemSize : Nat) : Option Nat :=
  let n := leAt b 0 4
  if 1 ≤ n && n ≤ maxItems && n * itemSize + 64 ≤ b.length && allZero (slice b 4 60) then some n else none

/-! ### The claim table (R49) -/

def State.claim (s : State) (cls index : Nat) : Option Claim := tget s.claims none (cls * 256 + index)

/-- The check of step 9: the resource is free or held by this object. -/
def State.claimBusy (s : State) (cls index op object : Nat) : Bool :=
  match s.claim cls index with
  | some c => !(c.opcode.toNat == op && c.object == object)
  | none => false

/-- CONFLICT with its DETAIL and RESULT. -/
def State.conflict (s : State) (cls index : Nat) : CmdOut :=
  match s.claim cls index with
  | some c => .fail 0x0F (c.opcode.toNat + cls * 65536 + index * 16777216) (resultOf [(16, 4, c.object)])
  | none => .fail 0x0F 0 0

def State.setClaim (s : State) (cls index op object : Nat) : State :=
  { s with claims := tset s.claims none (cls * 256 + index) (some { opcode := BitVec.ofNat 16 op, object := object }) }

def State.release (s : State) (cls index : Nat) : State := { s with claims := tset s.claims none (cls * 256 + index) none }

/-! ### Responses (R34–R37) -/

/-- The response ring has a free slot. -/
def Mailbox.room (m : Mailbox) : Bool := (m.rspTail - m.rspHead).toNat < 2 ^ m.rspLog2.toNat

/-- A mailbox's host-side address of a ring slot. -/
def slotAddr (base : BitVec 64) (count : BitVec 16) (log2 : BitVec 4) (size : Nat) : Nat :=
  base.toNat + count.toNat % 2 ^ log2.toNat * size

/-- The bytes of a response entry (Table 2-10) at a RSP_TAIL count. -/
def responseBytes (m : Mailbox) (op : Nat) (e : Entry) (status detail count : Nat) (result : BitVec 128) : Bytes :=
  leBytes 2 op ++ [BitVec.ofNat 8 status, BitVec.ofNat 8 (bit (!bitAt m.rspTail.toNat m.rspLog2.toNat))] ++
    leBytes 4 e.seq.toNat ++ leBytes 4 count ++ leBytes 4 detail ++ leBytes 16 result.toNat

/-- The interrupt of a response (Table 2-4). INT_MODE 3 is reserved: whether it interrupts is a free value. -/
def State.responseInt (s : State) (mb : Nat) (e : Entry) : State :=
  let m := s.mbox mb
  match m.intMode.toNat with
  | 0 => s
  | 1 => s.vectorRaise m.vector.toNat (s.mboxTag mb)
  | 2 => if e.wantsInt then s.vectorRaise m.vector.toNat (s.mboxTag mb) else s
  | _ => let d := s.draw; if d.1.getLsbD 0 then d.2.vectorRaise m.vector.toNat (d.2.mboxTag mb) else d.2

/-- Write a response and advance RSP_TAIL; a muted command writes none (R306). -/
def State.postResponse (s : State) (mb op : Nat) (e : Entry) (status detail count : Nat) (result : BitVec 128) : State :=
  let m := s.mbox mb
  if m.muted then s
  else
    let s := s.dmaFor (mboxSlice mb) (slotAddr m.rspBase m.rspTail m.rspLog2 32) (responseBytes m op e status detail count result)
    (s.setMbox mb { m with rspTail := m.rspTail + 1 }).responseInt mb e

/-- The firmware serves this mailbox: it runs and hands over neither to another image (R98) nor its role (R421), its mailbox is RUNNING,
and a slice's mailbox has an ACTIVE slice. -/
def State.serves (s : State) (mb : Nat) : Bool :=
  s.fw.fwReady && !s.fw.halted && s.fw.activation.isNone && s.tandem.handover.isNone && (s.mbox mb).state = .running && (mb = 0 || (s.slice (mb - 1)).state = .active)

/-- Answer BAD_OPCODE to the undefined opcodes at the head of the fetched commands (step 1, R45). -/
def State.answerUndefined (fuel : Nat) (s : State) (mb : Nat) : State :=
  match fuel with
  | 0 => s
  | k + 1 =>
    let m := s.mbox mb
    match m.fetched with
    | (op, e) :: r =>
      if s.serves mb && m.inExec = none && m.room && (opRow? op.toNat).isNone then
        ((s.setMbox mb { m with fetched := r }).postResponse mb op.toNat e 0x01 0 0 0).answerUndefined k mb
      else s
    | [] => s

/-! ### Shares that mailboxes check (R308, R311) -/

/-- The range component `c` of slice `n`. -/
def State.rangeOf (s : State) (n c : Nat) : Range := tget (s.slice n).ranges { first := 0, count := 0 } c

/-- An index lies in a range. -/
def Range.has (r : Range) (i : Nat) : Bool := r.first ≤ i && i < r.first + r.count

/-- A mailbox may name a vector (R308): a slice its own, the manager those outside all slices' ranges. -/
def State.ownsVector (s : State) (mb v : Nat) : Bool :=
  if mb = 0 then v < 2048 && !((List.range 128).any (fun n => (s.rangeOf n 17).has v))
  else (s.rangeOf (mb - 1) 17).has v

/-- The configuration that the firmware refuses at a 0-to-1 transition of ENABLE (R32). -/
def State.enableRefusal (s : State) (mb : Nat) (m : Mailbox) : Option MboxCause :=
  let badLog (l : BitVec 4) : Bool := l.toNat < 4 || 12 < l.toNat
  if m.cmdBase = 0 || m.rspBase = 0 || badLog m.cmdLog2 || badLog m.rspLog2 then some .badBase
  else if mb ≠ 0 && !s.ownsVector mb m.vector.toNat then some .badVector
  else none

/-- The firmware checks a mailbox that is to be enabled: it runs, or stays DISABLED with the cause (R32). While the firmware does not
serve (R48 forbids it), STATE stays. -/
def State.enableCheck (s : State) (mb : Nat) : State :=
  let m := s.mbox mb
  if !s.fw.fwReady || s.fw.halted then s
  else match s.enableRefusal mb m with
    | some c => s.setMbox mb { m with errCause := c }
    | none => s.setMbox mb { m with errCause := .none, state := .running, nextSeq := m.seqInit, fetched := [] }

/-- A command in execution leaves its mailbox, which stops when it was stopping; ENABLE written 1 meanwhile is checked then. -/
def State.leaveExec (s : State) (mb : Nat) : State :=
  let m := s.mbox mb
  let t := s.setMbox mb { m with inExec := none, muted := false, state := if m.state = .stopping then .disabled else m.state }
  if m.state = .stopping && m.enable then t.enableCheck mb else t


/-- Mailbox service goes on after a pause: undefined opcodes at the heads are answered. -/
def State.answerAll (s : State) : State := forAll (tkeys s.mboxes) s (fun mb s => s.answerUndefined (s.mbox mb).fetched.length mb)

/-- The cause of CLASS_LIMIT ends with the last command that is beyond its limit (R43). -/
def State.missedEnds (s : State) (x : InExec) : State :=
  if x.missed then s.setCause 1 11 (s.mboxes.any (fun p => match p.2.inExec with | some y => y.missed | none => false)) else s

/-- On the Captain a completed change enters the journal with what it has done (R410). -/
def State.journalled (s : State) (mb : Nat) (r : OpRow) (x : InExec) (status count : Nat) : State :=
  if s.tandem.role = .captain && !r.stoker && (status = 0 || count ≠ 0) then
    let done := if status = 0 then x.buf else x.buf.map (fun b => leBytes 4 count ++ b.drop 4)
    let j : JournalCommand := { mailbox := mb, opcode := x.opcode, entry := x.entry, buf := done }
    { s with fw := { s.fw with journal := s.fw.journal ++ [j] }, tandem := { s.tandem with changing := true } }
  else s

/-- Complete the command in execution on a mailbox: response, journal, and the next undefined opcodes. -/
def State.complete (s : State) (mb : Nat) (r : OpRow) (status detail count : Nat) (result : BitVec 128) : State :=
  match (s.mbox mb).inExec with
  | none => s
  | some x =>
    if x.opcode.toNat ≠ r.op then s
    else
      let s := ((s.postResponse mb r.op x.entry status detail count result).leaveExec mb).perfEvent 1 0x0100 1
      let s := (s.missedEnds x).journalled mb r x status count
      s.answerUndefined (s.mbox mb).fetched.length mb

/-- A later event completes a command that holds its response with OK. -/
def State.finish (s : State) (mb : Nat) (r : OpRow) (result : BitVec 128) : State := s.complete mb r 0 0 0 result

/-- A mailbox has a command ready: fetched, with nothing before it in execution and a free response slot. -/
def State.hasReady (s : State) (mb : Nat) : Bool :=
  let m := s.mbox mb
  s.serves mb && m.inExec = none && m.room && !m.fetched.isEmpty

/-- How far a slice mailbox stands behind the one served last, in the rotation. -/
def State.turnsAway (s : State) (mb : Nat) : Nat := (mb + 128 - (s.fw.lastSlice + 1)) % 128

/-- The mailbox is the next that the firmware serves: it alternates between the manager and the next slice mailbox that has a
command ready (R41). -/
def State.hasTurn (s : State) (mb : Nat) : Bool :=
  if mb = 0 then !s.fw.managerLast || (tkeys s.mboxes).all (fun m => m == 0 || !s.hasReady m)
  else (s.fw.managerLast || !s.hasReady 0) &&
    (tkeys s.mboxes).all (fun m => m == 0 || !s.hasReady m || decide (s.turnsAway mb ≤ s.turnsAway m))

/-- The mailbox's next command is this one and may start (R34, R41). -/
def State.cmdReady (s : State) (mb : Nat) (op : Nat) (e : Entry) : Bool :=
  let m := s.mbox mb
  s.serves mb && m.inExec = none && m.room && m.fetched.head? = some (BitVec.ofNat 16 op, e) && s.hasTurn mb

/-- The firmware has served a mailbox. -/
def Firmware.served (f : Firmware) (mb : Nat) : Firmware :=
  { f with managerLast := mb == 0, lastSlice := if mb = 0 then f.lastSlice else mb }

/-- The state with the command taken from its queue into execution. -/
def State.started (s : State) (mb : Nat) (op : Nat) (e : Entry) (buf : Option Bytes) : State :=
  let m := s.mbox mb
  { s.setMbox mb { m with fetched := m.fetched.tail,
                          inExec := some { opcode := BitVec.ofNat 16 op, entry := e, buf := buf, startNs := s.now, missed := false,
                                           batch := none } } with
    fw := s.fw.served mb }

/-- Post what a command's effect answers. -/
def State.settle (s : State) (mb : Nat) (r : OpRow) (out : CmdOut) : State :=
  match out with
  | .ok t n res => t.complete mb r 0 0 n res
  | .fail st d res => s.complete mb r st d 0 res
  | .part t st d n => t.complete mb r st d n 0
  | .hold t => t

/-- The effect of an opcode: what it answers for a mailbox, an entry and a buffer. -/
abbrev Body := State → Nat → Entry → Option Bytes → CmdOut

/-- An opcode row: runs when it is the next command of its mailbox and may start; else nothing has changed. -/
def runCmd (r : OpRow) (body : Body) (mb : Fin 129) (e : Entry) (buf : Option Bytes) (s : State) : Result :=
  if s.cmdReady mb.val r.op e then
    .next ((s.started mb.val r.op e buf).settle mb.val r (body (s.started mb.val r.op e buf) mb.val e buf))
  else .next s

end Sys2Proof.Machine
end

