-- ==== Sys2Proof/Machine/Mailbox.lean ====
section
/-! DEFINITION. Chapter 02: the device commands and the mailboxes' registers and fetches. -/
namespace Sys2Proof.Machine
open Sys2Proof

/-- A mailbox's registers act: mailbox 0's, and a slice mailbox's while its slice exists (R30). -/
def State.mboxLive (s : State) (mb : Nat) : Bool := mb = 0 || (s.slice (mb - 1)).state ≠ .none

/-! ### Device commands (R45, R51–R53) -/

def bodyNop : Body := fun s mb e _ => andThen (entryCheck rowNop s mb e [] []) (.done s)

def bodyDeviceInfo : Body := fun s mb e _ =>
  andThen (entryCheck rowDeviceInfo s mb e [] []) <|
    .ok s 0 (resultOf [(16, 2, s.partCode), (18, 2, s.fw.fwMajor.toNat), (20, 2, s.fw.fwMinor.toNat),
      (22, 2, s.fw.commandLevel.toNat), (24, 1, s.gears.table), (25, 1, s.gears.buffer), (26, 1, s.gears.matcher),
      (27, 1, s.gears.latency), (28, 1, s.tandem.role.num), (29, 1, s.boot.unitId.toNat),
      (30, 2, if mb = 0 then 0 else (s.slice (mb - 1)).gen.toNat)])

/-- Indices of a class of claimable resources (Table 2-19). -/
def claimIndices (cls : Nat) : Nat :=
  match cls with
  | 1 => 32
  | 2 => 16
  | 3 => 2
  | 4 => 1
  | 5 => 1
  | _ => 0

def bodyClaimQuery : Body := fun s mb e _ =>
  let cls := e.u8 16
  let idx := e.u8 17
  andThen (entryCheck rowClaimQuery s mb e [(16, 0, 8), (17, 0, 8)]
    [(cls < 1 || 5 < cls, 16), (1 ≤ cls && cls ≤ 5 && claimIndices cls ≤ idx, 17)]) <|
    match s.claim cls idx with
    | some c => .ok s 0 (resultOf [(16, 4, c.object), (20, 2, c.opcode.toNat), (22, 1, 1)])
    | none => .ok s 0 0

/-- The 32 bytes of a log record (Table 2-22). -/
def FwRecord.bytes (r : FwRecord) : Bytes :=
  leBytes 4 r.seq.toNat ++ leBytes 2 r.kind ++ leBytes 1 r.mbox ++ leBytes 1 r.status ++ leBytes 2 r.opcode.toNat ++
    leBytes 2 0 ++ leBytes 4 r.index.toNat ++ leBytes 8 r.detail.toNat ++ leBytes 8 r.time

/-- The SEQ words that no record gives, when none is copied or held, are free values. -/
def bodyFwLogRead : Body := fun s mb e buf =>
  andThen (entryCheck rowFwLogRead s mb e [(32, 0, 32)] []) <|
    match buf with
    | none => bufFault
    | some _ =>
      let first := e.u32 32
      let held := s.fw.log
      let out := (held.filter (fun r => !serialAfter 32 first r.seq.toNat)).take (e.bufLen / 32)
      let d0 := s.draw
      let d1 := d0.2.draw
      let d2 := d1.2.draw
      let oldest := match held with | r :: _ => r.seq.toNat | [] => d2.1.toNat % 2 ^ 32
      let from_ := match out with | r :: _ => r.seq.toNat | [] => d0.1.toNat % 2 ^ 32
      let next := match out with | r :: _ => r.seq.toNat + out.length | [] => d1.1.toNat % 2 ^ 32
      let s := if out.isEmpty then d2.2 else s
      let t := if (s.mbox mb).muted then s else s.dmaFor (mboxSlice mb) e.bufAddr (out.flatMap FwRecord.bytes)
      .ok t 0 (resultOf [(16, 4, out.length), (20, 4, from_), (24, 4, next), (28, 4, oldest)])

def execNop (mb : Fin 129) (e : Entry) (s : State) : Result := runCmd rowNop bodyNop mb e none s
def execDeviceInfo (mb : Fin 129) (e : Entry) (s : State) : Result := runCmd rowDeviceInfo bodyDeviceInfo mb e none s
def execClaimQuery (mb : Fin 129) (e : Entry) (s : State) : Result := runCmd rowClaimQuery bodyClaimQuery mb e none s
def execFwLogRead (mb : Fin 129) (e : Entry) (buf : Option Bytes) (s : State) : Result :=
  runCmd rowFwLogRead bodyFwLogRead mb e buf s

/-! ### Mailbox registers (R31–R36) -/

/-- A write of MBOX_CTRL with ENABLE = 1: a 0-to-1 transition sets the counts to 0, and the firmware checks it. In STOPPING the check
waits for the command in execution, and in ERROR no check is made: STATE must be DISABLED for it (DESIGN CHOICE, log entry 119). -/
def State.mboxEnable (s : State) (mb : Nat) (seqInit : Option (BitVec 32)) : State :=
  if !s.mboxLive mb then s
  else
    let m := s.mbox mb
    let m := { m with seqInit := seqInit.getD m.seqInit }
    if m.enable then s.setMbox mb m
    else
      let m := { m with enable := true, cmdTail := 0, cmdHead := 0, rspTail := 0, rspHead := 0 }
      if m.state = .disabled then (s.setMbox mb m).enableCheck mb else s.setMbox mb m

def execMboxEnable (mb : Fin 129) (seqInit : Option (BitVec 32)) (s : State) : Result :=
  .next (s.mboxEnable mb.val seqInit)

/-- The mailbox stops after the command in execution (R30, R36): fetched commands are discarded. -/
def Mailbox.stop (m : Mailbox) : Mailbox :=
  { m with fetched := [], state := match m.state, m.inExec with
      | .disabled, _ => .disabled
      | _, none => .disabled
      | _, some _ => .stopping }

/-- A write of MBOX_CTRL with ENABLE = 0. -/
def State.mboxDisable (s : State) (mb : Nat) (seqInit : Option (BitVec 32)) : State :=
  if !s.mboxLive mb then s
  else
    let m := s.mbox mb
    s.setMbox mb ({ m with seqInit := seqInit.getD m.seqInit, enable := false }).stop

def execMboxDisable (mb : Fin 129) (seqInit : Option (BitVec 32)) (s : State) : Result :=
  .next (s.mboxDisable mb.val seqInit)

/-- A doorbell write (R33). A TAIL behind CMD_TAIL but not behind CMD_HEAD passes the check as R33 writes it, and is stored: CMD_TAIL
goes back (DESIGN CHOICE, log entry 120). -/
def State.mboxDoorbell (s : State) (mb : Nat) (tail : BitVec 16) : State :=
  let m := s.mbox mb
  if !s.mboxLive mb || m.state ≠ .running || tail = m.cmdTail then s
  else if 2 ^ m.cmdLog2.toNat < (tail - m.cmdHead).toNat then s.mboxError mb .doorbellRange 5
  else s.setMbox mb { m with cmdTail := tail }

def execMboxDoorbell (mb : Fin 129) (tail : BitVec 16) (s : State) : Result := .next (s.mboxDoorbell mb.val tail)

/-- A write of MBOX_RSP_HEAD (R34). -/
def State.mboxRspHead (s : State) (mb : Nat) (head : BitVec 16) : State :=
  let m := s.mbox mb
  if !s.mboxLive mb || m.state = .disabled then s
  else if (m.rspTail - m.rspHead).toNat < (head - m.rspHead).toNat then
    if m.state = .running then s.mboxError mb .headRange 6 else s
  else (s.setMbox mb { m with rspHead := head }).answerUndefined m.fetched.length mb

def execMboxRspHead (mb : Fin 129) (head : BitVec 16) (s : State) : Result := .next (s.mboxRspHead mb.val head)

/-- A DMA read failed (R307): PCIE is recorded. The AER bits that it shows are not given: a free value. -/
def State.dmaReadError (s : State) : State :=
  let d := s.draw
  d.2.raise 0 17 (d.1.toNat % 2 ^ 32) false

/-- The fetch of the command slot at CMD_HEAD ends: with the entry, or in an error or timeout (R35, R36). -/
def State.mboxFetch (s : State) (mb : Nat) (op : BitVec 16) (entry : Option Entry) : State :=
  let m := s.mbox mb
  if !s.serves mb || m.cmdHead = m.cmdTail then s
  else
    match entry with
    | none => s.dmaReadError.mboxError mb .fetchFault 3
    | some e =>
      if e.seq ≠ m.nextSeq then s.mboxError mb .seqGap 4
      else (s.setMbox mb { m with cmdHead := m.cmdHead + 1, nextSeq := m.nextSeq + 1, fetched := m.fetched ++ [(op, e)] }
        ).answerUndefined (m.fetched.length + 1) mb

def execMboxCommandFetch (mb : Fin 129) (opcode : BitVec 16) (entry : Option Entry) (s : State) : Result :=
  .next (s.mboxFetch mb.val opcode entry)

/-- A class A or B command has no response at its limit: the heartbeat stops, and CLASS_LIMIT is raised (R43). -/
def State.classLimit (s : State) (mb : Nat) : State :=
  let m := s.mbox mb
  match m.inExec with
  | none => s
  | some x =>
    match opRow? x.opcode.toNat with
    | none => s
    | some r =>
      if r.classOf x.entry = .c then s
      else ({ s.setMbox mb { m with inExec := some { x with missed := true } } with bell := { s.bell with heartbeat := false } }).raiseCause 1 11
        (x.opcode.toNat + (if mb = 0 then 0xFF else mb - 1) * 65536) false

def execClassLimit (mb : Fin 129) (s : State) : Result := .next (s.classLimit mb.val)

end Sys2Proof.Machine
end

