-- ==== Sys2Proof/Machine/CadenceOps.lean ====
section
/-! DEFINITION. Counter event rings, probe counts, port timestamps and the squelch of the SyncE outputs (chapter 13). -/
namespace Sys2Proof.Machine
open Sys2Proof

/-! ### Counter event rings (R346, Tables 13-4 and 13-5) -/

/-- CAD_CNT_i of Table 13-15. -/
def State.cadCount (s : State) (i : Nat) : State := { s with cad := { s.cad with counters := cbump s.cad.counters i 1 } }

/-- Write a record on a mailbox owner's counter event ring, when it has one, and raise its interrupt (kind 5). -/
def State.counterEvent (s : State) (mb kind port object flags value data : Nat) : State :=
  let s := if kind = 2 then s.cadCount 0 else if kind = 5 then s.cadCount 1 else s
  let r := tget s.host.rings EventRing.none mb
  if r.base = 0 then s
  else
    let b := leBytes 4 r.seq.toNat ++ leBytes 1 kind ++ leBytes 1 port ++ leBytes 2 (object % 4096 + flags * 4096) ++
      leBytes 8 value ++ leBytes 8 data ++ leBytes 8 s.now
    let s := s.dmaFor (mboxSlice mb) (r.base + r.seq.toNat % 2 ^ r.log2 * 32) b
    let s := s.cadCount 2
    let s := if r.slots = 2 ^ r.log2 then s.cadCount 3 else s
    let r := { r with seq := r.seq + 1, slots := min (r.slots + 1) (2 ^ r.log2) }
    let s := { s with host := { s.host with rings := tset s.host.rings EventRing.none mb r } }
    forAll (s.host.maps.filter (fun m => m.mbox == mb && m.kind == 5)) s (fun m s => s.vectorRaise m.vector (s.mboxTag mb))

/-- The mailbox of a slice's owner; slice 128 is the manager's. -/
def sliceMbox (n : Nat) : Nat := if n < 128 then n + 1 else 0

/-! ### Ports and slices -/

/-- The slice to which a port is assigned; 128 for none (R211). -/
def State.portSlice (s : State) (k : Nat) : Nat :=
  match (tkeys s.slices).find? (fun n => (s.slice n).ports.getLsbD k) with | some n => n | none => 128

/-- A slice mailbox may name a port of its PORTS component. -/
def State.ownsPort (s : State) (mb k : Nat) : Bool := mb = 0 || (s.slice (mb - 1)).ports.getLsbD k

/-! ### Timestamps (R122, Table 13-2) -/

/-- The PTP copy of an island, and its step count: an island that has not taken the step in progress keeps the time before it. -/
def State.islandPtp (s : State) (i : Nat) : Int := if s.cad.stepPending.contains i then s.cad.ptp - s.cad.stepBy else s.cad.ptp
def State.islandStep (s : State) (i : Nat) : BitVec 2 := if s.cad.stepPending.contains i then s.cad.stepCount - 1 else s.cad.stepCount

/-- The timestamp of a port with its island's copy moved by a delay in ps. -/
def State.portStamp (s : State) (k : Nat) (ps : Int) : BitVec 64 :=
  stampOf ((s.islandPtp (spokeOf k) + ps * 4294967296 / 1000).toNat / 4294967296) (s.islandStep (spokeOf k))

/-- The receive and transmit timestamps of a port. -/
def State.rxStampOf (s : State) (k : Nat) : BitVec 64 := s.portStamp k (-(s.port k).cfg.tsRx.toInt)
def State.txStampOf (s : State) (k : Nat) : BitVec 64 := s.portStamp k (s.port k).cfg.tsTx.toInt

/-! ### PTP time (R335, R338, R339) -/

/-- PTP time wraps with its 48-bit seconds. -/
def ptpLimit : Nat := 2 ^ 48 * 1000000000 * 4294967296

/-- What PTP time gains in one ns of FREE_NS under a correction in units of 2^-16 ppm, in units of 2^-32 ns. -/
def ptpGain (freq : Int) : Int := 4294967296 + (2048 * freq + 15625) / 31250

/-- What a slew adds in one ns beyond that. -/
def Slew.gain (x : Slew) (freq : Int) : Nat :=
  let p : Int := x.ppm * 65536
  if x.negative then (ptpGain freq - ptpGain (freq - p)).toNat else (ptpGain (freq + p) - ptpGain freq).toNat

/-- Time passes: `n` ns of the system reference. -/
def Cadence.advance (c : Cadence) (n : Nat) : Cadence :=
  let base : Int := c.ptp + n * ptpGain c.freq
  let c := { c with freeNs := c.freeNs + BitVec.ofNat 64 n }
  match c.slew with
  | none => { c with ptp := base.toNat % ptpLimit }
  | some x =>
    let used := min (n * x.gain c.freq) x.remaining
    let rest := { x with remaining := x.remaining - used }
    { c with ptp := (if x.negative then base - used else base + used).toNat % ptpLimit,
             slew := if x.remaining ≤ used then none else some rest }

/-- A PTP step: the slew ends, STEP advances, and every island has it to take. -/
def State.ptpStep (s : State) (by_ : Int) (mb : Nat) (result : BitVec 128) : State :=
  let c := s.cad
  { s with cad := { c with
      ptp := ((c.ptp : Int) + by_).toNat % ptpLimit, stepCount := c.stepCount + 1, slew := none, stepPending := s.liveIslands,
      stepBy := by_, stepMb := some mb, stepResult := result, pps := { c.pps with stepped := true } } }

/-- Every present, unfenced island has taken the step: the command is answered. -/
def State.stepSettle (s : State) : State :=
  if s.cad.stepPending.any s.islandLive then s
  else match s.cad.stepMb with
    | none => { s with cad := { s.cad with stepPending := [] } }
    | some mb =>
      let r := s.cad.stepResult
      (({ s with cad := { s.cad with stepPending := [], stepMb := none } }).finish mb rowTimeSet r).finish mb rowTimeAdjust r

/-- An island takes the step. -/
def State.islandSteps (s : State) (i : Nat) : State :=
  ({ s with cad := { s.cad with stepPending := s.cad.stepPending.filter (· != i) } }).stepSettle

/-! ### Probes (R350) -/

/-- A frame of a probe's target began transmission after a residence time. -/
def ProbeWindow.add (w : ProbeWindow) (ns : Nat) : ProbeWindow :=
  let d := min ns 4294967295
  { w with out := w.out + 1, delaySum := w.delaySum + BitVec.ofNat 64 d,
           delayMin := if w.out = 0 then d else min w.delayMin d, delayMax := max w.delayMax d }

def State.probeOut (s : State) (t : ProbeTarget) (ns : Nat) : State :=
  forAll ((tsome s.cad.probes).filter (fun p => p.2.target == t)) s (fun p s =>
    { s with cad := { s.cad with probes := tset s.cad.probes none p.1 (some { p.2 with window := p.2.window.add ns }) } })

/-- The PROBE_ALARM record of a probe (Table 13-5). -/
def State.probeAlarm (s : State) (n : Nat) (p : Probe) (flags : Nat) (w : ProbeWindow) : State :=
  s.counterEvent p.mbox 4 0 0 flags n (w.delayMax + min w.lost 4294967295 * 4294967296)

/-- A target is deleted, or its port removed: its probe is disabled with a TARGET_GONE record (R351). -/
def State.probesGone (s : State) (gone : ProbeTarget → Bool) : State :=
  forAll ((tsome s.cad.probes).filter (fun p => gone p.2.target)) s (fun p s =>
    ({ s with cad := { s.cad with probes := tset s.cad.probes none p.1 none } }).probeAlarm p.1 p.2 4 p.2.window)

/-! ### SyncE outputs (R342) -/

def State.synceOut (s : State) (o : Nat) : SyncE := tget s.cad.synce SyncE.reset o
def State.setSynce (s : State) (o : Nat) (x : SyncE) : State :=
  { s with cad := { s.cad with synce := tset s.cad.synce SyncE.reset o x } }

/-- The output's port counts as up and its lane has CDR lock. -/
def State.synceOk (s : State) (x : SyncE) : Bool :=
  let l := (s.port x.port).link.link
  (l = .up || l = .holdDown) && (s.lane (x.port + x.lane)).cdr

/-- Squelch the outputs whose port or lane has failed. -/
def State.synceCheck (s : State) : State :=
  forAll [0, 1] s (fun o s =>
    let x := s.synceOut o
    if x.enable && !s.synceOk x then s.setSynce o { x with squelched := true } else s)

end Sys2Proof.Machine
end

