-- ==== Sys2Proof/Machine/StoreOps.lean ====
section
/-! DEFINITION. The packet stores: chains of cells, stored frames and their release, drops, flow control by
occupancy, congestion marking and admission to an ingress store (chapter 09, with R117–R121). -/
namespace Sys2Proof.Machine
open Sys2Proof

/-! ### Chains (R222, R223) -/

/-- Cells withheld by a buffer gear change: those returned, and those never allocated, from `limit` up. -/
def Store.withheldCount (x : Store) : Nat := x.withheld.length + (x.total - max x.fresh x.limit)

/-- Cells in state FREE, WITHHELD excluded (R225). -/
def Store.freeOnly (x : Store) : Nat := x.free - x.withheldCount

/-- Take the cell at the head of the chain for an owner of a generation. -/
def Store.allocAs (x : Store) (st : CellState) (owner : Nat) (gen : BitVec 4) : Option (Nat × Store) :=
  let give (c : Nat) (y : Store) : Nat × Store :=
    (c, { y with free := y.free - 1,
                 queued := if st = CellState.queued then y.queued + 1 else y.queued,
                 loaned := if st = CellState.loaned then y.loaned + 1 else y.loaned,
                 links := tset y.links Link.free c { state := st, owner := owner, ownerGen := gen, mark := false } })
  match x.chain with
  | c :: r => some (give c { x with chain := r })
  | [] => if x.fresh < x.limit then some (give x.fresh { x with fresh := x.fresh + 1 }) else none

/-- Take a cell for a loan record, or for a descriptor that `describe` names. -/
def Store.alloc (x : Store) (st : CellState) (owner : Nat) : Option (Nat × Store) := x.allocAs st owner 0

/-- Take `n` cells, or none when the chain is too short. -/
def Store.allocN (n : Nat) (x : Store) (st : CellState) (owner : Nat) : Option (List Nat × Store) :=
  match n with
  | 0 => some ([], x)
  | k + 1 =>
    match x.alloc st owner with
    | none => none
    | some (c, y) =>
      match y.allocN k st owner with
      | none => none
      | some (cs, z) => some (c :: cs, z)

/-- Return cells held in a state: to the head of the chain, or to the withheld list (R71). -/
def Store.giveBack (x : Store) (st : CellState) (cells : List Nat) : Store :=
  cells.foldl (fun (y : Store) (c : Nat) =>
    let z := { y with free := y.free + 1,
                      queued := if st = CellState.queued then y.queued - 1 else y.queued,
                      loaned := if st = CellState.loaned then y.loaned - 1 else y.loaned,
                      links := tdel y.links c }
    if z.limit ≤ c then { z with withheld := c :: z.withheld } else { z with chain := c :: z.chain }) x

/-- Cells change from one holder to another. -/
def Store.reholdAs (x : Store) (st : CellState) (owner : Nat) (gen : BitVec 4) (cells : List Nat) : Store :=
  cells.foldl (fun (y : Store) (c : Nat) =>
    let old := (tget y.links Link.free c).state
    { y with
      queued := (if st = CellState.queued then y.queued + 1 else y.queued) - (if old = CellState.queued then 1 else 0),
      loaned := (if st = CellState.loaned then y.loaned + 1 else y.loaned) - (if old = CellState.loaned then 1 else 0),
      links := tset y.links Link.free c { state := st, owner := owner, ownerGen := gen, mark := false } }) x

/-- Cells pass to a loan record. -/
def Store.rehold (x : Store) (st : CellState) (owner : Nat) (cells : List Nat) : Store := x.reholdAs st owner 0 cells

/-- A frame's cells take a descriptor: the one numbered as its first cell, with its generation advanced since its last use (R221,
DESIGN CHOICE, log entry 145). -/
def Store.describe (x : Store) (cells : List Nat) : BitVec 4 × Store :=
  match cells with
  | [] => (0, x)
  | d :: _ =>
    let g := tget x.gens 0 d
    (g, { x with gens := tset x.gens 0 d (g + 1) }.reholdAs .queued d g cells)

/-- Open a loan record (R251). -/
def Store.lend (x : Store) (b : Borrower) (owner : Nat) (cells : List Nat) (cycle : Nat) : Nat × Store :=
  (x.nextLoan, { x with
    loans := tset x.loans none x.nextLoan (some { borrower := b, owner := owner, cells := cells, since := cycle, reported := false }),
    nextLoan := x.nextLoan + 1 })

/-- Close a loan record. -/
def Store.unlend (x : Store) (n : Nat) : Store := { x with loans := tset x.loans none n none }

/-- Cells on loan to a borrower for an owner. -/
def Store.loanedTo (x : Store) (b : Borrower) (owner : Nat) : Nat :=
  ((tsome x.loans).filter (fun p => p.2.borrower = b && p.2.owner == owner)).foldl (fun n p => n + p.2.cells.length) 0

/-- Cells on loan to a borrower. -/
def Store.loanedAll (x : Store) (b : Borrower) : Nat :=
  ((tsome x.loans).filter (fun p => p.2.borrower = b)).foldl (fun n p => n + p.2.cells.length) 0

/-! ### Queues of a pipe store (Table 9-6) -/

def qUnicast (pipe port cls : Nat) : Nat := pipe * 8192 + port * 8 + cls
def qFabric (pipe m port cls : Nat) : Nat := pipe * 8192 + 1024 + m * 1024 + port * 8 + cls
def qHost (pipe cls : Nat) : Nat := pipe * 8192 + 4096 + cls
def qMcast (pipe cls : Nat) : Nat := pipe * 8192 + 4104 + cls
def qHostTx (pipe cls : Nat) : Nat := pipe * 8192 + 4112 + cls
def qRecirc (pipe : Nat) : Nat := pipe * 8192 + 4120

/-- The cells that a list of frames holds. -/
def State.cellsOf (s : State) (l : List Nat) : Nat :=
  l.foldl (fun n f => match s.frame f with | some x => n + x.cells.length | none => n) 0

/-- Thresholds of a queue (R235): VOQs of a port and class and multicast VOQs are set; the others keep the values
that every VOQ has at boot. -/
def State.queueCfg (s : State) (q : Nat) : VoqCfg :=
  let n := q % 8192
  let boot : VoqCfg := { maxCells := 8192, alpha := 7, ecn := 0xFF, rank := n % 8 }
  if n < 1024 then tget s.sw.voqs boot n
  else if 4104 ≤ n && n < 4112 then tget s.sw.mcastVoqs boot (n - 4104)
  else boot

/-! ### Counters -/

def State.xbarCount (s : State) (i n : Nat) : State := { s with sw := { s.sw with counters := cbump s.sw.counters i n } }
def State.macCount (s : State) (k i n : Nat) : State := s.modPort k (fun p => { p with counters := cbump p.counters i n })

/-- A lifeline loss of a (port, slice) pair (R149, R393). -/
def State.lifelineLoss (s : State) (k slc n : Nat) : State :=
  let s := s.modPort k (fun p => { p with llLost := p.llLost + n })
  { s with sw := { s.sw with watches := tmod s.sw.watches LifelineWatch.reset (k * 256 + slc) (fun w => { w with now := w.now + n }) } }

/-- A marked frame is assigned to an egress port, each multicast copy at replication (R393). -/
def State.lifelineIn (s : State) (k slc : Nat) : State :=
  let s := s.modPort k (fun p => { p with llIn := p.llIn + 1 })
  { s with sw := { s.sw with watches := tmod s.sw.watches LifelineWatch.reset (k * 256 + slc) (fun w => { w with assigned := true }) } }

/-- A loss on a probe's target, in its current window (R350). -/
def State.probeLost (s : State) (t : ProbeTarget) (n : Nat) : State :=
  forAll ((tsome s.cad.probes).filter (fun p => p.2.target == t)) s (fun p s =>
    { s with cad := { s.cad with
        probes := tset s.cad.probes none p.1 (some { p.2 with window := { p.2.window with lost := p.2.window.lost + n } }) } })

/-- Count a drop of a frame under a reason on a port (R256); a marked frame is also a lifeline loss of its local egress
port (R149), and a frame for a local port a loss of the probe of its port and class (R350). -/
def State.countDrop (s : State) (k reason : Nat) (x : Frame) : State :=
  let s := s.modPort k (fun p => { p with drops := cbump p.drops reason 1 })
  match x.dest with
  | .port p =>
    let s := if x.lifeline then s.lifelineLoss p x.slice 1 else s
    s.probeLost (.portClass p x.cls) 1
  | _ => s

/-- The port that a frame's drop counts on (R256). -/
def Frame.dropPort (f : Frame) : Nat := match f.dest with | .port p => p | _ => f.ingressPort

/-! ### Ports (R110, R246) -/

/-- A port forwards: it exists, is administratively up, is reported up, and its admission block is lifted. -/
def State.portOpen (s : State) (k : Nat) : Bool :=
  let p := s.port k
  k < s.portCount && p.cfg.width ≠ 0 && p.cfg.admin && (p.link.link = .up || p.link.link = .holdDown) && !p.blocked &&
    !s.portFenced k

/-- The claim gate of the spokes is open (R123). -/
def State.gateOpen (s : State) : Bool := s.tandem.gatesOpen

/-- The port may send flow-control frames (R119, R123). -/
def State.mayPause (s : State) (k : Nat) : Bool := (s.port k).cfg.admin && s.gateOpen

/-! ### Flow control by occupancy (R119) -/

def Port.prio (p : Port) (c : Nat) : PausePrio := tget p.pause.prios PausePrio.reset c
def Port.setPrio (p : Port) (c : Nat) (x : PausePrio) : Port :=
  { p with pause := { p.pause with prios := tset p.pause.prios PausePrio.reset c x } }

/-- Priorities whose watermarks act. -/
def Port.flowPrios (p : Port) : List Nat :=
  if p.pause.mode = 1 then (if p.pause.txMask.getLsbD 0 then [0] else [])
  else if p.pause.mode = 2 then (List.range 8).filter (fun c => p.pause.txMask.getLsbD c)
  else []

/-- Cells of the pipe's store held by frames received on a port, in MODE 2 with the priority. -/
def State.occupancy (s : State) (k c : Nat) : Nat :=
  let mode := (s.port k).pause.mode
  (tsome s.sw.frames).foldl (fun n p =>
    match p.2.account with
    | some (k', c') => if k' = k && (mode ≠ 2 || c' = c) && p.2.store == pipeOf k then n + p.2.cells.length else n
    | none => n) 0

/-- XOFF is outstanding for a priority (Table 5-9). -/
def PausePrio.xoffOut (x : PausePrio) : Bool := x.txXoff || x.txFifo

/-- Send one PAUSE or PFC frame that carries the pause times of some priorities; none when there are none. -/
def State.sendPause (s : State) (k : Nat) (times : List (Nat × Nat)) : State :=
  if times ≠ [] && s.mayPause k then
    (s.macCount k (if (s.port k).pause.mode = 1 then 17 else 18) 1).modPort k (fun p => { p with pause := { p.pause with sent := times } })
  else s

/-- Send XOFF and XON for the priorities whose state changes; one frame carries them all. -/
def State.flowCheck (s : State) (k : Nat) : State :=
  let p := s.port k
  let next (c : Nat) : Bool :=
    let x := p.prio c
    let occ := s.occupancy k c
    if x.txXoff then !(occ ≤ x.xon) else x.xoff ≤ occ
  let ch := p.flowPrios.filter (fun c => next c != (p.prio c).txXoff)
  if ch = [] then s
  else
    let times := (ch.filter (fun c => next c || !(p.prio c).txFifo)).map (fun c => (c, if next c then p.pause.txQuanta else 0))
    (s.setPort k (ch.foldl (fun q c => q.setPrio c { q.prio c with txXoff := next c }) p)).sendPause k times

/-- Headroom reservations of a pipe store not yet used by occupancy above XOFF. -/
def State.unusedHeadroom (s : State) (pipe : Nat) : Nat :=
  (s.ports.filter (fun e => pipeOf e.1 == pipe)).foldl (fun n e =>
    e.2.flowPrios.foldl (fun m c => let x := e.2.prio c; m + (x.headroom - min x.headroom (s.occupancy e.1 c - x.xoff))) n) 0

/-- Headroom reservations of a pipe store. -/
def State.reservedHeadroom (s : State) (pipe : Nat) : Nat :=
  (s.ports.filter (fun e => pipeOf e.1 == pipe)).foldl (fun n e =>
    e.2.flowPrios.foldl (fun m c => m + (e.2.prio c).headroom) n) 0

/-- R225. -/
def State.admissionCells (s : State) (pipe : Nat) : Nat := (s.store pipe).freeOnly - s.unusedHeadroom pipe - 1024

/-! ### Release of frames (R230, R243) -/

/-- No port keeps a frame chosen that is gone. -/
def State.unchoose (s : State) (f : Nat) (x : Frame) : State :=
  let ports := match x.dest with
    | .port k => [k]
    | _ => x.targets.filterMap (fun t => match t with | .plain k _ _ => some k | _ => none)
  forAll ports s (fun k s => s.modPort k (fun p => if p.chosen.any (fun c => c.2 == f) then { p with chosen := none } else p))

/-- Return a frame's cells and forget it; its multicast permit entry and flow-control accounting end. -/
def State.releaseFrame (s : State) (f : Nat) : State :=
  match s.frame f with
  | none => s
  | some x =>
    let st := s.store x.store
    let st := match x.loan with
      | some l => (st.giveBack .loaned x.cells).unlend l
      | none => st.giveBack .queued x.cells
    let s := ((s.setStore x.store st).setFrame f none).unchoose f x
    let s := match x.dest with
      | .group _ => if x.store < 8 then s.modPipe x.store (fun p => { p with permits := p.permits - 1 }) else s
      | _ => s
    match x.account with
    | some (k, _) => s.flowCheck k
    | none => s

/-- Release one reference (R243). -/
def State.deref (s : State) (f : Nat) : State :=
  match s.frame f with
  | none => s
  | some x => if x.refs ≤ 1 then s.releaseFrame f else s.setFrame f (some { x with refs := x.refs - 1 })

/-- Remove a frame from the queue it waits in. -/
def State.unqueue (s : State) (q f : Nat) : State := s.setQueue q ((s.queueOf q).filter (· != f))

/-- The pipe-store queue of a frame. -/
def Frame.queue (x : Frame) : Nat :=
  match x.dest with
  | .port p => if x.entry = 8 then qHostTx x.store x.cls else qUnicast x.store p x.cls
  | .fabric d p => qFabric x.store d p x.cls
  | .host => qHost x.store x.cls
  | .group _ => qMcast x.store x.cls
  | .recirc => qRecirc x.store

/-- Drop a frame of a pipe store under a reason of Table 9-21, counted on a port. -/
def State.dropFrame (s : State) (f reason k : Nat) : State :=
  match s.frame f with
  | none => s
  | some x => ((s.unqueue x.queue f).releaseFrame f).countDrop k reason x

/-- Cells that a slice holds in a store (R249), cells on loan to INTAKE for its frames included. -/
def State.sliceCells (s : State) (store slc : Nat) : Nat :=
  let q := (tsome s.sw.frames).foldl (fun n p => if p.2.store == store && p.2.slice == slc then n + p.2.cells.length else n) 0
  if store = 8 then
    s.sw.intakes.foldl (fun n e => e.2.foldl (fun m i => if i.frame.slice == slc then m + i.frame.cells.length else m) n) q
  else q

/-- The share of a slice for a count component; the manager's slice, 128, has no limit. -/
def State.share (s : State) (slc c pipe : Nat) : Option Nat :=
  if 128 ≤ slc then none else some (tget (s.slice slc).counts 0 (c * 16 + pipe))

/-! ### Congestion marking (R234) -/

/-- The ECN field of the IP header at an offset of a frame. -/
def ecnField (b : Bytes) (off : Nat) : Option Nat :=
  if off ≥ b.length then none
  else if beAt b off 1 / 16 = 4 then some (beAt b (off + 1) 1 % 4)
  else if beAt b off 1 / 16 = 6 then some (beAt b (off + 1) 1 / 16 % 4)
  else none

/-- The mark of a profile for a queue of length `n`; the store's generator gives a free value. -/
def State.ecnMark (s : State) (profile n : Nat) : Bool × State :=
  let e := tget s.sw.ecn EcnProfile.reset profile
  if profile = 0xFF || !e.enabled then (false, s)
  else
    let p16 := if n < e.min then 0 else if e.max ≤ n then 65536 else e.prob * 256 * (n - e.min) / (e.max - e.min)
    let d := s.draw
    (decide (d.1.toNat % 65536 < p16), d.2)

/-- What marking does to a frame: keep it, mark it CE, or drop it. -/
inductive EcnResult where
  | keep | ce | drop
deriving DecidableEq, Repr

/-- The treatment of a marked frame under a profile. -/
def State.ecnApply (s : State) (profile : Nat) (x : Frame) : EcnResult :=
  match ecnField x.bytes x.ipOffset with
  | some 1 => .ce
  | some 2 => .ce
  | some 3 => .keep
  | _ => if (tget s.sw.ecn EcnProfile.reset profile).dropNonEct && !x.lifeline then .drop else .keep

/-! ### Admission (R224–R227) -/

/-- R226: the limit of a VOQ of a pipe store. -/
def State.voqLimit (s : State) (pipe q : Nat) : Nat :=
  let c := s.queueCfg q
  if c.alpha = 0 then c.maxCells else min c.maxCells (s.admissionCells pipe * 2 ^ c.alpha / 128)

/-- A frame that push-out may release. -/
def Frame.victim (x : Frame) : Bool :=
  x.complete && !x.lifeline && !x.lossless && x.granted == 0 && (match x.dest with | .group _ => false | .recirc => false | _ => true)

/-- Release one victim of lower rank (R227): the last eligible frame of the longest VOQ. -/
def State.pushOutOne (s : State) (pipe rank : Nat) : Option State :=
  let qs := s.sw.queues.filter (fun e => e.1 / 8192 == pipe && (e.1 % 8192 < 4112) && (s.queueCfg e.1).rank < rank &&
    e.2.any (fun f => match s.frame f with | some x => x.victim | none => false))
  match minBy (fun e => 1000000 - s.cellsOf e.2) qs with
  | none => none
  | some (_, l) =>
    match l.reverse.find? (fun f => match s.frame f with | some x => x.victim | none => false) with
    | none => none
    | some f =>
      match s.frame f with
      | none => none
      | some x => some ((s.dropFrame f 5 x.dropPort).xbarCount 5 1)

/-- Push out at most `n` victims until one admission cell is free. -/
def State.pushOut (n : Nat) (s : State) (pipe rank : Nat) : State :=
  if 0 < s.admissionCells pipe then s
  else
    match n with
    | 0 => s
    | k + 1 =>
      match s.pushOutOne pipe rank with
      | some t => t.pushOut k pipe rank
      | none => s

/-- A flow-control priority that this frame is accounted under, with its TX_MASK bit set. -/
def State.accountPrio (s : State) (x : Frame) : Option (Nat × PausePrio) :=
  match x.account with
  | none => none
  | some (k, c) =>
    let p := s.port k
    let c := if p.pause.mode = 1 then 0 else c
    if p.flowPrios.contains c then some (k, p.prio c) else none

/-- The links that carry a fabric destination (Table 15-8). In MODE 1 destination 0 is the other pair, whose two units
the cabling of R425 puts at two of the links. -/
def State.fabricLinks (s : State) (d : Nat) : List Nat :=
  let own := s.boot.unitId.toNat
  if !s.peloton.joined then []
  else if s.peloton.paired then
    (if d = 0 then (List.range 3).filter (fun m => (own + m + 1) % 4 / 2 != own / 2) else [])
  else if d < 3 then [d] else []

/-- The links of a destination that are up, with the far port not reported down (R426). -/
def State.fabricVia (s : State) (d p : Nat) : List Nat :=
  (s.fabricLinks d).filter (fun m => (s.link m).state == FabricState.up && !(s.link m).portsDown.getLsbD p)

/-- A fabric destination is up. -/
def State.fabricUp (s : State) (d p : Nat) : Bool := s.fabricVia d p != []

/-- The destination refuses the frame PORT_DOWN (step 1 of Table 9-5). -/
def State.destDown (s : State) (x : Frame) : Bool :=
  match x.dest with
  | .port p => !s.portOpen p
  | .fabric d p => !s.fabricUp d p
  | _ => false

/-- One more cell of a frame would take its priority's occupancy above XOFF + HEADROOM (R119). -/
def State.headroomFull (s : State) (x : Frame) : Bool :=
  match s.accountPrio x with
  | some (p, w) => decide (w.xoff + w.headroom < s.occupancy p (match x.account with | some (_, c) => c | none => 0) + 1)
  | none => false

/-- Steps 1 to 5 of Table 9-5: the drop reason and the port it counts on. -/
def State.admissionRefusal (s : State) (pipe q : Nat) (x : Frame) : Option (Nat × Nat) :=
  let k := x.dropPort
  let st := s.store pipe
  let overShare : Bool := match s.share x.slice 1 pipe with | some n => decide <| n ≤ s.sliceCells pipe x.slice | none => false
  if s.destDown x then some (6, k)
  else if s.headroomFull x then some (1, x.ingressPort)
  else if overShare || (st.limit < st.total && st.limit ≤ st.queued + st.loaned) then some (0, k)
  else if q % 8192 ≠ 4120 && s.voqLimit pipe q ≤ s.cellsOf (s.queueOf q) then some (2, k)
  else match x.dest with
    | .group _ => if 2048 ≤ (s.pipe pipe).permits then some (11, k) else none
    | _ => none

/-- Link a frame into a queue with its first cell; `none` when no cell is free. -/
def State.storeFirst (s : State) (pipe q : Nat) (x : Frame) : Option (Nat × State) :=
  match (s.store pipe).alloc .queued 0 with
  | none => none
  | some (c, st) =>
    let f := s.sw.nextFrame
    let d := st.describe [c]
    let s := s.setStore pipe d.2
    let s := { s with sw := { s.sw with nextFrame := f + 1 } }
    let s := s.setFrame f (some { x with store := pipe, cells := [c], gen := d.1 })
    let s := s.setQueue q (s.queueOf q ++ [f])
    let s := match x.dest with
      | .group _ => s.modPipe pipe (fun p => { p with permits := p.permits + 1 })
      | _ => s
    some (f, match x.account with | some (k, _) => s.flowCheck k | none => s)

/-- The checks of Table 9-5 for a frame whose first cell is written (R224): the stored frame, or a drop. -/
def State.admitFrame (s : State) (pipe q : Nat) (x : Frame) : Option Nat × State :=
  match s.admissionRefusal pipe q x with
  | some (r, k) => (none, s.countDrop k r x)
  | none =>
    let x := { x with lossless := (s.accountPrio x).isSome }
    let prof := (s.queueCfg q).ecn
    let m := if x.entry = 8 then (false, s) else s.ecnMark prof (s.cellsOf (s.queueOf q))
    let s := m.2
    let e := if m.1 then s.ecnApply prof x else .keep
    if e = .drop then (none, s.countDrop x.dropPort 9 x)
    else
      let x := if e = .ce then { x with ce := true } else x
      let s := s.pushOut 4 pipe (s.queueCfg q).rank
      if s.admissionCells pipe = 0 then (none, s.countDrop x.dropPort 4 x)
      else match s.storeFirst pipe q x with
        | none => (none, s.countDrop x.dropPort 4 x)
        | some (f, t) => (some f, t)

/-- Cells that a frame of `n` stored bytes takes (R220). -/
def cellsFor (n : Nat) : Nat := ceilDiv n 256

/-- An admitted frame cannot be written on: it is dropped, or stomped when its first cell has been requested (R232). -/
def State.failFrame (s : State) (f reason k : Nat) (x : Frame) : State :=
  if x.cut && x.granted ≠ 0 then s.setFrame f (some { x with stomp := true, complete := true }) else s.dropFrame f reason k

/-- Write the next cell of an admitted frame: above XOFF + HEADROOM it ends with HEADROOM (R119, R224), and in want of a cell
with NO_CELL (R225). -/
def State.writeCell (s : State) (f : Nat) : State :=
  match s.frame f with
  | none => s
  | some x =>
    if cellsFor x.bytes.length ≤ x.cells.length || x.stomp then s
    else if s.headroomFull x then s.failFrame f 1 x.ingressPort x
    else match (s.store x.store).allocAs .queued (x.cells.headD 0) x.gen with
      | some (c, st) =>
        let s := (s.setStore x.store st).setFrame f (some { x with cells := x.cells ++ [c] })
        (match x.account with | some (k, _) => s.flowCheck k | none => s)
      | none => s.failFrame f 4 x.dropPort x

/-- Write cells until the frame holds `n`. -/
def State.writeCells (n : Nat) (s : State) (f : Nat) : State :=
  match n with
  | 0 => s
  | k + 1 => (s.writeCell f).writeCells k f

/-- A frame with no state of its own: fields that a former of frames fills. -/
def Frame.blank : Frame :=
  { store := 0, bytes := [], cells := [], refs := 1, slice := 128, cls := 0, colour := 0, lifeline := false, ce := false,
    cut := false, stomp := false, tsReq := false, lossless := false, mirror := false, ipOffset := 0x1FF, gen := 0,
    ingressPort := 0, destQueue := 0, entry := 0xFF, ingressTime := 0, dest := .host, complete := false, granted := 0,
    corrupt := false, slowReason := 0, rxStamp := 0, tsValid := false, flowTag := 0, permitPorts := 0, permitFabric := 0,
    account := none, pkt := none, hostRing := none, targets := [], replicated := false, loan := none, was := none, l3bad := false }

/-- The length limit of a frame at a port (R113): MAX_FRAME + 4 × min(n, TAG_ALLOW), for a frame with its FCS. -/
def tagCount (fuel : Nat) (tpid : Nat) (b : Bytes) (i : Nat) : Nat :=
  match fuel with
  | 0 => 0
  | k + 1 =>
    let t := beAt b i 2
    if i + 4 ≤ b.length && (t = 0x8100 || t = 0x88A8 || (tpid ≠ 0 && t = tpid)) then 1 + tagCount k tpid b (i + 4) else 0

def PortCfg.limit (c : PortCfg) (b : Bytes) : Nat :=
  c.maxFrame + 4 * min (tagCount 8 c.extraTpid.toNat b 12) c.tagAllow

end Sys2Proof.Machine
end

