-- ==== Sys2Proof/Machine/WordOps.lean ====
section
/-! DEFINITION. Words of on-chip memory that have gone bad, the fetches of the three sequencer types, and the micro-traps of the
table engine (R92–R96, R367, R377, R378, R389). -/
namespace Sys2Proof.Machine
open Sys2Proof

/-! ### Bad words (R367, R389) -/

def State.disarm (s : State) (b kind : Nat) : State :=
  let x := s.block b
  s.setBlock b { x with armed := tset x.armed none kind none }

/-- An armed injection of KIND 1 flips its bits in its codeword when that is one of these words. -/
def State.wordFlip (s : State) (b : Nat) (these : ChipWord → Bool) : State :=
  match tget (s.block b).armed none 1 with
  | none => s
  | some (m, a, n) =>
    match Config.chipWordAt b m a with
    | none => s
    | some w =>
      if these w then { s.disarm b 1 with bad := { word := w, bits := n, detail := m * 2 ^ 28 + a, inj := true } :: s.bad } else s

/-- Words of a block are written: none of them is bad any more, but the one that an armed injection flips. -/
def State.wordsWritten (s : State) (b : Nat) (these : ChipWord → Bool) : State :=
  { s with bad := s.bad.filter (fun x => !these x.word) }.wordFlip b these

/-- A sequencer ROM is never written: KIND 1 flips a word of it when it is armed (log entry 116). -/
def State.romFlip (s : State) (b : Nat) : State := s.wordFlip b (fun w => match w with | .rom _ _ => true | _ => false)

def State.badWord (s : State) (w : ChipWord) : Option BadWord := s.bad.find? (fun x => x.word == w)

/-- A bad word is right again: corrected, or written anew. -/
def State.mend (s : State) (w : ChipWord) : State := { s with bad := s.bad.filter (fun x => x.word != w) }

/-- A word of state under DEC-TED is read. True when it is not correctable: MEM_UNCORR_STATE is recorded, and its reader answers as
R377 says. -/
def State.readWord (s : State) (w : ChipWord) : Bool × State :=
  match s.badWord w with
  | none => (false, s)
  | some x => (decide (2 < x.bits), (s.mend w).raise swBlock (if 2 < x.bits then 3 else 0) x.detail x.inj)

/-- A word of a kind is read in a block. Whether the armed injection (KIND 1) has flipped a word that this read meets is a free value
(log entry 116): it is then found, corrected as MEM_CORRECTED, or recorded as `code`. True when it is not correctable. -/
def State.dataRead (s : State) (b : Nat) (w : ChipWord) (code : Nat) : Bool × State :=
  match tget (s.block b).armed none 1 with
  | none => (false, s)
  | some (m, a, n) =>
    if Config.chipWordAt b m a ≠ some w then (false, s)
    else
      let d := s.draw
      if !d.1.getLsbD 0 then (false, d.2)
      else (decide (2 < n), (d.2.disarm b 1).raise b (if 2 < n then code else 0) (m * 2 ^ 28 + a) true)

/-- No injection of KIND 1 is armed. -/
def State.readsQuiet (s : State) : Bool := s.blocks.all (fun e => (tget e.2.armed none 1).isNone)

/-- No word of the switch core's memories is bad, and none will be flipped when it is written. -/
def State.wordsQuiet (s : State) : Bool := s.bad.isEmpty && (tget (s.block swBlock).armed none 1).isNone

/-- A word of state is read and written back. -/
def State.touchWord (s : State) (w : ChipWord) : Bool × State :=
  if s.wordsQuiet then (false, s)
  else
    let q := s.readWord w
    (q.1, q.2.wordsWritten swBlock (· == w))

/-- Bits that parity shows: an odd number of flips. -/
def BadWord.parityShows (x : BadWord) : Bool := x.bits % 2 = 1

/-- A word under parity has been read and was bad: the fault is recorded with its address or row, and the firmware rewrites the word
from its copy and records that too (R137, R210, R212, Table 14-1). -/
def State.wordFault (s : State) (b code detail : Nat) (x : BadWord) : State :=
  let s := s.raise b code detail x.inj
  if s.fw.halted then s else (s.mend x.word).raise b 4 detail x.inj

/-- The address that reports a bad word. -/
def BadWord.address (x : BadWord) : Nat := x.detail % 2 ^ 28

/-- The words of a store that every pipe copies are written. -/
def State.storeWritten (s : State) (these : ChipWord → Bool) : State :=
  forAll s.presentPipes s (fun p s => s.wordsWritten (pipeBlock p) these)

/-! ### Control stores (R92, R93, R378) -/

/-- A bundle's patch of a sequencer type: 0 parse, 1 action, 2 table engine. -/
def Bundle.patchOf (b : Bundle) (k : Nat) : SeqPatch := match k with | 0 => b.parse | 1 => b.action | _ => b.table

/-- The patch words in a bank's half, with its enabled match registers: those of its bundle, then those with which the firmware
has redirected bad ROM words. -/
def State.bankPatch (s : State) (k : Nat) (bank : Bool) : SeqPatch :=
  let other := match s.fw.staged with | some b => some b | none => s.fw.previous
  let p := match (if bank == s.fw.bank then s.fw.active else other) with | some b => b.patchOf k | none => SeqPatch.empty
  let r := tget s.fw.repairs SeqPatch.empty (2 * k + bit bank)
  { words := p.words ++ r.words, entries := p.entries ++ r.entries }

/-- What a sequencer type fetches at a micro-address under a bank (Table 4-8): a ROM address that an enabled match register holds
comes from its patch word, the lower register first. None is a sequencer fault: a reserved address, or a ROM word with bad
parity. -/
def State.microFetch (s : State) (k : Nat) (bank : Bool) (store : List (BitVec 128)) (a : Nat) : Option (BitVec 256) :=
  if a < 0x4000 then
    match (s.bankPatch k bank).entries.find? (fun e => e.1.toNat == a) with
    | some e => some ((s.bankPatch k bank).words.getD e.2.toNat 0)
    | none => if (s.badWord (.rom k a)).isSome then none else some (Config.romWord k a)
  else if a < 0x4100 then some ((s.bankPatch k (decide (0x4080 ≤ a))).words.getD (a % 128) 0)
  else if k = 0 && 0x8000 ≤ a && a < 0x9000 then some ((store.getD (a - 0x8000) 0).setWidth 256)
  else none

/-- The firmware redirects a bad ROM word to a patch word of the active bank that holds its content. With no match register free the
fault recurs, and is fatal for the table engine (R378). -/
def State.romRepair (s : State) (k a : Nat) : State :=
  let p := s.bankPatch k s.fw.bank
  let key := 2 * k + bit s.fw.bank
  let r := tget s.fw.repairs SeqPatch.empty key
  if s.fw.halted then s
  else if p.entries.length < 64 && p.words.length < 128 then
    let more : SeqPatch :=
      { words := r.words ++ [Config.romWord k a], entries := r.entries ++ [(BitVec.ofNat 14 a, BitVec.ofNat 7 p.words.length)] }
    { s with fw := { s.fw with repairs := tset s.fw.repairs SeqPatch.empty key more } }
  else if k = 2 then s.raise swBlock 16 swBlock false
  else s

/-- The bad patch words of a type's half, and its bad ROM words that no match register redirects. -/
def State.badMicro (s : State) (k : Nat) (bank : Bool) : List BadWord :=
  s.bad.filter (fun x => match x.word with
    | .patchWord t h _ => t == k && h == bank
    | .rom t a => t == k && (s.microFetch k bank [] a).isNone
    | _ => false)

/-- A program or routine of a type runs under a bank, in block `b`. Which words it fetches is not given: whether a bad one is among
them is a free value. A bad patch word is rewritten; a bad ROM word is a sequencer fault, true in the first place (R378). -/
def State.microRun (s : State) (k b : Nat) (bank : Bool) : Bool × State :=
  match s.badMicro k bank with
  | [] => (false, s)
  | x :: _ =>
    let d := s.draw
    if !d.1.getLsbD 0 then (false, d.2)
    else match x.word with
      | .rom _ a => (true, (d.2.raise b 6 a x.inj).romRepair k a)
      | w => (false, (d.2.mend w).raise b 4 x.detail x.inj)

/-! ### Micro-traps (R94–R96, Table 4-12) -/

def State.teCount (s : State) (i : Nat) : State := s.setTe { s.te with counters := cbump s.te.counters i 1 }

/-- The micro-address at which a trapped routine resumes, from the word in execution: the trap waits while a word has TRAP_HOLD.
Whether a word's COND is true is a free value. A step has at most 64 words. -/
def State.trapPoint (fuel : Nat) (s : State) (bank : Bool) (a ix : Nat) : Nat :=
  match fuel with
  | 0 => a
  | k + 1 =>
    match s.microFetch 2 bank [] a with
    | none => a
    | some w =>
      let taken := bitsAt w.toNat 208 8 ≠ 0 && (Config.freeValue ix).getLsbD 0
      let next := bitsAt w.toNat (if taken then 216 else 232) 16
      if w.getLsbD 206 then s.trapPoint k bank next (ix + 1) else next

/-- A micro-trap saves the context of the long routine in progress, with the object of its open step: what the spec does not state of it
is free. -/
def State.trapSave (s : State) (r : LongRoutine) (target : Option Nat) : State :=
  let draw (n : Nat) : BitVec 64 := Config.freeValue (s.freeIx + n)
  ({ s with freeIx := s.freeIx + 80 }).setTe { s.te with
    trapRoutine := BitVec.ofNat 16 r.id, trapStep := BitVec.ofNat 32 r.step,
    trapTarget := match target with | some t => BitVec.ofNat 64 t | none => BitVec.allOnes 64,
    trapBank := r.bank, trapMicroPc := BitVec.ofNat 16 (s.trapPoint 64 r.bank ((draw 0).toNat % 65536) (s.freeIx + 11)),
    trapLoop := draw 1, trapCause := (draw 2).setWidth 8, trapTemp := (List.range 8).map (fun n => draw (n + 3)) }

/-- A request that cannot wait for a long routine in progress traps it: the context is saved, the trap is counted, and the routine
resumes from the saved context when the request has been served. A save area that cannot be corrected restarts it from step 0
(R377). -/
def State.trapped (s : State) (target : Option Nat) : State :=
  match s.te.running with
  | none => s
  | some r =>
    let q := (((s.trapSave r target).teCount 13).wordsWritten swBlock (· == .trapArea)).readWord .trapArea
    if q.1 then q.2.setTe { q.2.te with running := some { r with step := 0, dest := if r.id = 16 then 0 else r.dest } } else q.2

/-- The table engine runs a short routine: under a trap, if a long routine is in progress. True when a fetch of it fails, which
abandons it at its last committed step (R377). -/
def State.shortRoutine (s : State) (target : Option Nat) : Bool × State := (s.trapped target).microRun 2 swBlock s.te.bank

end Sys2Proof.Machine
end

