-- ==== Sys2Proof/Machine/SchedOps.lean ====
section
/-! DEFINITION. Buckets, virtual time, the class choice of a plain port, the subscriber hierarchy and the policers
(chapter 10). -/
namespace Sys2Proof.Machine
open Sys2Proof

/-! ### Buckets (R273) -/

/-- Refill to the present; an unset bucket (rate 0) holds no tokens and is never short. -/
def Bucket.refill (b : Bucket) (now : Nat) : Bucket :=
  if b.rate = 0 then { b with last := now }
  else
    let num := b.rate * (now - b.last) * 65536 + b.rem
    let tk := b.tokens + (num / 8000000 : Nat)
    if (b.size * 65536 : Nat) ≤ tk then { b with tokens := (b.size * 65536 : Nat), rem := 0, last := now }
    else { b with tokens := tk, rem := num % 8000000, last := now }

/-- A bucket of a rate in kb/s and a size in bytes, full. -/
def Bucket.full (rate size now : Nat) : Bucket :=
  if rate = 0 then { Bucket.zero with last := now }
  else { rate := rate, size := size, tokens := (size * 65536 : Nat), rem := 0, last := now }

/-- The bucket holds more than 0 tokens, or is unset. -/
def Bucket.positive (b : Bucket) : Bool := b.rate == 0 || decide (0 < b.tokens)

/-- Charge a length in bytes; an unset bucket is not charged. -/
def Bucket.charge (b : Bucket) (n : Int) : Bucket := if b.rate = 0 then b else { b with tokens := b.tokens - n * 65536 }

/-- Tokens as signed whole bytes, saturating at 32 bits (Table 10-10). -/
def Bucket.whole (b : Bucket) : Nat :=
  let v := Int.fdiv b.tokens 65536
  let v := if v < -2147483648 then -2147483648 else if 2147483647 < v then 2147483647 else v
  (v % 4294967296).toNat

/-! ### Nodes (R261–R263) -/

def nodeKey (level index : Nat) : Nat := level * 1048576 + index
def keyLevel (k : Nat) : Nat := k / 1048576
def keyIndex (k : Nat) : Nat := k % 1048576

/-- The parent of a node of level 1–4. -/
def Node.parentKey (n : Node) (k : Nat) : Nat := nodeKey (keyLevel k - 1) n.parent

/-- The children of a node. -/
def State.children (s : State) (k : Nat) : List Nat :=
  ((tsome s.sw.nodes).filter (fun p => keyLevel p.1 == keyLevel k + 1 && p.2.parent == keyIndex k)).map (·.1)

/-- A node and its ancestors up to the port, for at most `fuel` levels. -/
def State.pathUp (fuel : Nat) (s : State) (k : Nat) : List Nat :=
  match fuel with
  | 0 => []
  | n + 1 =>
    match s.node k with
    | none => []
    | some x => if keyLevel k = 0 then [k] else k :: s.pathUp n (x.parentKey k)

/-- The port at the root of a node. -/
def State.rootPort (s : State) (k : Nat) : Option Nat :=
  match (s.pathUp 5 k).reverse with
  | r :: _ => if keyLevel r = 0 then some (keyIndex r) else none
  | [] => none

/-- The owner slice of a node: that of its slice node ancestor. -/
def State.nodeOwner (s : State) (k : Nat) : Option Nat :=
  match (s.pathUp 5 k).find? (fun j => keyLevel j == 1) with
  | some j => (s.node j).map (·.owner)
  | none => none

/-- The class queue q. -/
def State.classQueue (s : State) (q : Nat) : Option ClassQueue := (s.node (nodeKey 4 q)).map (·.queue)

def State.setClassQueue (s : State) (q : Nat) (x : ClassQueue) : State :=
  match s.node (nodeKey 4 q) with
  | some n => s.setNode (nodeKey 4 q) (some { n with queue := x })
  | none => s

/-- A class queue is attached for a frame that leaves through a port (R262). -/
def State.attachedFor (s : State) (q port : Nat) : Bool :=
  let path := s.pathUp 5 (nodeKey 4 q)
  path.length == 5 && path.all (fun k => match s.node k with | some n => keyLevel k == 0 || n.attached | none => false) &&
    path.getLast? == some (nodeKey 0 port) && (s.port port).cfg.subscriber

/-- Cells of the near part. -/
def State.nearCells (s : State) (x : ClassQueue) : Nat := s.cellsOf x.near
/-- Cells of the far part: the cells its frames take. -/
def ClassQueue.farCells (x : ClassQueue) : Nat := x.far.foldl (fun n f => n + cellsFor f.frame.bytes.length) 0

/-- The node's own queue, or a child's subtree, holds a frame. -/
def State.active (fuel : Nat) (s : State) (k : Nat) : Bool :=
  match fuel with
  | 0 => false
  | n + 1 =>
    match s.node k with
    | none => false
    | some x =>
      if keyLevel k = 4 then !x.queue.near.isEmpty || !x.queue.far.isEmpty
      else (s.children k).any (fun c => s.active n c)

/-- Priority c of a port is held paused by its partner (R117, R118). In MODE 1 priority 0 stands for the whole port. -/
def Port.paused (p : Port) (cls now : Nat) : Bool :=
  let x := if p.pause.mode = 1 then p.prio 0 else p.prio cls
  p.pause.mode ≠ 0 && !x.storm && (match x.until_ with | some t => now < t | none => false)

/-- A node is committed (R266). -/
def Node.committed (n : Node) : Bool := n.cir.rate != 0 && decide (0 < n.cir.tokens)

/-- The service set of a node: its priority group and whether it is committed. -/
def Node.serviceSet (n : Node) : Nat × Bool := (n.prio, n.committed)

def setIndex (g : Nat × Bool) : Nat := 2 * g.1 + bit g.2

/-- A node's own eligibility, given its children's (R266). -/
def State.eligibleNow (s : State) (k : Nat) : Bool :=
  match s.node k with
  | none => false
  | some n =>
    if keyLevel k = 4 then
      let port := s.rootPort k
      n.attached && n.pir.positive &&
        (match n.queue.near with
         | f :: _ => (match s.frame f with | some x => x.complete | none => false)
         | [] => false) &&
        (match port with | some p => !(s.port p).paused (keyIndex k % 8) s.now | none => false)
    else n.attached && n.pir.positive && (s.children k).any (fun c => match s.node c with | some x => x.eligible | none => false)

/-- V of a service set at a parent. -/
def State.vtime (s : State) (parent : Nat) (g : Nat × Bool) : BitVec 40 :=
  match s.node parent with | some p => tget p.vt 0 (setIndex g) | none => 0

def State.setVtime (s : State) (parent : Nat) (g : Nat × Bool) (v : BitVec 40) : State :=
  match s.node parent with
  | some p => s.setNode parent (some { p with vt := tset p.vt 0 (setIndex g) v })
  | none => s

/-- Bring a node's buckets, set, tag and lag up to date (R269, R270, R275). -/
def State.refreshNode (s : State) (k : Nat) : State :=
  match s.node k with
  | none => s
  | some n =>
    let n := { n with cir := n.cir.refill s.now, pir := n.pir.refill s.now }
    let s := s.setNode k (some n)
    if keyLevel k = 0 then s
    else
      let par := n.parentKey k
      let cur := n.serviceSet
      if !s.active 5 k then s.setNode k (some { n with set := none, eligible := false })
      else
        let el := s.eligibleNow k
        match n.set with
        | none => s.setNode k (some { n with set := some cur, start := s.vtime par cur, lag := 0, eligible := el })
        | some old =>
          if n.eligible && !el then
            s.setNode k (some { n with lag := n.start - s.vtime par old, eligible := false })
          else if !n.eligible && el then
            if old = cur then s.setNode k (some { n with start := s.vtime par old + n.lag, eligible := true })
            else s.setNode k (some { n with set := some cur, start := s.vtime par cur, eligible := true })
          else if el && old ≠ cur then s.setNode k (some { n with set := some cur, start := s.vtime par cur })
          else s

/-- Keys of the nodes under a port, class queues first. -/
def State.nodesUnder (s : State) (port : Nat) : List Nat :=
  let l := ((tsome s.sw.nodes).map (·.1)).filter (fun k => s.rootPort k == some port)
  l.filter (fun k => keyLevel k == 4) ++ l.filter (fun k => keyLevel k == 3) ++ l.filter (fun k => keyLevel k == 2) ++
    l.filter (fun k => keyLevel k == 1) ++ l.filter (fun k => keyLevel k == 0)

def State.refreshPort (s : State) (port : Nat) : State := forAll (s.nodesUnder port) s (fun k t => t.refreshNode k)

/-- Serial order of start tags (R78). -/
def tagBefore (a b : BitVec 40) : Bool := serialAfter 40 b.toNat a.toNat

/-- Child `a` goes before child `b` (R267). -/
def Node.before (ka : Nat) (a : Node) (kb : Nat) (b : Node) : Bool :=
  let ga := a.set.getD (0, false)
  let gb := b.set.getD (0, false)
  if ga.1 ≠ gb.1 then gb.1 < ga.1
  else if ga.2 ≠ gb.2 then ga.2
  else if a.start ≠ b.start then tagBefore a.start b.start
  else ka < kb

/-- The eligible child that a node chooses. -/
def State.chooseChild (s : State) (k : Nat) : Option Nat :=
  (s.children k).foldl (fun best c =>
    match s.node c with
    | none => best
    | some x =>
      if !x.eligible then best
      else match best with
        | none => some c
        | some b =>
          match s.node b with
          | some y => if Node.before c x b y then some c else some b
          | none => some c) none

/-- The descent from a port to a class queue: the chosen nodes, top down. -/
def State.descend (fuel : Nat) (s : State) (k : Nat) : List Nat :=
  match fuel with
  | 0 => []
  | n + 1 => match s.chooseChild k with | some c => c :: s.descend n c | none => []

/-! ### Charged length (R257) -/

def State.chargedLength (s : State) (port len : Nat) : Int :=
  let adj : Int := match s.node (nodeKey 0 port) with | some n => n.adjust | none => 0
  max 1 ((len : Int) + 24 + adj)

/-- Cost of a charged length to a child of weight w (R269), modulo 2^40. -/
def cost (len : Int) (w : Nat) : BitVec 40 := BitVec.ofInt 40 (len * (16777216 / w : Nat))

/-- Charge a node's buckets for a selected frame. -/
def State.chargeNode (s : State) (k : Nat) (len : Int) : State :=
  match s.node k with
  | some n => s.setNode k (some { n with cir := n.cir.charge len, pir := n.pir.charge len })
  | none => s

/-- The service of a selected child (on_served of R270). -/
def State.serveNode (s : State) (k : Nat) (len : Int) : State :=
  match s.node k with
  | none => s
  | some n =>
    if !s.active 5 k then s.setNode k (some { n with set := none, eligible := false })
    else
      let n := { n with start := n.start + cost len n.weight }
      if n.set = some n.serviceSet then s.setNode k (some n)
      else s.setNode k (some { n with set := some n.serviceSet, start := s.vtime (n.parentKey k) n.serviceSet })

/-- Selection of the path: V of each set becomes the chosen child's tag. -/
def State.selectNode (s : State) (k : Nat) : State :=
  match s.node k with
  | some n => match n.set with | some g => s.setVtime (n.parentKey k) g n.start | none => s
  | none => s

def State.schedCount (s : State) (i : Nat) : State := { s with sw := { s.sw with schedCnt := cbump s.sw.schedCnt i 1 } }

/-! ### Plain ports (R258) -/

def Port.cls (p : Port) (c : Nat) : ClassSched :=
  tget p.classes { ClassSched.reset with wfq := c != 7 } c
def Port.setCls (p : Port) (c : Nat) (x : ClassSched) : Port :=
  { p with classes := tset p.classes { ClassSched.reset with wfq := c != 7 } c x }

/-- A frame at the head of a queue may be requested: complete, or cut through, and not yet taken. -/
def State.requestable (s : State) (q : Nat) (dest : FrameDest) : Option Nat :=
  match s.queueOf q with
  | f :: _ => match s.frame f with
    | some x => if x.dest = dest && (x.complete || x.cut) then some f else none
    | none => none
  | [] => none

/-- The numbers below `n` in rotation, from a pointer on. -/
def turnOrder (n ptr : Nat) : List Nat := (List.range n).map (fun i => (ptr + i) % n)

/-- Move a rotation pointer past the slot that has been served. -/
def State.turnPast (s : State) (key n i : Nat) : State :=
  { s with sw := { s.sw with rotation := tset s.sw.rotation 0 key ((i + 1) % n) } }

/-- The unicast VOQs and the host transmit queue that hold frames of a class for a port. -/
def State.portQueues (_ : State) (port cls : Nat) : List Nat :=
  ((List.range 8).map (fun i => qUnicast i port cls)) ++ [qHostTx (pipeOf port) cls]

/-- The frames at the heads of a pipe's multicast VOQs, with their queues. -/
def State.mcastHeads (s : State) (pipe : Nat) : List (Nat × Nat × Frame) :=
  (List.range 8).filterMap (fun c => match s.queueOf (qMcast pipe c) with
    | f :: _ => (s.frame f).map (fun x => (qMcast pipe c, f, x))
    | [] => none)

/-- A copy of a class that a plain port has not begun. -/
def Target.waitsPlain (t : Target) (k c : Nat) : Bool := match t with | .plain p d 0 => p == k && d == c | _ => false

/-- What a slot of a port's rotation requests for a class: slots 0–7 are the pipes' unicast VOQs, 8 the host transmit queue and
9–16 the pipes' multicast VOQs. -/
def State.slotHead (s : State) (port cls i : Nat) : Option (Nat × Nat) :=
  let own (q : Nat) : Option (Nat × Nat) := (s.requestable q (.port port)).map (fun f => (q, f))
  if i < 8 then own (qUnicast i port cls)
  else if i = 8 then own (qHostTx (pipeOf port) cls)
  else ((s.mcastHeads (i - 9)).find? (fun h => h.2.2.targets.any (fun t => t.waitsPlain port cls))).map (fun h => (h.1, h.2.1))

/-- The slot of a queue in a port's rotation. -/
def queueSlot (q : Nat) : Nat := if q % 8192 < 1024 then q / 8192 else if 4112 ≤ q % 8192 then 8 else 9 + q / 8192

/-- The next frame of a class for a port, pipes in rotation (R229). -/
def State.classHead (s : State) (port cls : Nat) : Option (Nat × Nat) :=
  (turnOrder 17 (tget s.sw.rotation 0 (port * 8 + cls))).findSome? (s.slotHead port cls)

/-- The frames of a class that wait for a port. -/
def State.classFrames (s : State) (port cls : Nat) : List Nat :=
  (((s.portQueues port cls).flatMap s.queueOf).filter (fun f => match s.frame f with | some y => y.dest == FrameDest.port port | none => false)) ++
  (((List.range 64).flatMap (fun i => s.queueOf (qMcast (i / 8) (i % 8)))).filter (fun f =>
    match s.frame f with | some y => y.targets.any (fun t => t.waitsPlain port cls) | none => false))

/-- Cells of transmit staging in use and in all (R229). -/
def Port.staged (p : Port) : Nat :=
  p.staging.foldl (fun n f => n + (f.cellsIn - f.freed)) (match p.sending with | some f => f.cellsIn - f.freed | none => 0)
def Port.stagingSize (p : Port) : Nat := 16 * p.cfg.width

/-- A class of a plain port is eligible (R258). -/
def State.classEligible (s : State) (port cls : Nat) : Bool :=
  let p := s.port port
  (s.classHead port cls).isSome && p.staged < p.stagingSize && !p.paused cls s.now && ((p.cls cls).bucket.refill s.now).positive &&
    (match s.node (nodeKey 0 port) with | some n => (n.pir.refill s.now).positive | none => true)

/-- Bring the tags of a port's WFQ classes up to date, by the rules of R269 and R270 with one set. -/
def State.refreshClass (s : State) (port cls : Nat) : State :=
  let p := s.port port
  let x := { p.cls cls with bucket := (p.cls cls).bucket.refill s.now }
  let act := (s.classFrames port cls).any (fun f => !p.chosen.any (fun c => c.2 == f))
  let el := s.classEligible port cls
  let x :=
    if !act then { x with active := false, eligible := false }
    else if !x.active then { x with active := true, eligible := el, start := p.classTime, lag := 0 }
    else if x.eligible && !el then { x with eligible := false, lag := x.start - p.classTime }
    else if !x.eligible && el then { x with eligible := true, start := p.classTime + x.lag }
    else x
  s.setPort port (p.setCls cls x)

def State.refreshClasses (s : State) (port : Nat) : State := forAll (List.range 8) s (fun c t => t.refreshClass port c)

/-- The class that a plain port serves next: the highest eligible STRICT class, else the WFQ class with the least tag. -/
def State.chooseClass (s : State) (port : Nat) : Option Nat :=
  let p := s.port port
  let el := (List.range 8).filter (fun c => (p.cls c).eligible)
  match (el.filter (fun c => !(p.cls c).wfq)).reverse with
  | c :: _ => some c
  | [] => (el.filter (fun c => (p.cls c).wfq)).foldl (fun best c =>
      match best with
      | none => some c
      | some b => if tagBefore (p.cls c).start (p.cls b).start then some c else some b) none

/-! ### Policers (R276–R279) -/

/-- Both buckets refilled to the present; in MODE 1 tokens that overflow C go to E. -/
def Policer.refilled (p : Policer) (now : Nat) : Policer :=
  if p.mode = 1 then
    let num := p.cBucket.rate * (now - p.cBucket.last) * 65536 + p.cBucket.rem
    let add : Int := (num / 8000000 : Nat)
    let room : Int := (p.cBucket.size * 65536 : Nat) - p.cBucket.tokens
    let spill := max 0 (add - room)
    { p with
      cBucket := { p.cBucket with tokens := p.cBucket.tokens + min add room, rem := num % 8000000, last := now },
      eBucket := { p.eBucket with tokens := min ((p.eBucket.size * 65536 : Nat) : Int) (p.eBucket.tokens + spill), last := now } }
  else { p with cBucket := p.cBucket.refill now, eBucket := p.eBucket.refill now }

/-- Colours: 0 green, 1 yellow, 2 red. Meter a length on a policer with an incoming colour. The flags say which
buckets were debited. -/
def Policer.meter (p : Policer) (now b colour : Nat) : Nat × Bool × Bool × Policer :=
  let need : Int := (b * 65536 : Nat)
  let p' := p.refilled now
  let c := p'.cBucket
  let e := p'.eBucket
  let aware := p.flags.getLsbD 0
  let inc := if aware then colour else 0
  let debit (x : Bucket) : Bucket := { x with tokens := x.tokens - need }
  let green := { p' with green := p'.green + 1 }
  let yellow := { p' with yellow := p'.yellow + 1 }
  let red := { p' with red := p'.red + 1 }
  if p.mode = 2 then
    if inc = 2 || e.tokens < need then (2, false, false, red)
    else if inc = 1 || c.tokens < need then (1, false, true, { yellow with eBucket := debit e })
    else (0, true, true, { green with cBucket := debit c, eBucket := debit e })
  else
    if inc = 0 && need ≤ c.tokens then (0, true, false, { green with cBucket := debit c })
    else if inc ≠ 2 && need ≤ e.tokens then (1, false, true, { yellow with eBucket := debit e })
    else (2, false, false, red)

/-- R278: debit again the buckets that an estimate debited, refilled to the present first. -/
def Policer.trueUp (p : Policer) (now : Nat) (c e : Bool) (diff : Int) : Policer :=
  let fix (b : Bucket) : Bucket :=
    { b with tokens := min ((b.size * 65536 : Nat) : Int) (b.tokens - diff * 65536) }
  let p := p.refilled now
  { p with cBucket := if c then fix p.cBucket else p.cBucket, eBucket := if e then fix p.eBucket else p.eBucket,
           trueUps := p.trueUps + 1 }

/-- A policer's buckets full. -/
def Policer.fill (p : Policer) : Policer :=
  let full (b : Bucket) : Bucket := { b with tokens := (b.size * 65536 : Nat), rem := 0 }
  { p with cBucket := full p.cBucket, eBucket := full p.eBucket }

/-- A policer's word is read and written: a bad one has its buckets set full (R377). -/
def State.policerRead (s : State) (n : Nat) : State :=
  let q := s.touchWord (.policer n)
  if q.1 then { q.2 with sw := { q.2.sw with policers := tmod q.2.sw.policers Policer.reset n Policer.fill } } else q.2

/-- Correct the meters of a packet whose true length, FCS included, is known. -/
def State.trueUp (s : State) (pkt len : Nat) : State :=
  let mine := s.sw.trueUps.filter (fun t => t.pkt == pkt)
  let s := { s with sw := { s.sw with trueUps := s.sw.trueUps.filter (fun t => t.pkt != pkt) } }
  forAll mine s (fun t s =>
    ({ s with sw := { s.sw with
        policers := tmod s.sw.policers Policer.reset t.policer (fun p => p.trueUp s.now t.cDebit t.eDebit ((len : Int) - t.estimate)) } }
      ).schedCount 5)

end Sys2Proof.Machine
end

