-- ==== Sys2Proof/Machine/FarOps.lean ====
section
/-! DEFINITION. The subscriber stage's placement of frames, the far store's blocks, refill and loss, and the
flush of a port (R236–R241, R246, chapter 11). -/
namespace Sys2Proof.Machine
open Sys2Proof

/-! ### Blocks (R286, R288) -/

def blockKey (c b : Nat) : Nat := c * 1048576 + b
def blockChannel (k : Nat) : Nat := k / 1048576

/-- The interleave ring: 0, 8, 16, 1, 9, 17, …, 7, 15, 23 (R288). -/
def ringPos (c : Nat) : Nat := c % 8 * 3 + c / 8
def ringAt (i : Nat) : Nat := i % 24 / 3 + i % 3 * 8

/-- First and last row of a block within its bank (R286). -/
def blockRow (b : Nat) : Nat := ((b / 16 / 4) * 18432 + (b / 16 % 4) * 4608) / 2048
def blockLastRow (b : Nat) : Nat := ((b / 16 / 4) * 18432 + (b / 16 % 4) * 4608 + 4607) / 2048

/-- Rows per bank and blocks per channel by density code (Table 11-1). -/
def rowsOf (density : Nat) : Nat :=
  match density with | 1 => 32768 | 2 => 49152 | 3 => 65536 | 4 => 98304 | 5 => 131072 | _ => 0
def blocksOf (density : Nat) : Nat :=
  match density with | 1 => 232960 | 2 => 349504 | 3 => 465984 | 4 => 699008 | 5 => 932032 | _ => 0

/-- A block lies wholly in PASR segment 0 (R297). -/
def inSegment0 (density b : Nat) : Bool := blockLastRow b < rowsOf density / 8

/-- The channel allocates blocks. -/
def Channel.serves (c : Channel) : Bool := c.state = .inService || c.state = .selfRefresh

/-- Blocks of a channel that lie wholly in segment 0. -/
def segment0Blocks (density : Nat) : Nat :=
  let bytes := rowsOf density / 8 * 2048
  min (blocksOf density) (16 * (4 * (bytes / 18432) + bytes % 18432 / 4608))

/-- Take a block of a channel; in low-traffic mode only from segment 0. -/
def Channel.takeBlock (c : Channel) (low : Bool) : Option (Nat × Channel) :=
  match c.chain.find? (fun b => !low || inSegment0 c.density b) with
  | some b => some (b, { c with chain := c.chain.filter (· != b), free := c.free - 1 })
  | none =>
    if c.fresh < blocksOf c.density && (!low || inSegment0 c.density c.fresh) && 0 < c.free then
      some (c.fresh, { c with fresh := c.fresh + 1, free := c.free - 1 })
    else none

/-- Blocks in use, device-wide. -/
def State.farUsed (s : State) : Nat := s.far.blocks.length

/-- TOTAL of store 9: region blocks have left it. -/
def State.farTotal (s : State) : Nat := s.far.channels.foldl (fun n e => n + e.2.total) 0
def State.farFree (s : State) : Nat := s.far.channels.foldl (fun n e => if e.2.state = .fenced then n else n + e.2.free) 0

/-- A block is being written or read. -/
def State.blockBusy (s : State) (k : Nat) : Bool :=
  let c := s.channel (blockChannel k)
  (c.rt ++ c.wr ++ c.writing).any (fun r => r.block == k)

/-- Blocks on loan to SPILL: being written or read. -/
def State.farLoaned (s : State) : Nat := ((tkeys s.far.blocks).filter s.blockBusy).length

/-- The far store is present with a channel that is not fenced (R237). -/
def State.farUsable (s : State) : Bool := s.hasFar && s.far.channels.any (fun e => e.2.state ≠ .fenced && e.2.state ≠ .init)

/-- The first channel after one in the ring that serves and has a block to give; a queue's own last channel only when that is
the only one in service. -/
def State.nextChannel (s : State) (after own : Option Nat) : Option Nat :=
  let start := match after with | some c => ringPos c + 1 | none => 0
  let order := (List.range 24).map (fun i => ringAt (start + i))
  let ok := order.filter (fun c => (s.channel c).serves && ((s.channel c).takeBlock s.far.lowTraffic).isSome)
  let only := (List.range 24).filter (fun c => (s.channel c).serves)
  match own with
  | none => ok.head?
  | some l => match ok.filter (· != l) with
    | c :: _ => some c
    | [] => if only = [l] then ok.head? else none

/-- Low-traffic mode ends when segment 0 fills (R297). -/
def State.lowCheck (s : State) : State :=
  if !s.far.lowTraffic then s
  else
    let used := ((tkeys s.far.blocks).filter (fun k => inSegment0 (s.channel (blockChannel k)).density (k % 1048576))).length
    let all := s.far.channels.foldl (fun n e =>
      if e.2.state = .init || e.2.state = .fenced then n else n + segment0Blocks e.2.density) 0
    if s.far.lowExit * all < 100 * used then { s with far := { s.far with lowTraffic := false } } else s

/-- Take the next block for a class queue. -/
def State.takeFarBlock (s : State) (q : Nat) (x : ClassQueue) (base : Nat) : Option (Nat × ClassQueue × State) :=
  let fresh := x.blocks.isEmpty
  match s.nextChannel (if fresh then s.far.lastStart else x.lastChannel) x.lastChannel with
  | none => none
  | some c =>
    match (s.channel c).takeBlock s.far.lowTraffic with
    | none => none
    | some (b, ch) =>
      let k := blockKey c b
      let s := s.setChannel c ch
      let s := { s with far := { s.far with
        blocks := tset s.far.blocks none k (some { queue := q, used := 0, records := 0, base := base, closed := false, lost := false }),
        lastStart := if fresh then some c else s.far.lastStart } }
      some (k, { x with blocks := x.blocks ++ [k], lastChannel := some c }, s.lowCheck)

/-- The signed difference of two stamps fits the 29-bit TIME_OFFSET (R238). -/
def offsetFits (t base : Nat) : Bool := t < base + 268435456 && base < t + 268435456

/-- Put `n` more bytes of a frame into the queue's blocks; `first` while its record is to be written. -/
def State.fillBlocks (fuel : Nat) (s : State) (q : Nat) (x : ClassQueue) (n time : Nat) (first : Bool) (used : List Nat) :
    Option (List Nat × ClassQueue × State) :=
  match fuel with
  | 0 => none
  | k + 1 =>
    if n = 0 then some (used, x, s)
    else
      let cur := match x.blocks.getLast? with
        | some b => match tget s.far.blocks none b with
          | some y => if y.closed || y.lost || 3840 ≤ y.used || (first && (30 ≤ y.records || !offsetFits time y.base)) then none
                      else some (b, y)
          | none => none
        | none => none
      match cur with
      | some (b, y) =>
        let m := min n (3840 - y.used)
        let y := { y with used := y.used + m, records := if first then y.records + 1 else y.records }
        let y := { y with closed := y.closed || y.used = 3840 || y.records = 30 && n = m }
        let s := { s with far := { s.far with blocks := tset s.far.blocks none b (some y) } }
        s.fillBlocks k q x (n - m) time false (used ++ [b])
      | none =>
        match s.takeFarBlock q x time with
        | none => none
        | some (_, x, s) => s.fillBlocks k q x n time first used

/-- Return a block to its channel's chain, or to the region that is being reserved (R301). -/
def State.freeBlock (s : State) (k : Nat) : State :=
  let n := blockChannel k
  let c := s.channel n
  let s := { s with far := { s.far with blocks := tset s.far.blocks none k none } }
  if c.state = .fenced || c.state = .init then s
  else if c.withheld.length < tget s.far.region 0 n then
    s.setChannel n { c with withheld := (k % 1048576) :: c.withheld, total := c.total - 1 }
  else s.setChannel n { c with chain := (k % 1048576) :: c.chain, free := c.free + 1 }

def State.channelCount (s : State) (c i : Nat) : State :=
  let x := s.channel c
  s.setChannel c { x with counters := cbump x.counters i 1 }

/-! ### Placement (R236, R237) -/

/-- INTAKE's loans in all, and for one crossbar output. -/
def State.intakeLoaned (s : State) : Nat := (s.store 8).loanedAll .intake
def State.intakeCredit (s : State) (pipe : Nat) : Nat := 256 - (s.store 8).loanedTo .intake pipe

/-- The near store has `n` cells that INTAKE's 2,048 do not keep; `own` of INTAKE's loans would become the frame's. -/
def State.nearHas (s : State) (n own : Nat) : Bool :=
  2048 ≤ (s.store 8).freeOnly - (n - own) + s.intakeLoaned - own && n - own ≤ (s.store 8).freeOnly

/-- Where R237 places a frame of a class queue; `has` says that the near store has the cells that the frame still needs. -/
inductive Place where
  | near | far | nowhere
deriving DecidableEq, Repr

def State.placement (s : State) (x : ClassQueue) (has : Bool) : Place :=
  if x.far.isEmpty && s.nearCells x < x.spillOn && has then .near
  else if s.farUsable then .far
  else if has then .near
  else .nowhere

/-- Count a drop of a class queue's frame, on the frame's egress port (R256). -/
def State.queueDrop (s : State) (q reason : Nat) (f : Frame) : State :=
  let k := match f.dest with | .port p => p | _ => (s.rootPort (nodeKey 4 q)).getD f.ingressPort
  let s := match s.classQueue q with
    | some x => s.setClassQueue q { x with dropped := x.dropped + 1 }
    | none => s
  (s.probeLost (.queue q) 1).countDrop k reason { f with dest := .port k }

/-- Blocks of the far store charged to a slice (R249). -/
def State.sliceBlocks (s : State) (slc : Nat) : Nat :=
  ((tsome s.far.blocks).filter (fun p => s.nodeOwner (nodeKey 4 p.2.queue) == some slc)).length

/-- Near cells on loan that a slice is charged for (R249): those of a refill, and those of a spill write under way. -/
def State.lentFor (s : State) (slc : Nat) : Nat :=
  let owns (q : Nat) : Bool := s.nodeOwner (nodeKey 4 q) == some slc
  (tsome (s.store 8).loans).foldl (fun n l =>
    let mine := match l.2.borrower with
      | .spill => owns l.2.owner
      | .intake => s.far.channels.any (fun c => (c.2.wr ++ c.2.writing).any (fun r => r.loan == some (l.2.owner, l.1) && owns r.queue))
      | _ => false
    if mine then n + l.2.cells.length else n) 0

/-- Steps 1 to 4 of Table 9-10 for a class queue, with the placement that step 3 needs: the near store has the cells that the
frame needs, and `charged` of its `n` are charged to the slice already. -/
def State.subscriberRefusal (s : State) (port q slc n charged : Nat) (has : Bool) : Option Nat :=
  if !s.portOpen port then some 6
  else match s.classQueue q with
    | none => some 3
    | some x =>
      if !s.attachedFor q port then some 3
      else
        let above : Bool := match s.placement x has with
          | .far => (match s.share slc 3 0 with | some m => decide (m ≤ s.sliceBlocks slc) | none => false)
          | _ => (match s.share slc 2 0 with
                  | some m => decide (m ≤ s.sliceCells 8 slc + s.lentFor slc - charged) | none => false) ||
                 (decide ((s.store 8).limit < (s.store 8).total) && decide ((s.store 8).limit ≤ (s.store 8).queued + (s.store 8).loaned))
        if above then some 0
        else if x.maxCells < s.nearCells x + x.farCells + n then some 3
        else none

/-- Write a frame to the tail of a queue's far part: none when no block is found. Its spill writes are requested; the
last of them frees the loan. -/
def State.placeFar (s : State) (q : Nat) (f : Frame) (loan : Option (Nat × Nat)) : Option State :=
  match s.classQueue q with
  | none => none
  | some x =>
    match s.fillBlocks 16 q x f.bytes.length f.ingressTime true [] with
    | none => none
    | some (ks, x, s) =>
      let s := s.setClassQueue q { x with far := x.far ++ [{ frame := { f with store := 9, cells := [] }, blocks := ks, refilling := false }] }
      some (forAll ks s (fun k s =>
        let c := s.channel (blockChannel k)
        let r : DramRequest := { block := k, queue := q, since := s.now, loan := if some k = ks.getLast? then loan else none }
        s.setChannel (blockChannel k) { c with wr := c.wr ++ [r] }))

/-- The far store's request ports hold at most 256 requests each, and SPILL at most 4,096 blocks (R223, R290): a change that goes
above waits. -/
def State.farFits (s t : State) : Bool :=
  t.far.channels.all (fun e =>
    decide (e.2.rt.length ≤ max 256 (s.channel e.1).rt.length) && decide (e.2.wr.length ≤ max 256 (s.channel e.1).wr.length)) &&
  decide (t.farLoaned ≤ max 4096 s.farLoaned)

/-- Return a near loan's cells. -/
def State.returnLoan (s : State) (store loan : Nat) : State :=
  match tget (s.store store).loans none loan with
  | some l => s.setStore store (((s.store store).giveBack .loaned l.cells).unlend loan)
  | none => s

/-! ### Loss of blocks (R240) -/

/-- Drop the far frames of a queue that `lost` says are lost, under a reason. -/
def State.dropFar (s : State) (q reason : Nat) (lost : FarFrame → Bool) : State :=
  match s.classQueue q with
  | none => s
  | some x =>
    let gone := x.far.filter lost
    let s := s.setClassQueue q { x with far := x.far.filter (fun f => !lost f) }
    forAll gone s (fun f s => s.queueDrop q reason f.frame)

/-- Return the blocks of a queue that no frame needs any more. -/
def State.trimBlocks (s : State) (q : Nat) : State :=
  match s.classQueue q with
  | none => s
  | some x =>
    let need (b : Nat) : Bool := x.far.any (fun f => f.blocks.contains b)
    let s := s.setClassQueue q { x with blocks := x.blocks.filter need }
    forAll (x.blocks.filter (fun b => !need b)) s (fun b s => s.freeBlock b)

/-- The part of a block list that can be reached: it ends before two consecutive lost blocks. -/
def reachable (lost : Nat → Bool) (l : List Nat) : List Nat :=
  match l with
  | [] => []
  | a :: r =>
    if lost a && (match r with | b :: _ => lost b | [] => false) then []
    else a :: reachable lost r

/-- Blocks of a queue are lost: its frames in them are dropped FAR_LOST and the queue continues past them. -/
def State.loseBlocks (s : State) (q : Nat) (lost : Nat → Bool) : State :=
  match s.classQueue q with
  | none => s
  | some x =>
    let keep := (reachable lost x.blocks).filter (fun b => !lost b)
    (s.dropFar q 7 (fun f => !f.blocks.all (fun b => keep.contains b))).trimBlocks q

/-! ### Refill (R239) -/

/-- Frames that a refill of the head block completes: those that begin in it. -/
def ClassQueue.headFrames (x : ClassQueue) : List FarFrame :=
  match x.blocks with
  | [] => []
  | b :: _ => x.far.filter (fun f => f.blocks.head? == some b)

def ClassQueue.refillCells (x : ClassQueue) : Nat := x.headFrames.foldl (fun n f => n + cellsFor f.frame.bytes.length) 0

/-- The class queue while a refill on a loan reads its head block. -/
def ClassQueue.beginRefill (x : ClassQueue) (loan : Nat) : ClassQueue :=
  { x with refilling := some loan, far := x.far.map (fun f => if x.headFrames.contains f then { f with refilling := true } else f) }

/-- The class queue without a refill. -/
def ClassQueue.endRefill (x : ClassQueue) : ClassQueue :=
  { x with refilling := none, far := x.far.map (fun f => { f with refilling := false }) }

/-- The reads of a refill are requested: one for each block of the frames that it completes. -/
def State.refillReads (s : State) (q : Nat) (x : ClassQueue) : State :=
  forAll ((x.headFrames.flatMap (·.blocks)).eraseDups) s (fun k t =>
    let c := t.channel (blockChannel k)
    t.setChannel (blockChannel k) { c with rt := c.rt ++ [{ block := k, queue := q, since := t.now, loan := none }] })

/-- Start a refill: reserve its near cells and request its blocks. -/
def State.refillStart (s : State) (q : Nat) : State :=
  match s.classQueue q with
  | none => s
  | some x =>
    let n := x.refillCells
    if x.refilling.isSome || x.far.isEmpty || x.refill < s.nearCells x || !s.nearHas n 0 ||
        8192 < (s.store 8).loanedAll .spill + n then s
    else match (s.store 8).allocN n .loaned 0 with
      | none => s
      | some (cells, st) =>
        let (l, st) := st.lend .spill q cells s.cycles
        let t := (s.setStore 8 st).refillReads q x
        if s.farFits t then t.setClassQueue q (x.beginRefill l) else s

/-- Give each refilled frame its reserved cells and link it to the near part. -/
def State.linkRefilled (s : State) (q : Nat) (fs : List FarFrame) (cells : List Nat) : State :=
  match fs with
  | [] => s
  | f :: r =>
    let n := cellsFor f.frame.bytes.length
    let id := s.sw.nextFrame
    let s := { s with sw := { s.sw with nextFrame := id + 1 } }
    let d := (s.store 8).describe (cells.take n)
    let s := s.setStore 8 d.2
    let s := s.setFrame id (some { f.frame with store := 8, cells := cells.take n, gen := d.1, refs := 1, complete := true })
    let s := match s.classQueue q with
      | some x => s.setClassQueue q { x with near := x.near ++ [id] }
      | none => s
    s.linkRefilled q r (cells.drop n)

/-- Remove a queue's requests from the RT ports. -/
def State.endReads (s : State) (q : Nat) : State :=
  forAll (tkeys s.far.channels) s (fun c s =>
    let x := s.channel c
    s.setChannel c { x with rt := x.rt.filter (fun r => r.queue != q) })

/-- A refill ends: its frames are linked, or, when the block could not be read, lost. -/
def State.refillDone (s : State) (q : Nat) (ok : Bool) : State :=
  match s.classQueue q with
  | none => s
  | some x =>
    match x.refilling with
    | none => s
    | some l =>
      let cells := match tget (s.store 8).loans none l with | some r => r.cells | none => []
      let s := (s.endReads q).setClassQueue q x.endRefill
      if !ok then
        let b := x.blocks.head?
        (s.returnLoan 8 l).loseBlocks q (fun k => some k == b)
      else
        let fs := (x.far.filter (·.refilling)).map (fun f => { f with refilling := false })
        let good := fs.filter (fun f => !f.frame.corrupt)
        let s := s.dropFar q 10 (fun f => fs.contains f && f.frame.corrupt)
        let s := match s.classQueue q with
          | some y => s.setClassQueue q { y with far := y.far.filter (fun f => !good.contains f) }
          | none => s
        let used := good.foldl (fun n f => n + cellsFor f.frame.bytes.length) 0
        let s := s.linkRefilled q good (cells.take used)
        let s := s.setStore 8 (((s.store 8).giveBack .loaned (cells.drop used)).unlend l)
        s.trimBlocks q

/-! ### Flush of a port (R246) -/

/-- Remove a class queue's frames under PORT_DOWN; its far blocks are returned in the background. -/
def State.flushQueue (s : State) (k q : Nat) : State :=
  match s.classQueue q with
  | none => s
  | some x =>
    let s := match x.refilling with | some l => (s.endReads q).returnLoan 8 l | none => s
    let s := s.setClassQueue q { x with near := [], far := [], blocks := [], refilling := none }
    let s := { s with far := { s.far with flushed := tmod s.far.flushed [] k (· ++ x.blocks) } }
    let s := forAll x.near s (fun f s => match s.frame f with
      | some y => (s.deref f).queueDrop q 6 y
      | none => s)
    forAll x.far s (fun f s => s.queueDrop q 6 f.frame)

/-! ### Bad words of nodes and class queues (R377) -/

/-- A class queue's word or a node's link word was bad: the queue's frames are dropped CELL_ERROR, and it stays empty and attached.
Their cells and blocks are leaked until a chain audit with RECLAIM. -/
def State.leakQueue (s : State) (q : Nat) : State :=
  match s.classQueue q with
  | none => s
  | some x =>
    let s := match x.refilling with | some l => (s.endReads q).returnLoan 8 l | none => s
    let s := s.setClassQueue q { x with near := [], far := [], blocks := [], refilling := none }
    let s := forAll x.near s (fun f s => match s.frame f with
      | some y => (if y.refs ≤ 1 then s.setFrame f none else s).queueDrop q 10 y
      | none => s)
    forAll x.far s (fun f s => s.queueDrop q 10 f.frame)

/-- A node's shaper word was bad: its buckets are set full, its tag is discarded, and it enters its set as a newly active child. -/
def Node.fill (n : Node) (now : Nat) : Node :=
  { n with cir := Bucket.full n.cir.rate n.cir.size now, pir := Bucket.full n.pir.rate n.pir.size now, set := none, eligible := false }

/-- The words of a node are read and written. A bad link word empties every class queue below its node (DEDUCED, log entry 146). -/
def State.nodeRead (s : State) (k : Nat) : State :=
  let q := s.touchWord (.node k)
  let s := match q.1, q.2.node k with
    | true, some n => q.2.setNode k (some (n.fill q.2.now))
    | _, _ => q.2
  let q := s.touchWord (.nodeLink k)
  let under := (tkeys s.sw.nodes).filter (fun j => keyLevel j == 4 && (s.pathUp 5 j).contains k)
  let s := if q.1 then forAll under q.2 (fun j s => s.leakQueue (keyIndex j)) else q.2
  if keyLevel k ≠ 4 then s
  else
    let q := s.touchWord (.classQueue (keyIndex k))
    if q.1 then q.2.leakQueue (keyIndex k) else q.2

/-- The words of the nodes under a port are read. -/
def State.nodesRead (s : State) (port : Nat) : State :=
  if s.wordsQuiet then s else forAll (s.nodesUnder port) s (fun k s => s.nodeRead k)

/-! ### What a flush removes (R246) -/

/-- A multicast target for a plain port. -/
def Target.isPlain (t : Target) (k : Nat) : Bool := match t with | .plain p _ _ => p == k | _ => false

/-- A replicated frame loses or has served targets: each is one reference, and the last frees the frame. -/
def State.endTargets (s : State) (f : Nat) (gone : Target → Bool) : State :=
  match s.frame f with
  | none => s
  | some x =>
    let keep := x.targets.filter (fun t => !gone t)
    let n := x.targets.length - keep.length
    if n = 0 then s
    else if keep.isEmpty then (s.unqueue x.queue f).releaseFrame f
    else s.setFrame f (some { x with targets := keep, refs := x.refs - n })

/-- The multicast frames with a target at a plain port. -/
def State.targetsFor (s : State) (k : Nat) : List Nat :=
  ((tsome s.sw.frames).filter (fun p => p.2.targets.any (fun t => t.isPlain k))).map (·.1)

/-- The frames of pipe stores that wait for a port. -/
def State.framesFor (s : State) (k : Nat) : List Nat :=
  ((tsome s.sw.frames).filter (fun p => p.2.store < 8 && p.2.dest == .port k)).map (·.1)

/-- The subscriber queues under a port. -/
def State.queuesUnder (s : State) (k : Nat) : List Nat :=
  ((s.nodesUnder k).filter (fun n => keyLevel n == 4)).map keyIndex

/-- A frame that crosses into intake is gone: its cells are freed. -/
def State.intakeClean (s : State) : State :=
  forAll (tkeys s.sw.intakes) s (fun p s =>
    let l := tget s.sw.intakes [] p
    let dead := l.filter (fun i => !i.done && (s.frame i.src).isNone)
    let s := { s with sw := { s.sw with intakes := tset s.sw.intakes [] p (l.filter (fun i => i.done || (s.frame i.src).isSome)) } }
    forAll dead s (fun i s => s.returnLoan 8 i.loan))

/-- Set the port's admission block and release every frame and reference queued for it. A frame whose transmission
has begun ends as R110 states. -/
def State.flushPort (s : State) (k : Nat) : State :=
  let p := s.port k
  let s := s.setPort k { p with blocked := true, flushing := true, chosen := none, staging := [] }
  let own := match p.sending with | some t => if t.complete then [] else [t.frameId] | none => []
  let s := forAll p.staging s (fun t s => match t.queue with
    | some q => (match s.frame t.frameId with | some y => (s.deref t.frameId).queueDrop q 6 y | none => s)
    | none => if t.complete then s.countDrop k 6
        { Frame.blank with dest := .port k, cls := t.cls, lifeline := t.lifeline, slice := t.slice } else s)
  let s := forAll ((s.framesFor k).filter (fun f => !own.contains f)) s (fun f s => s.dropFrame f 6 k)
  let s := forAll ((s.targetsFor k).filter (fun f => !own.contains f)) s (fun f s => match s.frame f with
    | some x => (s.endTargets f (fun t => t.isPlain k)).countDrop k 6 { x with dest := .port k }
    | none => s)
  let s := forAll (s.queuesUnder k) s (fun q s => s.flushQueue k q)
  (s.intakeClean.refreshPort k).refreshClasses k

/-- Every island and block is done: FLUSH_PENDING clears, and an UP port's admission block is lifted (R247). -/
def State.flushDone (s : State) (k : Nat) : State :=
  let s := forAll (tget s.far.flushed [] k) s (fun b s => s.freeBlock b)
  let s := { s with far := { s.far with flushed := tset s.far.flushed [] k [] } }
  let p := s.port k
  s.setPort k { p with flushing := false, blocked := if p.link.link = .up || p.link.link = .holdDown then false else p.blocked }

end Sys2Proof.Machine
end

