-- ==== Sys2Proof/Machine/ParserOps.lean ====
section
/-! DEFINITION. The parse sequencer: graph nodes, the customer-open store, the key vector and the parse flags; and
the payload matcher (chapter 06, R101, R102). -/
namespace Sys2Proof.Machine
open Sys2Proof

/-! ### Graph nodes (Table 6-1) -/

/-- The fields of a node word. -/
structure Gnode where
  cls      : Nat
  lenMode  : Nat
  lenAdd   : Nat
  lenOff   : Nat
  lenShift : Nat
  lenMask  : Nat
  lenScale : Nat
  entry    : Nat
  selOff   : Nat
  selWidth : Nat
  base     : Nat
  count    : Nat
  next     : Nat
  act      : Nat
  gflags   : Nat
  x0Off    : Nat
  x0Bits   : Nat
  x0Dest   : Nat
  x1Off    : Nat
  x1Bits   : Nat
  x1Dest   : Nat
  x0En     : Bool
  x1En     : Bool
deriving DecidableEq, Repr

def Gnode.ofWord (w : Nat) : Gnode :=
  { cls := bitsAt w 248 4, lenMode := bitsAt w 246 2, lenAdd := bitsAt w 236 10, lenOff := bitsAt w 227 9,
    lenShift := bitsAt w 223 4, lenMask := bitsAt w 215 8, lenScale := bitsAt w 212 3, entry := bitsAt w 200 12,
    selOff := bitsAt w 191 9, selWidth := bitsAt w 185 6, base := bitsAt w 172 13, count := bitsAt w 166 6,
    next := bitsAt w 156 10, act := bitsAt w 154 2, gflags := bitsAt w 146 8, x0Off := bitsAt w 137 9,
    x0Bits := bitsAt w 131 6, x0Dest := bitsAt w 123 8, x1Off := bitsAt w 114 9, x1Bits := bitsAt w 108 6,
    x1Dest := bitsAt w 100 8, x0En := bitAt w 99, x1En := bitAt w 98 }

def Gnode.word (n : Gnode) : Nat :=
  n.cls * 2 ^ 248 + n.lenMode * 2 ^ 246 + n.lenAdd * 2 ^ 236 + n.lenOff * 2 ^ 227 + n.lenShift * 2 ^ 223 +
  n.lenMask * 2 ^ 215 + n.lenScale * 2 ^ 212 + n.entry * 2 ^ 200 + n.selOff * 2 ^ 191 + n.selWidth * 2 ^ 185 +
  n.base * 2 ^ 172 + n.count * 2 ^ 166 + n.next * 2 ^ 156 + n.act * 2 ^ 154 + n.gflags * 2 ^ 146 + n.x0Off * 2 ^ 137 +
  n.x0Bits * 2 ^ 131 + n.x0Dest * 2 ^ 123 + n.x1Off * 2 ^ 114 + n.x1Bits * 2 ^ 108 + n.x1Dest * 2 ^ 100 +
  bit n.x0En * 2 ^ 99 + bit n.x1En * 2 ^ 98

/-! ### A parse in progress -/

/-- What a parse has formed. `ix` is the next free value: bits read beyond the frame are not given. -/
structure Parse where
  key     : Nat
  flags   : Nat
  headers : List Header
  count   : Nat
  bytes   : Nat
  vlans   : Nat
  slow    : Nat
  drop    : Bool
  endNode : Nat
  words   : Nat
  reasons : List Nat
  stopped : Bool
  ix      : Nat
  /-- the words with bad parity that the parse must not meet, and the one that it has met (R137): 3 × address, plus 1 for a
  transition entry and 2 for a customer word -/
  bad     : List Nat
  fault   : Option Nat
deriving DecidableEq, Repr

def Parse.start (ix : Nat) (bad : List Nat) : Parse :=
  { key := 0, flags := 0, headers := [], count := 0, bytes := 0, vlans := 0, slow := 0, drop := false, endNode := 0x3FF,
    words := 0, reasons := [], stopped := false, ix := ix, bad := bad, fault := none }

/-- A fetched word has bad parity: the parse ends with a fault (R137). -/
def Parse.faulted (p : Parse) (code : Nat) : Parse := { p with fault := some code, stopped := true }

/-- Replace bits `[lo + n − 1 : lo]` of a number. -/
def putBits (k lo n v : Nat) : Nat := k - bitsAt k lo n * 2 ^ lo + v % 2 ^ n * 2 ^ lo

def Parse.put (p : Parse) (lo n v : Nat) : Parse := { p with key := putBits p.key lo n v }
def Parse.flag (p : Parse) (i : Nat) (on : Bool) : Parse := { p with flags := putBits p.flags i 1 (bit on) }
def Parse.has (p : Parse) (i : Nat) : Bool := bitAt p.flags i

/-- `n` bytes of a frame from an offset; those beyond its end are free values. -/
def Parse.read (p : Parse) (b : Bytes) (off n : Nat) : Nat × Parse :=
  if off + n ≤ b.length then (beAt b off n, p)
  else
    let have_ := slice b off n
    let miss := n - have_.length
    (beNat have_ * 256 ^ miss + (Config.freeValue p.ix).toNat % 256 ^ miss, { p with ix := p.ix + 1 })

/-- `n` bits from the most significant bit of a byte upwards in wire order. -/
def Parse.readBits (p : Parse) (b : Bytes) (off n : Nat) : Nat × Parse :=
  let k := (n + 7) / 8
  let r := p.read b off k
  (r.1 / 2 ^ (k * 8 - n), r.2)

/-- Parse flag of a reason (Table 6-5); CUSTOMER has none. -/
def reasonFlag (r : Nat) : Option Nat :=
  match r with
  | 1 => some 15
  | 2 => some 17
  | 3 => some 18
  | 4 => some 21
  | 5 => some 22
  | 7 => some 23
  | 8 => some 24
  | 10 => some 25
  | _ => none

/-- Disposition of a reason: reasons 8–10 are always SLOW (R134). -/
def Graph.disposition (g : Graph) (r : Nat) : Nat := if 8 ≤ r then 0 else g.dispositions.getD (r - 1) 0

/-- Raise a reason at a node: SLOW and DROP end the parse there. -/
def Parse.reason (p : Parse) (g : Graph) (r node : Nat) : Parse :=
  if p.stopped then p
  else
    let p := { p with reasons := p.reasons ++ [r] }
    let p := match reasonFlag r with | some f => p.flag f true | none => p
    match g.disposition r with
    | 1 => p
    | 2 => { p with drop := true, endNode := node, stopped := true }
    | _ => { p with slow := r, endNode := node, stopped := true }

def Parse.reasonIf (p : Parse) (c : Bool) (g : Graph) (r node : Nat) : Parse := if c then p.reason g r node else p

/-! ### The customer-open store (R101, R102, Table 4-14) -/

/-- What a customer header answers. -/
inductive CustEnd where
  /-- NEXT_NODE, with the header's length when HEADER_END gave one -/
  | node (n : Nat) (len : Option Nat)
  | slowPath | limit
  /-- a word with bad parity -/
  | fault (word : Nat)
deriving DecidableEq, Repr

/-- Run the program at a word; `words` bounds the header at 64 words and the pass at 256. -/
def custRun (words : Nat) (store : List (BitVec 128)) (b : Bytes) (o : Nat) (pc : Nat) (len : Option Nat) (p : Parse) :
    CustEnd × Parse :=
  match words with
  | 0 => (.limit, p)
  | k + 1 =>
    if 256 ≤ p.words then (.limit, p)
    else if p.bad.contains (3 * pc + 2) then (.fault pc, p)
    else
      let w := (store.getD pc 0).toNat
      let p := { p with words := p.words + 1 }
      let next := bitsAt w 108 12
      let off := o + bitsAt w 86 10
      let arg := bitsAt w 64 16
      match bitsAt w 120 8 with
      | 1 =>
        let n := bitsAt w 80 6 + 1
        if 512 < off + (n + 7) / 8 then (.limit, p)
        else
          let r := p.readBits b off n
          custRun k store b o next len (r.2.put (1280 + arg % 256) n r.1)
      | 2 =>
        if 512 < off + 4 then (.limit, p)
        else
          let r := p.read b off 4
          custRun k store b o (if r.1 &&& bitsAt w 0 32 = bitsAt w 32 32 then bitsAt w 96 12 else next) len r.2
      | 3 => custRun k store b o next len (p.put (128 + arg % 16) 1 1)
      | 4 =>
        if bitAt arg 15 then
          if 512 < off + 1 then (.limit, p)
          else
            let r := p.read b off 1
            custRun k store b o next (some ((r.1 &&& bitsAt w 0 8) * 2 ^ (arg % 8))) r.2
        else custRun k store b o next (some (arg % 1024)) p
      | 5 => (.node (bitsAt w 32 12) len, p)
      | 6 => (.slowPath, p)
      | _ => custRun k store b o next len p

/-! ### Fields of a header (R131, R132, Table 6-3) -/

def Parse.seen (p : Parse) (c : Nat) : Bool := p.headers.any (fun h => h.cls == c)
def Parse.seenIp (p : Parse) : Bool := p.seen 5 || p.seen 6
def Parse.seenL4 (p : Parse) : Bool := p.seen 9 || p.seen 10 || p.seen 11

/-- The IP fields: addresses, protocol, TOS, TTL and offset, OUTER from the first header and INNER from every one. -/
def Parse.ip (p : Parse) (v6 : Bool) (o src dst proto tos ttl : Nat) : Parse :=
  let p := if p.seenIp then p
    else ((((((p.put 960 128 src).put 832 128 dst).put 344 8 proto).put 328 8 tos).put 312 8 ttl).put 54 10 o)
      |>.flag 0 (!v6) |>.flag 1 v6 |>.flag 19 (ttl ≤ 1)
  (((((((p.put 704 128 src).put 576 128 dst).put 336 8 proto).put 320 8 tos).put 304 8 ttl).put 44 10 o).flag 2 (!v6)).flag 3 v6
    |>.flag 20 (ttl ≤ 1)

/-- The L4 fields. -/
def Parse.l4 (p : Parse) (cls o sport dport : Nat) : Parse :=
  let p := if p.seenL4 then p else (p.put 464 16 sport).put 448 16 dport
  ((((((p.put 432 16 sport).put 416 16 dport).put 34 10 o).flag 11 (cls = 10)).flag 12 (cls = 9)).flag 13 (cls = 11)).flag 14 true

/-- The fields of a header of a class at an offset. -/
def Parse.fields (p : Parse) (b : Bytes) (cls o : Nat) : Parse :=
  let rd (p : Parse) (i n : Nat) : Nat × Parse := p.read b (o + i) n
  match cls with
  | 1 =>
    let r := rd p 0 14
    let da := r.1 / 2 ^ 64
    let p := r.2
    let p := if p.seen 1 then p
      else (((p.put 528 48 da).put 480 48 (r.1 / 65536)).flag 27 (da = 2 ^ 48 - 1)).flag 28 (bitAt da 40)
    p.put 368 16 r.1
  | 2 =>
    let r := rd p 0 4
    let p := r.2
    let p := if p.vlans = 0 then p.put 400 16 (r.1 / 65536) else if p.vlans = 1 then p.put 384 16 (r.1 / 65536) else p
    let p := p.flag (if p.vlans = 0 then 5 else if p.vlans = 1 then 6 else 7) true
    { p.put 368 16 r.1 with vlans := p.vlans + 1 }
  | 3 => let r := rd p 2 2; (r.2.put 352 16 r.1).flag 8 true
  | 4 => let r := rd p 0 3; (if p.seen 4 then r.2 else r.2.put 232 20 (r.1 / 16)).flag 9 true
  | 5 =>
    let r := rd p 0 20
    let f (i n : Nat) : Nat := bitsAt r.1 ((20 - i - n) * 8) (8 * n)
    r.2.ip false o (f 12 4) (f 16 4) (f 9 1) (f 1 1) (f 8 1)
  | 6 =>
    let r := rd p 0 40
    let f (i n : Nat) : Nat := bitsAt r.1 ((40 - i - n) * 8) (8 * n)
    let q := if p.seen 6 then r.2 else r.2.put 252 20 (f 0 4)
    q.ip true o (f 8 16) (f 24 16) (f 6 1) (f 0 4 / 2 ^ 20) (f 7 1)
  | 9 => let r := rd p 0 4; r.2.l4 9 o (r.1 / 65536) (r.1 % 65536)
  | 10 => let r := rd p 0 14; (r.2.l4 10 o (r.1 / 2 ^ 96) (r.1 / 2 ^ 80 % 65536)).put 224 8 r.1
  | 11 => let r := rd p 0 2; r.2.l4 11 o r.1 0
  | 12 => p.flag 4 true
  | 13 =>
    let r := rd p 14 4
    let t := rd r.2 24 4
    ((t.2.put 960 128 r.1).put 832 128 t.1).flag 10 true
  | _ => p

/-- The extractors of a node (R129). -/
def Parse.extract (p : Parse) (b : Bytes) (n : Gnode) (o : Nat) : Parse :=
  let p := if !n.x0En then p
    else
      let r := p.readBits b (o + n.x0Off) (n.x0Bits + 1)
      if n.cls = 12 then r.2.put 272 32 r.1 else r.2.put (1088 + n.x0Dest) (n.x0Bits + 1) r.1
  if !n.x1En then p
  else
    let r := p.readBits b (o + n.x1Off) (n.x1Bits + 1)
    r.2.put (1088 + n.x1Dest) (n.x1Bits + 1) r.1

/-- Count a header and note its place, its extractors and its GRAPH_FLAGS. -/
def Parse.commit (p : Parse) (b : Bytes) (n : Gnode) (len : Nat) (counted : Bool) : Parse :=
  let o := p.bytes
  let p := (p.fields b n.cls o).extract b n o
  let p := { p with flags := p.flags ||| n.gflags * 2 ^ 40 }
  if counted then
    { p with headers := p.headers ++ [{ cls := n.cls, start := o, length := len }], count := p.count + 1, bytes := o + len }
  else p

/-- A move to a further node (R133). -/
def Parse.move (p : Parse) (g : Graph) (next : Nat) : Parse :=
  if p.stopped || next = 0x3FF then p
  else p.reasonIf (24 ≤ p.count || 512 ≤ p.bytes) g 8 next

/-- The next node of a committed header at offset `o` (R129, R138). The entries are read up to the one that matches. -/
def Parse.choose (p : Parse) (g : Graph) (extra : Nat) (b : Bytes) (n : Gnode) (id o : Nat) : Nat × Parse :=
  let sel := if n.selWidth = 0 then (0, p) else p.readBits b (o + n.selOff) n.selWidth
  let p := sel.2
  if n.selWidth = 0 then (n.next, p.reasonIf (n.act = 1) g 4 id)
  else if g.isDefault && (n.cls = 1 || n.cls = 2) && extra ≠ 0 && sel.1 = extra then (1, p)
  else
    let l := (g.transitions.drop n.base).take n.count
    let found := l.findIdx? (fun t => sel.1 &&& t.mask.toNat == t.value.toNat)
    match (upFrom n.base (match found with | some i => i + 1 | none => l.length)).find? (fun i => p.bad.contains (3 * i + 1)) with
    | some i => (0x3FF, p.faulted (3 * i + 1))
    | none =>
      match found.bind (fun i => l[i]?) with
      | some t => (t.next, p)
      | none => (n.next, p.reasonIf (n.act = 1) g 4 id)

/-- The checks of an IP header before its fields are taken, in the order of R134. True in the second place when the
parse ends at a malformed header; true in the third when it ends after a fragment. -/
def Parse.ipChecks (p : Parse) (g : Graph) (b : Bytes) (cls o id : Nat) : Parse × Bool × Bool :=
  match cls with
  | 5 =>
    let r := p.read b o 8
    let ihl := bitsAt r.1 56 4
    let bad := bitsAt r.1 60 4 ≠ 4 || ihl < 5 || bitsAt r.1 32 16 < ihl * 4
    let p := r.2.reasonIf bad g 7 id
    if bad then (p, true, false)
    else
      let off := bitsAt r.1 0 13
      let frag := bitAt r.1 13 || off ≠ 0
      let p := if frag && !p.stopped then p.flag 16 (off = 0) else p
      let p := p.reasonIf frag g 1 id
      let p := if off ≠ 0 then p.flag 14 false else p
      (p.reasonIf (5 < ihl) g 2 id, false, off ≠ 0)
  | 6 =>
    let r := p.read b o 8
    let bad := bitsAt r.1 60 4 ≠ 6
    let p := r.2.reasonIf bad g 7 id
    if bad then (p, true, false) else (p.reasonIf (bitsAt r.1 8 8 = 0) g 3 id, false, false)
  | 8 =>
    let r := p.read b o 4
    let off := bitsAt r.1 3 13
    let p := (r.2.flag 16 (off = 0)).reason g 1 id
    (if off ≠ 0 then p.flag 14 false else p, false, off ≠ 0)
  | _ => (p, false, false)

/-- Visit a node at the end of the headers parsed so far: the next node. A header whose node then raises UNKNOWN_HEADER is complete: it
keeps its fields and is counted, whatever the disposition; it is not "the header in progress" of R134 (DEDUCED, log entry 131). -/
def Parse.visit (p : Parse) (g : Graph) (store : List (BitVec 128)) (extra : Nat) (b : Bytes) (id : Nat) : Nat × Parse :=
  let o := p.bytes
  let word : Nat × Parse := match g.nodes[id]? with
    | some w => (w.toNat, p)
    | none => ((Config.freeValue p.ix).toNat + (Config.freeValue (p.ix + 1)).toNat * 2 ^ 64 +
        (Config.freeValue (p.ix + 2)).toNat * 2 ^ 128 + (Config.freeValue (p.ix + 3)).toNat * 2 ^ 192, { p with ix := p.ix + 4 })
  let n := Gnode.ofWord word.1
  let p := word.2
  if p.bad.contains (3 * id) then (0x3FF, p.faulted (3 * id)) else
  let stop (p : Parse) (q : Parse) : Parse :=
    { p with slow := q.slow, drop := q.drop, endNode := q.endNode, reasons := q.reasons, flags := q.flags, stopped := true,
             words := q.words, ix := q.ix }
  if n.lenMode = 2 then
    let c := custRun 64 store b o n.entry none p
    match c.1 with
    | .limit => (0x3FF, stop p ({ c.2 with flags := p.flags }.reason g 10 id))
    | .fault w => (0x3FF, { p with words := c.2.words, ix := c.2.ix }.faulted (3 * w + 2))
    | .slowPath => (0x3FF, stop p ({ c.2 with flags := p.flags }.reason g 9 id))
    | .node m len =>
      let l := len.getD 0
      let q := (c.2.reasonIf (b.length < o + l) g 5 id)
      if b.length < o + l then (0x3FF, stop p { q with endNode := id })
      else
        let q := q.reasonIf (512 < o + l) g 8 id
        if q.stopped then (0x3FF, stop p q)
        else
          let q := q.commit b { n with cls := 0 } l len.isSome
          let m := if 1023 ≤ m then 0x3FF else m
          let q := q.move g m
          (if q.stopped then 0x3FF else m, q)
  else
    let lenField := if n.lenMode = 1 then p.read b (o + n.lenOff) 2 else (0, p)
    let len := if n.lenMode = 1 then (lenField.1 / 2 ^ n.lenShift &&& n.lenMask) * 2 ^ n.lenScale + n.lenAdd else n.lenAdd
    let p := lenField.2
    let cut := b.length < o + len || (n.lenMode = 1 && b.length < o + n.lenOff + 2) ||
      (n.selWidth ≠ 0 && b.length < o + (n.selOff * 8 + n.selWidth + 7) / 8)
    let q := p.reasonIf cut g 5 id
    if cut then (0x3FF, stop p { q with endNode := id })
    else
      let q := q.reasonIf (512 < o + len) g 8 id
      let c := if q.stopped then (q, false, false) else q.ipChecks g b n.cls o id
      let q := c.1
      if c.2.1 then (0x3FF, stop p { q with endNode := id })
      else if q.stopped then (0x3FF, stop p q)
      else
        let q := q.commit b n len true
        if c.2.2 then (0x3FF, { q with stopped := true }.flag 14 false)
        else
          let x := q.choose g extra b n id o
          if x.2.stopped then (0x3FF, x.2)
          else
            let q := x.2.move g x.1
            (if q.stopped then 0x3FF else x.1, q)

/-- Walk the graph; at most 24 counted headers and 256 customer words are met, so `fuel` never runs out. -/
def Parse.walk (fuel : Nat) (p : Parse) (g : Graph) (store : List (BitVec 128)) (extra : Nat) (b : Bytes) (id : Nat) : Parse :=
  match fuel with
  | 0 => p
  | k + 1 =>
    if id = 0x3FF || p.stopped then p
    else
      let r := p.visit g store extra b id
      r.2.walk k g store extra b r.1

/-- Parse the bytes before the FCS from a start node. -/
def parsePacket (g : Graph) (store : List (BitVec 128)) (extra : Nat) (b : Bytes) (start ix : Nat) (bad : List Nat) : Parse :=
  (Parse.start ix bad).walk 300 g store extra b start

/-- The key vector that a parse forms, with the packet's own fields. -/
def Parse.vector (p : Parse) (port pass ruleBank recirc : Nat) : Nat :=
  let p := p.flag 26 (p.slow ≠ 0)
  let p := p.flag 29 (0 < pass)
  (((((((((p.put 144 48 p.flags).put 120 8 port).put 118 2 pass).put 117 1 ruleBank).put 106 6 p.count).put 96 10 p.bytes).put
    64 32 recirc).put 24 8 p.slow).put 14 10 p.endNode).key

/-- Offset of the first IP header, or 0x1FF (Table 9-2). -/
def Parse.ipOffset (p : Parse) : Nat :=
  match p.headers.find? (fun h => h.cls = 5 || h.cls = 6) with
  | some h => h.start
  | none => 0x1FF

/-! ### The default graph (R138, R453) -/

def blankNode : Gnode := Gnode.ofWord 0

/-- A node that selects on 16 bits at an offset. -/
def nodeOn (cls len off width base count : Nat) : Gnode :=
  { blankNode with cls := cls, lenAdd := len, selOff := off, selWidth := width, base := base, count := count, next := 0x3FF }

/-- Transitions of the default graph, in blocks: Ethernet types, PPP protocols, MPLS, IPv4 protocols, IPv6 next
headers, UDP ports, GRE flags and GRE types. -/
def defaultTransitions : List Transition :=
  let t (v m n : Nat) : Transition := { value := BitVec.ofNat 32 v, mask := BitVec.ofNat 32 m, next := n }
  -- 0–6: Ethernet types
  [t 0x8100 0xFFFF 1, t 0x88A8 0xFFFF 1, t 0x8864 0xFFFF 2, t 0x8847 0xFFFF 3, t 0x0800 0xFFFF 4, t 0x86DD 0xFFFF 5,
   t 0x0806 0xFFFF 14,
   -- 7–8: PPP protocols
   t 0x0021 0xFFFF 4, t 0x0057 0xFFFF 5,
   -- 9–11: MPLS: bottom bit, then the first nibble after the label
   t 0 0x010000 3, t 0x010040 0x0100F0 4, t 0x010060 0x0100F0 5,
   -- 12–15: IPv4 protocols
   t 17 0xFF 10, t 6 0xFF 11, t 1 0xFF 12, t 47 0xFF 16] ++
  -- 16–23: IPv6 next headers
  [t 0 0xFF 6, t 43 0xFF 7, t 60 0xFF 8, t 44 0xFF 9, t 17 0xFF 10, t 6 0xFF 11, t 58 0xFF 13, t 47 0xFF 16,
   -- 24: VXLAN
   t 4789 0xFFFF 15,
   -- 25–26: GRE: version 0 without checksum or sequence, without and with key
   t 0 0xB007 17, t 0x2000 0xB007 18,
   -- 27–29: GRE types
   t 0x0800 0xFFFF 4, t 0x86DD 0xFFFF 5, t 0x6558 0xFFFF 19]

def defaultNodes : List Gnode :=
  let ext : Gnode := { nodeOn 7 8 0 8 16 8 with lenMode := 1, lenOff := 0, lenShift := 0, lenMask := 0xFF, lenScale := 3 }
  [nodeOn 1 14 12 16 0 7, nodeOn 2 4 2 16 0 7, nodeOn 3 8 6 16 7 2, nodeOn 4 4 2 24 9 3,
   { nodeOn 5 0 9 8 12 4 with lenMode := 1, lenOff := 0, lenShift := 8, lenMask := 0xF, lenScale := 2 },
   nodeOn 6 40 6 8 16 8, ext, ext, ext, nodeOn 8 8 0 8 16 8,
   nodeOn 9 8 2 16 24 1,
   { nodeOn 10 0 0 0 0 0 with lenMode := 1, lenOff := 12, lenShift := 12, lenMask := 0xF, lenScale := 2 },
   nodeOn 11 4 0 0 0 0, nodeOn 11 4 0 0 0 0, nodeOn 13 28 0 0 0 0,
   { nodeOn 12 8 0 0 0 0 with next := 19, x0En := true, x0Off := 4, x0Bits := 23 },
   nodeOn 0 0 0 16 25 2, nodeOn 12 4 2 16 27 3,
   { nodeOn 12 8 2 16 27 3 with x0En := true, x0Off := 4, x0Bits := 31 },
   nodeOn 1 14 12 16 0 7]

/-- The default dispositions of reasons 1–7 (Table 6-6). -/
def defaultDispositions : List Nat := [0, 0, 0, 1, 2, 0, 2]

def Graph.default : Graph :=
  { nodes := defaultNodes.map (fun n => BitVec.ofNat 256 n.word), transitions := defaultTransitions,
    starts := List.replicate 128 0, recircStart := 0, dispositions := defaultDispositions, isDefault := true }

/-! ### The payload matcher (R143–R145) -/

def lowerByte (b : Byte) : Byte := if 65 ≤ b.toNat && b.toNat ≤ 90 then b + 32 else b

/-- The pattern stands at the front of these bytes. -/
def Pattern.here (p : Pattern) (b : Bytes) : Bool :=
  let f (l : Bytes) : Bytes := if p.nocase then l.map lowerByte else l
  f (b.take p.bytes.length) == f p.bytes

/-- The offset just after the earliest occurrence. -/
def Pattern.findFrom (p : Pattern) (i : Nat) (b : Bytes) : Option Nat :=
  if p.here b then some (i + p.bytes.length)
  else match b with | [] => none | _ :: r => p.findFrom (i + 1) r

def Pattern.find (p : Pattern) (b : Bytes) : Option Nat :=
  match p.anchor with
  | some a => if a ≤ b.length && p.here (b.drop a) then some (a + p.bytes.length) else none
  | none => p.findFrom 0 b

/-- Inspection depth of a match gear. -/
def matchDepth (g : Nat) : Nat := if g = 1 then 512 else if g = 2 then 2048 else 4096

/-- MATCH_RESULT for an inspected payload (Table 6-8). -/
def matchResult (ps : List Pattern) (payload : Bytes) (depth : Nat) : Nat :=
  let b := payload.take depth
  let hits := (List.range ps.length).filterMap (fun i => match ps[i]? with
    | some p => (p.find b).map (fun e => (e, i, p.cls)) | none => none)
  let classes := hits.foldl (fun m h => m ||| 2 ^ h.2.2) 0
  let first := match minBy (fun (h : Nat × Nat × Nat) => h.1 * 16384 + h.2.1) hits with | some h => h.2.1 | none => 0
  classes * 65536 + first * 4 + bit (decide (depth < payload.length)) * 2 + 1

end Sys2Proof.Machine
end

