-- ==== Sys2Proof/Machine/TableOps.lean ====
section
/-! DEFINITION. The exact-match and route memories and their table engine: descriptors, hashing, search, placement,
relocation, statistics pairs, learning, notification records, routes, parity and the long routines (chapter 07). -/
namespace Sys2Proof.Machine
open Sys2Proof

/-! ### Descriptors (R151, Table 7-1) -/

def State.emDesc (s : State) (t : Nat) : Nat := (tget s.tables.descs { desc := 0 } t).desc.toNat
def descValid (d : Nat) : Bool := bitAt d 255
def descWidth (d : Nat) : Nat := bitsAt d 253 2
def descOwner (d : Nat) : Nat := bitsAt d 245 8
def descMissProgram (d : Nat) : Nat := bitsAt d 232 8
def descMissArg (d : Nat) : Nat := bitsAt d 184 48
def descSegCount (d : Nat) : Nat := bitsAt d 180 4
/-- START and length of segment `i`. -/
def descSeg (d i : Nat) : Nat × Nat := (bitsAt d (149 - 20 * i) 11, bitsAt d (140 - 20 * i) 9 + 1)
def descSegs (d : Nat) : List (Nat × Nat) := (List.range (descSegCount d)).map (descSeg d)
def descKeyLen (d : Nat) : Nat := (descSegs d).foldl (fun n g => n + g.2) 0

/-- Slots of an entry, key bits and bytes, and action bits, by WIDTH (Table 7-2). -/
def widthSlots (w : Nat) : Nat := 2 ^ w
def widthKeyBits (w : Nat) : Nat := if w = 0 then 62 else if w = 1 then 176 else 384
def widthKeyBytes (w : Nat) : Nat := if w = 0 then 8 else if w = 1 then 22 else 48
def widthActBits (w : Nat) : Nat := if w = 0 then 50 else if w = 1 then 64 else 112

/-- The key of a table from a key vector: its segments, the first most significant (R152). -/
def descKey (d v : Nat) : Nat := (descSegs d).foldl (fun k g => k * 2 ^ g.2 + bitsAt v g.1 g.2) 0

/-- The width of a table's entries. -/
def State.emWidth (s : State) (t : Nat) : Nat := descWidth (s.emDesc t)

/-- Fields of an action word of `a` bits. -/
def actProgram (a w : Nat) : Nat := bitsAt w (a - 8) 8
def actCount (a w : Nat) : Bool := bitAt w (a - 9)
def actStat (a w : Nat) : Nat := bitsAt w (a - 29) 20
def actArg (a w : Nat) : Nat := bitsAt w 0 (a - 29)
def actMake (a program arg : Nat) : Nat := program * 2 ^ (a - 8) + arg % 2 ^ (a - 29)

/-- Action bits of an entry's table. -/
def State.entryActBits (s : State) (e : EmEntry) : Nat := widthActBits (s.emWidth e.table)
def State.entrySlots (s : State) (e : EmEntry) : Nat := widthSlots (s.emWidth e.table)
def State.entryCounts (s : State) (e : EmEntry) : Bool := actCount (s.entryActBits e) e.action.toNat
def State.entryStat (s : State) (e : EmEntry) : Nat := actStat (s.entryActBits e) e.action.toNat

/-! ### Hashing (R156) -/

def crcByte (fuel : Nat) (r : Nat) : Nat :=
  match fuel with
  | 0 => r
  | k + 1 => crcByte k (if r % 2 = 1 then (r / 2) ^^^ 0x82F63B78 else r / 2)

/-- CRC-32C as R156 defines it: no final inversion. -/
def crc32c (init : Nat) (b : Bytes) : Nat := b.foldl (fun r x => crcByte 8 (r ^^^ x.toNat)) init

/-- Bank and bucket of a hash, for the quarters of a gear. -/
def bucketOf (h quarters : Nat) : Nat × Nat :=
  let q := bitsAt h 11 2
  let q := if quarters ≤ q then bitsAt h 13 12 % quarters else q
  (bitsAt h 25 7, q * 2048 + bitsAt h 0 11)

/-- Index of the first slot of a bucket (R155). -/
def bucketIndex (b : Nat × Nat) : Nat := (b.1 * 8192 + b.2) * 4
def overflowBase : Nat := 0x400000
def indexBank (i : Nat) : Nat := i / 32768

/-- The two candidate buckets of a key, as the indices of their first slots. -/
def State.candidates (s : State) (t key quarters : Nat) : Nat × Nat :=
  let bytes := BitVec.ofNat 8 t :: leBytes (widthKeyBytes (s.emWidth t)) key
  let b0 := bucketOf (crc32c s.te.seed0.toNat bytes) quarters
  let b1 := bucketOf (crc32c s.te.seed1.toNat bytes) quarters
  let b1 := if b1.1 = b0.1 then (b0.1 ^^^ 0x40, b1.2) else b1
  (bucketIndex b0, bucketIndex b1)

/-- Quarters of the current gear, and of the gear that placements use: the target's while a table gear change runs. -/
def State.quarters (s : State) : Nat := 5 - s.gears.table
def State.tableChange (s : State) : Option Nat :=
  match s.gears.change with | some c => if c.domain = 1 then some c.target else none | none => none
def State.placeQuarters (s : State) : Nat := match s.tableChange with | some g => 5 - g | none => s.quarters

/-- The geometries whose candidates a search reads: the current one first, and those under which a gear change, in
progress or rolled back, has left entries (R70, R166). -/
def State.geometries (s : State) : List Nat := s.quarters :: [4, 3, 2, 1].filter (· != s.quarters)

/-! ### Positions -/

def State.entryAt (s : State) (i : Nat) : Option EmEntry := tget s.tables.entries none i

/-- The entry that covers slot or unit `i`, with its index. -/
def State.covering (s : State) (i : Nat) : Option (Nat × EmEntry) :=
  firstSome ([i, i - i % 2, i - i % 4].map (fun j =>
    match s.entryAt j with
    | some e => if i < j + s.entrySlots e then some (j, e) else none
    | none => none))

/-- Entries that cover any of `n` slots from `i`. -/
def State.overlapping (s : State) (i n : Nat) : List (Nat × EmEntry) :=
  ((upFrom i n).filterMap s.covering).eraseDups

/-- A fenced bank takes no entry and answers no search. -/
def State.bankDead (s : State) (i : Nat) : Bool := i < overflowBase && s.isFenced 5 (indexBank i)

/-- The lowest free aligned position of `n` slots in the bucket at `b` that keeps clear of `m` slots from `i`. -/
def State.freeBeside (s : State) (b n i m : Nat) : Option Nat :=
  if s.bankDead b then none
  else ((List.range (4 / n)).map (fun k => b + k * n)).find? (fun d => (s.overlapping d n).isEmpty && (i + m ≤ d || d + n ≤ i))

/-- The lowest free aligned position of `n` slots in the bucket at `b`. -/
def State.freeInBucket (s : State) (b n : Nat) : Option Nat := s.freeBeside b n b 0

/-- The lowest free aligned position of `n` units in the overflow store, from unit `u`. -/
def State.freeInOverflow (fuel : Nat) (s : State) (u n : Nat) : Option Nat :=
  match fuel with
  | 0 => none
  | k + 1 =>
    if 65536 ≤ u then none
    else if (s.overlapping (overflowBase + u) n).isEmpty then some (overflowBase + u)
    else s.freeInOverflow k (u + n) n

/-- The other candidate bucket of an entry that sits in the bucket at `b`. -/
def State.otherBucket (s : State) (e : EmEntry) (b quarters : Nat) : Option Nat :=
  let c := s.candidates e.table e.key.toNat quarters
  if c.1 = b then some c.2 else if c.2 = b then some c.1 else none

/-- An entry that placement may relocate: none with bad parity, which a search does not find (DESIGN CHOICE, log entry 125), and no
copy of a move in progress. -/
def EmEntry.movable (e : EmEntry) : Bool := e.parityOk && e.twin.isNone

/-- The one movable entry that covers the position of `n` slots at `i`. -/
def State.soleEntry (s : State) (i n : Nat) : Option (Nat × EmEntry) :=
  match s.overlapping i n with
  | [(j, e)] => if e.movable then some (j, e) else none
  | _ => none

/-- A way of one move that frees the position at `i`: source and destination. -/
def State.oneMove (s : State) (b i n quarters : Nat) : Option (List (Nat × Nat)) :=
  match s.soleEntry i n with
  | none => none
  | some (j, e) =>
    match s.otherBucket e b quarters with
    | none => none
    | some o => (s.freeInBucket o (s.entrySlots e)).map (fun d => [(j, d)])

/-- A way of two moves that frees the position at `i`, the far one first. -/
def State.twoMoves (s : State) (b i n quarters : Nat) : Option (List (Nat × Nat)) :=
  match s.soleEntry i n with
  | none => none
  | some (j, e) =>
    match s.otherBucket e b quarters with
    | none => none
    | some o =>
      if s.bankDead o then none
      else
        let m := s.entrySlots e
        firstSome ((List.range (4 / m)).map (fun k =>
          let p := o + k * m
          match s.soleEntry p m with
          | none => none
          | some (j2, f) =>
            match s.otherBucket f o quarters with
            | none => none
            | some o2 =>
              (s.freeBeside o2 (s.entrySlots f) i n).map (fun d => [(j2, d), (j, p)])))

/-- The way in which R158's option 2 frees a position of `n` slots, with the position. -/
def State.relocationWay (s : State) (c0 c1 n quarters : Nat) : Option (Nat × List (Nat × Nat)) :=
  let try_ (way : Nat → Nat → Option (List (Nat × Nat))) : Option (Nat × List (Nat × Nat)) :=
    firstSome ([c0, c1].flatMap (fun b =>
      if s.bankDead b then []
      else (List.range (4 / n)).map (fun k => (way b (b + k * n)).map (fun w => (b + k * n, w)))))
  match try_ (fun b i => s.oneMove b i n quarters) with
  | some w => some w
  | none => try_ (fun b i => s.twoMoves b i n quarters)

/-! ### The shadow of the exact-match memory (R180, Table 7-9) -/

/-- An entry as its slots hold it, in the layout of Table 7-2, with HIT = 0: HIT is not shadowed. -/
def State.entryWord (s : State) (e : EmEntry) : Nat :=
  let w := s.emWidth e.table
  (2 ^ 15 + bit e.static * 2 ^ 13 + bit e.learned * 2 ^ 12 + e.gen.toNat * 256 + e.table) * 2 ^ (128 * widthSlots w - 16) +
    e.key.toNat * 2 ^ widthActBits w + e.action.toNat

/-- Where the shadow holds a slot or a unit: its bytes lie in the order of their significance, lowest first (log entry 52). -/
def State.shadowAddr (s : State) (i : Nat) : Nat :=
  s.te.shadowBase + (if i < overflowBase then 16 * i else 0x05400000 + 16 * (i - overflowBase))

/-- What the shadow holds for an entry, or for its slots when they are free. -/
def State.shadowImage (s : State) (slots : Nat) (e : Option EmEntry) : Bytes :=
  leBytes (16 * slots) (match e with | some x => s.entryWord x | none => 0)

/-- A change of a position is written to the shadow before it is committed. -/
def State.shadowWrite (s : State) (i : Nat) (e : Option EmEntry) : State :=
  if s.te.shadowBase = 0 then s
  else
    let old := s.entryAt i
    let n := match e, old with | some x, _ => s.entrySlots x | none, some x => s.entrySlots x | none, none => 1
    if s.shadowImage n e = s.shadowImage n old then s else s.dmaWrite (s.shadowAddr i) (s.shadowImage n e)

/-- The first copy: every position that holds an entry. -/
def State.shadowCopy (s : State) : State :=
  if s.te.shadowBase = 0 then s
  else forAll (tsome s.tables.entries) s (fun p s => s.dmaWrite (s.shadowAddr p.1) (s.shadowImage (s.entrySlots p.2) (some p.2)))

/-- The shadow's bytes of an entry, when the device has written them. -/
def State.shadowBytes (s : State) (i n : Nat) : Option Bytes := memGet s.host.mem (s.shadowAddr i) (16 * n)

def State.setEntry (s : State) (i : Nat) (e : Option EmEntry) : State :=
  let s := s.shadowWrite i e
  { s with tables := { s.tables with entries := tset s.tables.entries none i e } }
def State.posGen (s : State) (i : Nat) : BitVec 4 := tget s.tables.gens 0 i
def State.setPosGen (s : State) (i : Nat) (g : BitVec 4) : State :=
  { s with tables := { s.tables with gens := tset s.tables.gens 0 i g } }

/-- The `n` slots from `i` are written with a new key, or freed: the generation of each advances (R74). -/
def State.gensAdvance (s : State) (i n : Nat) : State := forAll (upFrom i n) s (fun k s => s.setPosGen k (s.posGen k + 1))

/-- A relocation copies the generations of the slots (R74). -/
def State.gensCopy (s : State) (i d n : Nat) : State := forAll (List.range n) s (fun k s => s.setPosGen (d + k) (s.posGen (i + k)))

/-! ### Statistics pairs (R164) -/

def State.pair (s : State) (p : Nat) : StatPair := tget s.tables.pairs StatPair.zero p
def State.setPair (s : State) (p : Nat) (x : StatPair) : State :=
  { s with tables := { s.tables with pairs := tset s.tables.pairs StatPair.zero p x } }

/-- A statistics pair's word is read and written: a bad one has both counts set to 0; its binding and GEN are kept (R377). -/
def State.pairRead (s : State) (p : Nat) : State :=
  let q := s.touchWord (.pair p)
  if q.1 then q.2.setPair p { q.2.pair p with packets := 0, bytes := 0 } else q.2

/-- An update that reaches no pair is credited to the stale counter of its owner. -/
def State.creditStale (s : State) (n : Nat) : State := s.setTe { s.te with stale := cbump s.te.stale n 1 }

/-- Updates under way for a pair arrive before the pair is bound again: the 4 µs of R164. -/
def State.drainPair (s : State) (p : Nat) : State :=
  let late := s.te.stats.filter (fun u => u.pair == p)
  let s := s.setTe { s.te with stats := s.te.stats.filter (fun u => u.pair != p) }
  forAll late s (fun u s => s.creditStale u.slice)

def State.bindPair (s : State) (p : Nat) (h : StatHolder) (gen : Nat) : State :=
  let x := s.pair p
  if x.holder = some h then s.setPair p { x with gen := BitVec.ofNat 8 gen }
  else
    let s := s.drainPair p
    s.setPair p { s.pair p with holder := some h, gen := BitVec.ofNat 8 gen }

def State.unbindPair (s : State) (p : Nat) : State :=
  s.setPair p { s.pair p with holder := none, gen := 0 }

/-- DETAIL that names the holder of a pair (R161). -/
def StatHolder.detail (h : StatHolder) : Nat := match h with | .em i => i | .rule n => 2 ^ 31 + n

/-- The pair is bound to another holder than this one. -/
def State.pairTaken (s : State) (p : Nat) (own : Option StatHolder) : Option StatHolder :=
  match (s.pair p).holder with
  | some h => if own = some h then none else some h
  | none => none

/-! ### Moves (R166) -/

/-- Copy an entry to a destination: both copies are valid. -/
def State.copyEntry (s : State) (i d : Nat) : State :=
  match s.entryAt i with
  | none => s
  | some e =>
    let s := (s.setEntry d (some { e with twin := some i })).setEntry i (some { e with twin := some d })
    s.gensCopy i d (s.entrySlots e)

/-- Invalidate the source of a move; a hit taken in between goes into the copy. -/
def State.dropSource (s : State) (i d : Nat) : State :=
  match s.entryAt i, s.entryAt d with
  | some e, some f =>
    let s := (s.setEntry i none).setEntry d (some { f with hit := f.hit || e.hit, twin := none })
    if s.entryCounts f then
      let x := s.pair (s.entryStat f)
      if x.holder = some (.em i) then s.setPair (s.entryStat f) { x with holder := some (.em d) } else s
    else s
  | _, _ => s

/-- Both halves of a relocation, counted. -/
def State.moveEntry (s : State) (i d : Nat) : State := ((s.copyEntry i d).dropSource i d).teCount 8

/-- The open half of a relocation commits, when a request must wait for it (R167). -/
def State.finishMove (s : State) (i : Nat) : State :=
  match s.entryAt i with
  | none => s
  | some e =>
    match e.twin with
    | none => s
    | some _ =>
      match s.te.running with
      | none => s
      | some r =>
        match r.target with
        | some src =>
          let s := (s.dropSource src r.dest).teCount 8
          s.setTe { s.te with running := some { r with step := r.step + 1, target := none } }
        | none => s

/-! ### Placement (R158) -/

/-- A free position for an entry of `n` slots, with the state after the relocations that make it. -/
def State.findPlace (s : State) (t key n : Nat) : Option (Nat × State) :=
  let q := s.placeQuarters
  let c := s.candidates t key q
  match firstSome [s.freeInBucket c.1 n, s.freeInBucket c.2 n] with
  | some i => some (i, s)
  | none =>
    match s.relocationWay c.1 c.2 n q with
    | some (i, w) => some (i, w.foldl (fun (x : State) (m : Nat × Nat) => x.moveEntry m.1 m.2) s)
    | none => (s.freeInOverflow 65536 0 n).map (fun i => (i, s))

/-- Place a new entry: its index, with its generation advanced (R74) and its pair bound. -/
def State.placeEntry (s : State) (e : EmEntry) : Option (Nat × State) :=
  match s.findPlace e.table e.key.toNat (s.entrySlots e) with
  | none => none
  | some (i, s) =>
    let g := s.posGen i + 1
    let s := (s.gensAdvance i (s.entrySlots e)).setEntry i (some { e with gen := g, changed := s.now })
    let s := if s.entryCounts e then s.bindPair (s.entryStat e) (.em i) g.toNat else s
    some (i, if overflowBase ≤ i then s.teCount 9 else s)

/-- Remove the entry at an index: VALID clears, GEN advances and its pair is unbound. -/
def State.removeEntry (s : State) (i : Nat) : State :=
  match s.entryAt i with
  | none => s
  | some e =>
    let s := (s.setEntry i none).gensAdvance i (s.entrySlots e)
    if s.entryCounts e then s.unbindPair (s.entryStat e) else s

/-! ### Search (R157) -/

/-- Positions of entries of `n` slots in the bucket at `b`. -/
def bucketPositions (b n : Nat) : List Nat := (List.range (4 / n)).map (fun k => b + k * n)

/-- The entry at a position answers a search. -/
def State.matches (s : State) (t key i : Nat) : Bool :=
  match s.entryAt i with
  | some e => e.table == t && e.key.toNat == key && e.parityOk && !s.bankDead i
  | none => false

/-- Overflow units that hold entries, ascending. -/
def State.overflowKeys (s : State) : List Nat := (tkeys s.tables.entries).filter (overflowBase ≤ ·)

/-- The index that a search of a table for a key returns. -/
def State.emSearch (s : State) (t key : Nat) : Option Nat :=
  let n := widthSlots (s.emWidth t)
  let near (q : Nat) : List Nat :=
    let c := s.candidates t key q
    bucketPositions c.1 n ++ bucketPositions c.2 n
  (near s.quarters ++ (s.geometries.drop 1).flatMap near ++ s.overflowKeys).find? (s.matches t key)

/-- The positions that a search of a table for a key reads. -/
def State.searchReads (s : State) (t key : Nat) : List Nat :=
  s.geometries.flatMap (fun q => let c := s.candidates t key q; upFrom c.1 4 ++ upFrom c.2 4) ++ s.overflowKeys

/-- HIT of the entry at an index: bad parity in the hit array reads as 1 (R172). -/
def State.entryHit (s : State) (i : Nat) (e : EmEntry) : Bool := e.hit || s.te.badHits.contains i

/-- HIT of an entry is written, with its parity. -/
def State.setHit (s : State) (i : Nat) (e : EmEntry) (hit : Bool) : State :=
  let s := s.setEntry i (some { e with hit := hit })
  if s.te.badHits = [] then s else s.setTe { s.te with badHits := s.te.badHits.filter (· != i) }

/-- The 16 header bits of an entry (Table 7-2). -/
def EmEntry.header (e : EmEntry) : Nat :=
  2 ^ 15 + bit e.hit * 2 ^ 14 + bit e.static * 2 ^ 13 + bit e.learned * 2 ^ 12 + e.gen.toNat * 256 + e.table

/-! ### Shares and counts -/

/-- Slots and units that a table's owner holds. -/
def State.slotsOwned (s : State) (owner : Nat) : Nat :=
  (tsome s.tables.entries).foldl (fun n p =>
    if descOwner (s.emDesc p.2.table) == owner && !(match p.2.twin with | some j => j < p.1 | none => false)
    then n + s.entrySlots p.2 else n) 0

/-- The owner's share covers `n` more slots. -/
def State.slotShareOk (s : State) (owner n : Nat) : Bool :=
  128 ≤ owner || s.slotsOwned owner + n ≤ tget (s.slice owner).counts 0 (4 * 16)

/-- Entries of a table. -/
def State.entriesOf (s : State) (t : Nat) : List (Nat × EmEntry) := (tsome s.tables.entries).filter (fun p => p.2.table == t)
def State.learnedOf (s : State) (t : Nat) : Nat := ((s.entriesOf t).filter (fun p => p.2.learned && p.2.twin.isNone)).length +
  ((s.entriesOf t).filter (fun p => p.2.learned && p.2.twin.isSome)).length / 2
def State.learnedFrom (s : State) (t port : Nat) : Nat :=
  ((s.entriesOf t).filter (fun p => p.2.learned && p.2.port == port &&
    !(match p.2.twin with | some j => j < p.1 | none => false))).length

/-- A limit flag of R170: the table's or the port's limit is reached. -/
def State.limitReached (s : State) (t port : Nat) : Bool :=
  let c := s.learnCfg t
  (c.tableLimit ≠ 0 && c.tableLimit ≤ s.learnedOf t) || (c.portLimit ≠ 0 && c.portLimit ≤ s.learnedFrom t port)

/-! ### Notification records (R171) -/

/-- The slice and generation that a table's notifications carry; none for the manager's. -/
def State.learnTag (s : State) (t : Nat) : Option (Nat × BitVec 16) :=
  let o := descOwner (s.emDesc t)
  if o < 128 then some (o, (s.slice o).gen) else none

/-- The interrupt of a notification ring, at most once per 10 µs. -/
def State.notifyInt (s : State) (t : Nat) : State :=
  let c := s.learnCfg t
  if 2048 ≤ c.vector then s
  else
    match c.lastInt with
    | some l =>
      if s.now < l + 10000 then s.setLearn t { c with intPending := true }
      else (s.setLearn t { c with lastInt := some s.now, intPending := false }).vectorRaise c.vector (s.learnTag t)
    | none => (s.setLearn t { c with lastInt := some s.now, intPending := false }).vectorRaise c.vector (s.learnTag t)

/-- Write a record of Table 7-7 on a table's ring. -/
def State.notify (s : State) (t kind port index value key : Nat) : State :=
  let c := s.learnCfg t
  let on : Bool := match kind with
    | 1 => c.flags.getLsbD 3
    | 2 => c.flags.getLsbD 5
    | 3 => c.flags.getLsbD 4
    | _ => true
  if c.ringBase = 0 || !on then s
  else
    let rec_ := leBytes 4 c.seq.toNat ++ leBytes 1 kind ++ leBytes 1 t ++ leBytes 1 port ++ leBytes 1 0 ++
      leBytes 4 index ++ leBytes 4 value ++ leBytes 8 key ++ leBytes 8 s.now
    ((s.dmaFor (descOwner (s.emDesc t)) (c.ringBase + c.seq.toNat % 2 ^ c.ringLog2 * 32) rec_).setLearn t { c with seq := c.seq + 1 }).notifyInt t

/-- The Captain's mirror message of a change (R411). -/
def State.mirrorSent (s : State) : State :=
  if s.tandem.role = .captain then
    { s with tandem := { s.tandem with serialOut := s.tandem.serialOut + 1, counters := cbump s.tandem.counters 5 1 } }
  else s

/-! ### Learning (R169, R170) -/

/-- A suppressed request; the first that a limit suppresses in a cycle writes a LIMIT record. -/
def State.suppress (s : State) (t port : Nat) (limit : Bool) : State :=
  let s := s.teCount 5
  if !limit then s
  else
    let c := s.learnCfg t
    let s := s.setLearn t { c with suppressed := c.suppressed + 1, limitWritten := true }
    if c.limitWritten then s else s.notify t 4 port 0xFFFFFFFF c.suppressedPrev 0

/-- Place a learned entry and write its record. -/
def State.learnPlace (s : State) (t key program arg port : Nat) : Option State :=
  let a := widthActBits (s.emWidth t)
  let e : EmEntry := { table := t, hit := false, static := false, learned := true, gen := 0, key := BitVec.ofNat 384 key,
                       action := BitVec.ofNat 112 (actMake a program arg), port := port, parityOk := true, twin := none, changed := 0 }
  match s.placeEntry e with
  | none => none
  | some (i, s) => some ((s.teCount 2).notify t 1 port i arg key)

/-- Move a learned entry: replace its ARG and port. -/
def State.learnMove (s : State) (i arg port : Nat) : State :=
  match s.entryAt i with
  | none => s
  | some e =>
    let a := s.entryActBits e
    let s := s.setEntry i (some { e with
      action := BitVec.ofNat 112 (actMake a (actProgram a e.action.toNat) arg), port := port, changed := s.now })
    (s.teCount 3).notify e.table 2 port i arg e.key.toNat

/-- The table engine handles one request (R169). -/
def State.learnHandle (s : State) (r : LearnRequest) : State :=
  let k := r.key.toNat
  let off := s.tandem.role = .stoker || s.tableChange.isSome
  if off || !descValid (s.emDesc r.table) then s.suppress r.table r.port false
  else
    let s := match s.emSearch r.table k with | some i => s.finishMove i | none => s
    match s.emSearch r.table k with
    | some i =>
      (match s.entryAt i with
       | some e => if r.move && e.learned && !e.static then (s.learnMove i r.value.toNat r.port).mirrorSent else s.teCount 4
       | none => s)
    | none =>
      let owner := descOwner (s.emDesc r.table)
      if s.limitReached r.table r.port then s.suppress r.table r.port true
      else if !s.slotShareOk owner (widthSlots (s.emWidth r.table)) then s.suppress r.table r.port false
      else match s.learnPlace r.table k (s.learnCfg r.table).program r.value.toNat r.port with
        | some s => s.mirrorSent
        | none => s.suppress r.table r.port false

/-- A pipe passes a candidate to the learn queue. -/
def State.learnSubmit (s : State) (r : LearnRequest) : State :=
  if 4096 ≤ s.te.learnQ.length then s.teCount 6 else s.setTe { s.te with learnQ := s.te.learnQ ++ [r] }

/-- An entry ages out (R173). -/
def State.ageOut (s : State) (i : Nat) : State :=
  match s.entryAt i with
  | none => s
  | some e => (((s.removeEntry i).teCount 7).notify e.table 3 0 i 0 e.key.toNat).mirrorSent

/-! ### Parity and repair (R178–R182) -/

/-- An event of the parity log. -/
def State.parityEvent (s : State) (address memory outcome : Nat) : State :=
  if 256 ≤ s.te.parityLog.length then s.setTe { s.te with parityDropped := true }
  else s.setTe { s.te with
    parityLog := s.te.parityLog ++ [{ address := address, memory := memory, outcome := outcome, time := s.now }] }

/-- The outcome of a logged event that was pending. -/
def State.parityOutcome (s : State) (address memory outcome : Nat) : State :=
  s.setTe { s.te with parityLog := s.te.parityLog.map (fun e =>
    if e.address = address && e.memory = memory && e.outcome % 4 = 2 then { e with outcome := e.outcome - 2 + outcome } else e) }

/-- A record of a distinct failing position of a unit within a window of time; true when `n` have failed. -/
def State.failureCount (s : State) (unit position window n : Nat) : Bool × State :=
  let l := s.te.failures.filter (fun f => f.1 != unit || decide (s.now < f.2.2 + window))
  let l := if l.any (fun f => f.1 == unit && f.2.1 == position) then l else l ++ [(unit, position, s.now)]
  (decide (n ≤ (l.filter (fun f => f.1 == unit)).length), s.setTe { s.te with failures := l })

/-- Queue a long routine of the table engine. -/
def State.queueRoutine (s : State) (id arg : Nat) (tables : List Nat) (mb : Option Nat) : State :=
  s.setTe { s.te with queued := s.te.queued ++
    [{ id := id, step := 0, arg := arg, tables := tables, mb := mb, target := none, dest := 0, bank := false }] }

/-- The armed parity injection (KIND 2 of R389) of a block names this position. -/
def State.parityArmed (s : State) (b memory address : Nat) : Bool :=
  tget (s.block b).armed none 2 == some (memory, address, 0)

/-- The block in which an injection of a kind is armed at an address. -/
def State.armedAt (s : State) (kind address : Nat) : Option Nat :=
  (s.blocks.find? (fun b => match tget b.2.armed none kind with | some a => a.2.1 == address | none => false)).map (·.1)

/-- A position that no noted failure of a unit has. -/
def State.failureNext (s : State) (unit : Nat) : Nat :=
  (s.te.failures.filter (fun f => f.1 == unit)).foldl (fun m f => max m (f.2.1 + 1)) 0

/-- A parity failure is found at a position of the table memories: counted, logged and put to repair. Banks with 64
failing positions in 1 s are fenced and evacuated (Table 14-7). -/
def State.parityFound (s : State) (memory address : Nat) (byShadow : Bool) : State :=
  if s.te.repairs.any (fun r => r.1 == address && r.2.1 == memory) then s
  else
    let inj := s.parityArmed swBlock memory address
    let s := if inj then s.disarm swBlock 2 else s
    let s := ((if byShadow then s else s.teCount 10).parityEvent address memory (2 + (if byShadow then 64 else 0)))
    let s := s.setTe { s.te with repairs := s.te.repairs ++ [(address, memory, inj)] }
    if memory ≠ 0 || s.bankDead address then s
    else
      let f := s.failureCount (5 * 256 + indexBank address) address 1000000000 64
      if f.1 then (f.2.unitFenced 5 (indexBank address) 4 inj 0xFF).queueRoutine 7 (indexBank address) [] none else f.2

/-- Memory number of an exact-match position (R181). -/
def memoryOf (i : Nat) : Nat := if i < overflowBase then 0 else 1

/-- Reading positions finds the bad ones among them. -/
def State.readPositions (s : State) (l : List Nat) : State :=
  forAll (l.filter (fun i => match s.entryAt i with | some e => !e.parityOk | none => false)) s
    (fun i s => s.parityFound (memoryOf i) i false)

/-- The lost entry of a position: deleted without AGE_OUT (R179), or reported LOST (R182). -/
def State.loseEntry (s : State) (i : Nat) (report : Bool) : State :=
  match s.entryAt i with
  | none => s.teCount 12
  | some e =>
    let s := (s.removeEntry i).teCount 12
    if report then (s.notify e.table 5 0 0xFFFFFFFF 0 e.key.toNat).mirrorSent else s

/-- The order in which routes are held: by VRF, family, length and prefix. -/
def Route.key (r : Route) : Nat := ((r.vrf * 2 + bit r.v6) * 129 + r.length) * 2 ^ 128 + r.prefix_.toNat

/-- The directory word under which a route lies: one for each family of each VRF (DESIGN CHOICE, log entry 116). -/
def Route.directory (r : Route) : Nat := r.vrf * 2 + bit r.v6

/-- Every word of the route memory at an address is good again. -/
def State.routeGood (s : State) (address : Nat) : State :=
  s.setTe { s.te with badKeys := s.te.badKeys.filter (·.1 != address), badRoutes := s.te.badRoutes.filter (·.1 != address) }

/-- A repair of a word of the route memory: rewritten from the shadow, or invalidated with the routes that it held. -/
def State.repairRoute (s : State) (address : Nat) (shadow : Bool) : State :=
  let keys := (s.te.badKeys.filter (·.1 == address)).map (·.2)
  let words := (s.te.badRoutes.filter (·.1 == address)).map (·.2)
  let lost (r : Route) : Bool := keys.contains r.key || words.contains (true, r.directory)
  let t := s.tables
  let s := { s with tables := { t with
    routes := if shadow then t.routes.map (fun (r : Route) => if keys.contains r.key then { r with parityOk := true } else r)
              else t.routes.filter (fun r => !lost r),
    results := if shadow then t.results else words.foldl (fun (m : Tab (BitVec 64)) (w : Bool × Nat) => if w.1 then m else tset m 0 w.2 0) t.results } }
  s.routeGood address

/-- The contents of an entry as the shadow holds it. -/
def State.fromShadow (s : State) (i : Nat) (e : EmEntry) : State :=
  let e := { e with parityOk := true }
  match s.shadowBytes i (s.entrySlots e) with
  | none => s.setEntry i (some e)
  | some b =>
    let w := leNat b
    let n := 128 * s.entrySlots e
    let a := s.entryActBits e
    if bitAt w (n - 1) then
      s.setEntry i (some { e with
        static := bitAt w (n - 3), learned := bitAt w (n - 4), gen := BitVec.ofNat 4 (bitsAt w (n - 8) 4), table := bitsAt w (n - 16) 8,
        key := BitVec.ofNat 384 (bitsAt w a (n - 16 - a)), action := BitVec.ofNat 112 (bitsAt w 0 a) })
    else s.removeEntry i

/-- A repair commits (R179): from a valid shadow, or by invalidating the position. -/
def State.repairTable (s : State) (address memory : Nat) (inj : Bool) : State :=
  let shadow := s.te.shadowValid
  let s := s.parityOutcome address memory (if shadow then 0 else 1)
  let s :=
    if memory = 3 then (match s.entryAt address with | some e => s.setHit address e true | none => s)
    else if memory = 2 then s.repairRoute address shadow
    else if shadow then (match s.entryAt address with | some e => s.fromShadow address e | none => s)
    else s.loseEntry address false
  let s := if shadow then s.teCount 11 else if memory ≤ 1 then s else s.teCount 12
  s.raise swBlock (if shadow then 4 else 5) address inj

/-! ### Routes (R174–R177) -/

def routeUnits (v6 : Bool) (len : Nat) : Nat := if !v6 then 1 else if len ≤ 64 then 2 else 4
def State.unitsUsed (s : State) : Nat := s.tables.routes.foldl (fun n r => n + routeUnits r.v6 r.length) 0
def unitsTotal (gear : Nat) : Nat := 2097152 * gear

/-- The slice whose VRFS range holds a VRF; 128 for none. -/
def State.vrfOwner (s : State) (v : Nat) : Nat :=
  match (List.range 128).find? (fun n =>
    let r := tget (s.slice n).ranges { first := 0, count := 0 } 10
    r.first ≤ v && v < r.first + r.count) with
  | some n => n
  | none => 128

/-- Route units charged to a slice. -/
def State.unitsOf (s : State) (n : Nat) : Nat :=
  s.tables.routes.foldl (fun m r => if s.vrfOwner r.vrf == n then m + routeUnits r.v6 r.length else m) 0

def routeInsert (l : List Route) (r : Route) : List Route :=
  match l with
  | [] => [r]
  | a :: t => if a.key = r.key then r :: t else if r.key < a.key then r :: a :: t else a :: routeInsert t r

/-- A route covers an address. -/
def Route.covers (r : Route) (vrf : Nat) (v6 : Bool) (addr : Nat) : Bool :=
  let n := if v6 then 128 else 32
  r.vrf == vrf && r.v6 == v6 && addr / 2 ^ (n - r.length) == r.prefix_.toNat / 2 ^ (n - r.length)

/-- The ordinal of the longest matching route. -/
def State.lpmFind (s : State) (vrf : Nat) (v6 : Bool) (addr : Nat) : Option Nat :=
  ((List.range s.tables.routes.length).filter (fun i => match s.tables.routes[i]? with
    | some r => r.covers vrf v6 addr | none => false)).getLast?

/-- The address of the bad route word of a key, and of a bad result or directory word. -/
def State.badKeyAt (s : State) (key : Nat) : Option Nat := (s.te.badKeys.find? (·.2 == key)).map (·.1)
def State.badWordAt (s : State) (dir : Bool) (n : Nat) : Option Nat := (s.te.badRoutes.find? (·.2 == (dir, n))).map (·.1)

/-- The LPM lookup: PROGRAM and ARG, or a miss. A bad directory word, route word or result that it reads is a miss, and is
reported (R178). -/
def State.lpmLookup (s : State) (vrf : Nat) (v6 : Bool) (addr : Nat) : Option (Nat × Nat) × State :=
  match s.badWordAt true (vrf * 2 + bit v6) with
  | some a => (none, s.parityFound 2 a false)
  | none =>
    match (s.lpmFind vrf v6 addr).bind (fun i => s.tables.routes[i]?) with
    | none => (none, s)
    | some r =>
      if !r.parityOk then (none, match s.badKeyAt r.key with | some a => s.parityFound 2 a false | none => s)
      else match s.badWordAt false r.result with
        | some a => (none, s.parityFound 2 a false)
        | none =>
          let w := (tget s.tables.results 0 r.result).toNat
          if bitAt w 63 then (some (bitsAt w 48 8, bitsAt w 0 48), s) else (none, s)

/-! ### Long routines (Table 7-5) -/

/-- Buckets of the current gear, and the index of the k-th. -/
def State.bucketCount (s : State) : Nat := 128 * 2048 * s.quarters
def State.kthBucket (s : State) (k : Nat) : Nat := (k / (2048 * s.quarters) * 8192 + k % (2048 * s.quarters)) * 4

/-- Positions that hold entries in the k-th bucket, or in the groups of 4 overflow units that follow the buckets. -/
def State.kthEntries (s : State) (k : Nat) : List Nat :=
  let b := if k < s.bucketCount then s.kthBucket k else overflowBase + (k - s.bucketCount) * 4
  (upFrom b 4).filter (fun i => (s.entryAt i).isSome)

/-- Steps of the sweep over the exact-match memory, and of the scrub with its route words. -/
def State.sweepSteps (s : State) : Nat := s.bucketCount + 16384
def State.scrubSteps (s : State) : Nat := s.sweepSteps + (4 + 16 * s.gears.table) * 2048

/-- One entry under the ageing sweep. -/
def State.sweepEntry (s : State) (tables : List Nat) (i : Nat) : State :=
  match s.entryAt i with
  | none => s
  | some e =>
    if !tables.contains e.table || !e.parityOk then s
    else if s.entryHit i e || e.static then s.setHit i e false
    else if s.tandem.role = .stoker || e.twin.isSome then s
    else s.ageOut i

/-- The first entry of a list of positions that has a free place in its candidates (or, with `spill`, in the
overflow store) of a geometry. -/
def State.nextMove (s : State) (q : Nat) (spill : Bool) (l : List Nat) : Option (Nat × Nat) :=
  firstSome (l.map (fun i =>
    match s.entryAt i with
    | none => none
    | some e =>
      let c := s.candidates e.table e.key.toNat q
      let n := s.entrySlots e
      let order := if indexBank c.2 = indexBank i then [c.2, c.1] else [c.1, c.2]
      (firstSome (order.map (fun b => s.freeInBucket b n) ++ [if spill then s.freeInOverflow 65536 0 n else none])).map
        (fun d => (i, d))))

/-- Bucket entries that are not in a candidate of a geometry. -/
def State.misplaced (s : State) (q : Nat) : List Nat :=
  (tsome s.tables.entries).filterMap (fun p =>
    let c := s.candidates p.2.table p.2.key.toNat q
    let b := p.1 - p.1 % 4
    if overflowBase ≤ p.1 || b = c.1 || b = c.2 then none else some p.1)

def State.setRoutine (s : State) (r : Option LongRoutine) : State := s.setTe { s.te with running := r }

/-- One half of one move of a routine, or its end. True when the routine has ended. -/
def State.moveStep (s : State) (r : LongRoutine) (next : Option (Nat × Nat)) : Bool × State :=
  match r.target with
  | some i => (false, ((s.dropSource i r.dest).teCount 8).setRoutine (some { r with step := r.step + 1, target := none }))
  | none =>
    match next with
    | some (i, d) =>
      let s := (s.copyEntry i d).setRoutine (some { r with step := r.step + 1, target := some i, dest := d })
      (false, if overflowBase ≤ d then s.teCount 9 else s)
    | none => (true, s.setRoutine none)

/-- Reinsert the next entry of a fenced bank into its other candidate or the overflow store, from the shadow and as R158 places an
entry, with its relocations (R182). -/
def State.evacuateStep (s : State) (r : LongRoutine) : Bool × State :=
  match (tkeys s.tables.entries).find? (fun i => i < overflowBase && indexBank i == r.arg) with
  | none => (true, s.setRoutine none)
  | some i =>
    let s := s.setRoutine (some { r with step := r.step + 1 })
    match s.entryAt i with
    | none => (false, s)
    | some e =>
      match (if s.te.shadowValid then s.findPlace e.table e.key.toNat (s.entrySlots e) else none) with
      | some (d, s) =>
        let s := (s.fromShadow i e).copyEntry i d |>.dropSource i d
        (false, if overflowBase ≤ d then s.teCount 9 else s)
      | none => (false, s.loseEntry i true)

/-- A fenced bank returns empty: its evacuation ends, and what it still holds is lost (R182). -/
def State.bankEmptied (s : State) (bank : Nat) : State :=
  let mine (r : LongRoutine) : Bool := r.id == 7 && r.arg == bank
  let s := s.setTe { s.te with
    running := match s.te.running with | some r => if mine r then none else some r | none => none,
    queued := s.te.queued.filter (fun r => !mine r) }
  forAll ((tkeys s.tables.entries).filter (fun i => i < overflowBase && indexBank i == bank)) s (fun i s => s.loseEntry i true)

/-- Every entry can be placed in the buckets of a geometry and the overflow store, moving as routine 0x0004 does. -/
def State.gearFits (fuel : Nat) (s : State) (q : Nat) : Bool :=
  match fuel with
  | 0 => false
  | k + 1 =>
    match s.misplaced q with
    | [] => true
    | l => match s.nextMove q true l with
      | some (i, d) => (s.moveEntry i d).gearFits k q
      | none => false

end Sys2Proof.Machine
end

