-- ==== Sys2Proof/Machine/RuleOps.lean ====
section
/-! DEFINITION. The action banks, the key profiles and the rule TCAM: search, placement, slides, and parity
(R184–R201). -/
namespace Sys2Proof.Machine
open Sys2Proof

/-! ### Action banks (R202) -/

def State.actionBank (s : State) (bank : Bool) : ActionBank := if bank then s.ctl.actB else s.ctl.actA
/-- The bank that new loads have made current. -/
def State.currentActions (s : State) : ActionBank := s.actionBank s.ctl.actBank

/-! ### Key profiles (R186, Table 8-2) -/

def profileValid (p : Nat) : Bool := bitAt p 383
def profileOwner (p : Nat) : Nat := bitsAt p 375 8
def profileSegs (p : Nat) : List (Nat × Nat) :=
  (List.range (bitsAt p 370 5)).map (fun i => (bitsAt p (325 - 21 * i) 11, bitsAt p (315 - 21 * i) 10 + 1))
def profileLen (p : Nat) : Nat := (profileSegs p).foldl (fun n g => n + g.2) 0
def profileKey (p v : Nat) : Nat := (profileSegs p).foldl (fun k g => k * 2 ^ g.2 + bitsAt v g.1 g.2) 0
def ActionBank.profile (a : ActionBank) (i : Nat) : Nat := (tget a.profiles 0 i).toNat

/-- A program of a bank: START and LENGTH, when it is valid. -/
def ActionBank.program (a : ActionBank) (i : Nat) : Option (Nat × Nat) :=
  let w := (tget a.programs 0 i).toNat
  if bitAt w 31 then some (bitsAt w 6 13, bitsAt w 0 6) else none

/-! ### Search (R188) -/

/-- Rule number of an entry (R187). -/
def ruleNumber (pipe index : Nat) : Nat := pipe * 16384 + index

def RuleEntry.matches (e : RuleEntry) (profile : Nat) (bank : Bool) (key : Nat) : Bool :=
  e.profile == profile && bitAt e.banks.toNat (bit bank) && e.parityOk && key &&& e.mask.toNat == e.value.toNat

/-- The index and entry that a search of a pipe returns. -/
def State.ruleSearch (s : State) (pipe profile : Nat) (bank : Bool) (key : Nat) : Option (Nat × RuleEntry) :=
  if s.isFenced 3 pipe then none
  else (tsome (s.pipe pipe).rules).foldl (fun best p =>
    if !(p.2.matches profile bank key && (s.pipe pipe).reload.all (fun n => decide (p.1 < n))) then best
    else match best with
      | some b => if b.2.priority < p.2.priority then some p else best
      | none => some p) none

/-- A parity failure of a rule entry: counted, logged and put to repair; 32 failing entries within a scrub period
fence the TCAM (Table 14-7). -/
def State.ruleParityFound (s : State) (pipe index : Nat) : State :=
  let n := ruleNumber pipe index
  if s.te.repairs.any (fun r => r.1 == n && r.2.1 == 4) then s
  else
    let inj := s.parityArmed (pipeBlock pipe) 4 n
    let s := if inj then s.disarm (pipeBlock pipe) 2 else s
    let s := (s.modPipe pipe (fun p => { p with actionCnt := cbump p.actionCnt 13 1 })).parityEvent n 4 2
    let s := s.setTe { s.te with repairs := s.te.repairs ++ [(n, 4, inj)] }
    let f := s.failureCount (3 * 256 + pipe) index (s.te.scrubPeriod * 1000000000) 32
    if f.1 && !s.isFenced 3 pipe then f.2.unitFenced 3 pipe 4 inj 0xFF else f.2

/-- A search reads every entry of the pipe and finds the bad ones. -/
def State.ruleRead (s : State) (pipe : Nat) : State :=
  if s.isFenced 3 pipe then s
  else forAll ((tsome (s.pipe pipe).rules).filter (fun p => !p.2.parityOk)) s (fun p s => s.ruleParityFound pipe p.1)

/-! ### Entries -/

def State.rule (s : State) (pipe index : Nat) : Option RuleEntry := tget (s.pipe pipe).rules none index
def State.setRule (s : State) (pipe index : Nat) (e : Option RuleEntry) : State :=
  s.modPipe pipe (fun p => { p with rules := tset p.rules none index e })
def State.ruleGen (s : State) (pipe index : Nat) : BitVec 8 := tget (s.pipe pipe).ruleGens 0 index
def State.setRuleGen (s : State) (pipe index : Nat) (g : BitVec 8) : State :=
  s.modPipe pipe (fun p => { p with ruleGens := tset p.ruleGens 0 index g })

/-- Each TCAM write takes a search slot. -/
def State.ruleWrite (s : State) (pipe : Nat) : State := s.perfEvent (pipeBlock pipe) 0x0102 1

/-- R189 relates two entries: one profile and a bank in common. -/
def related (e : RuleEntry) (profile : Nat) (banks : Nat) : Bool :=
  e.profile == profile && e.banks.toNat &&& banks != 0

/-- Entries of a block of 256 that R189 relates to a new one. -/
def State.blockRelated (s : State) (pipe block profile banks : Nat) : List (Nat × RuleEntry) :=
  (tsome (s.pipe pipe).rules).filter (fun p => p.1 / 256 == block && related p.2 profile banks)

/-- An entry of this profile, banks and priority at this index keeps R189, `except` entries aside. -/
def State.orderOk (s : State) (pipe index profile banks priority except : Nat) : Bool :=
  (s.blockRelated pipe (index / 256) profile banks).all (fun p =>
    p.1 == except || (if p.1 < index then priority ≤ p.2.priority else if index < p.1 then p.2.priority ≤ priority else true))

/-- The lowest free index, at or after `i`, where the new entry keeps R189. -/
def State.freeOrdered (fuel : Nat) (s : State) (pipe i profile banks priority : Nat) : Option Nat :=
  match fuel with
  | 0 => none
  | k + 1 =>
    if s.tcamSize ≤ i then none
    else if (s.rule pipe i).isNone && s.orderOk pipe i profile banks priority 0xFFFF then some i
    else s.freeOrdered k pipe (i + 1) profile banks priority

/-- The new entry's place in a full run of a block (R194): just after the last related entry of at least its
priority, or the block's first index. -/
def State.slidePlace (s : State) (pipe block profile banks priority : Nat) : Nat :=
  match ((s.blockRelated pipe block profile banks).filter (fun p => priority ≤ p.2.priority)).getLast? with
  | some p => p.1 + 1
  | none => block * 256

/-- The free entry of a block nearest to a place, the higher side winning a tie: the index that the new entry takes
and the moves (source, destination), the one next to the free entry first. -/
def State.slide (s : State) (pipe block place : Nat) : Option (Nat × List (Nat × Nat)) :=
  let lo := block * 256
  let hi := lo + 256
  let free := (upFrom lo 256).filter (fun i => (s.rule pipe i).isNone)
  let up := (free.filter (fun f => place ≤ f)).head?
  let down := (free.filter (fun f => f < place)).getLast?
  let upMoves (f : Nat) : List (Nat × Nat) := ((upFrom place (f - place)).reverse).map (fun i => (i, i + 1))
  -- sliding down, entries f + 1 to place − 1 move towards the free entry and the gap is at place − 1
  let downMoves (f : Nat) : List (Nat × Nat) := (upFrom (f + 1) (place - 1 - f)).map (fun i => (i, i - 1))
  if hi < place then none
  else match up, down with
    | some u, some d => if u - place ≤ place - 1 - d then some (place, upMoves u) else some (place - 1, downMoves d)
    | some u, none => some (place, upMoves u)
    | none, some d => some (place - 1, downMoves d)
    | none, none => none

/-- The first step of a move: the entry is copied, with its generation, banks and action (R196). -/
def State.ruleCopy (s : State) (pipe i d : Nat) : State :=
  match s.rule pipe i with
  | none => s
  | some e => ((s.setRule pipe d (some e)).setRuleGen pipe d e.gen).ruleWrite pipe

/-- The second step of a move: the source is invalidated, and the pair is bound to the copy (R191, R196). -/
def State.ruleDrop (s : State) (pipe i d : Nat) : State :=
  match s.rule pipe i with
  | none => s
  | some e =>
    let s := (s.setRule pipe i none).ruleWrite pipe
    let x := s.pair e.stat
    if e.count && x.holder = some (.rule (ruleNumber pipe i)) then s.setPair e.stat { x with holder := some (.rule (ruleNumber pipe d)) }
    else s

/-- Move an entry (R196). -/
def State.ruleMove (s : State) (pipe i d : Nat) : State := (s.ruleCopy pipe i d).ruleDrop pipe i d

/-- A block in which the new entry's place keeps R189: no related entry before it has a lower priority. -/
def State.slideOk (s : State) (pipe block profile banks priority : Nat) : Bool :=
  (s.blockRelated pipe block profile banks).all (fun p =>
    decide (p.1 < s.slidePlace pipe block profile banks priority → priority ≤ p.2.priority))

/-- Where a new entry goes in a pipe, with the moves that make room (R194). -/
def State.rulePlace (s : State) (pipe profile banks priority : Nat) : Option (Nat × List (Nat × Nat)) :=
  match s.freeOrdered 12288 pipe 0 profile banks priority with
  | some i => some (i, [])
  | none =>
    (List.range (s.tcamSize / 256)).foldl (fun (best : Option (Nat × List (Nat × Nat))) b =>
      match (s.slide pipe b (s.slidePlace pipe b profile banks priority)).filter (fun _ => s.slideOk pipe b profile banks priority) with
      | none => best
      | some w => match best with
        | some v => if w.2.length < v.2.length then some w else best
        | none => some w) none

/-- Write a new entry with its generation advanced and its pair bound. -/
def State.ruleInstall (s : State) (pipe index : Nat) (e : RuleEntry) : State :=
  let g := s.ruleGen pipe index + 1
  let s := ((s.setRule pipe index (some { e with gen := g })).setRuleGen pipe index g).ruleWrite pipe
  if e.count then s.bindPair e.stat (.rule (ruleNumber pipe index)) g.toNat else s

/-- One step of an edit. -/
def State.ruleStep (s : State) (x : RuleStep) : State :=
  match x with
  | .copy p i d => s.ruleCopy p i d
  | .drop p i d => s.ruleDrop p i d
  | .write p i e => s.ruleInstall p i e

/-- A mailbox's rule item is in progress. -/
def State.rulePending (s : State) (mb : Nat) : Bool := s.te.ruleWork.any (fun w => w.mb == mb)

/-- The next step of the rule item in progress. -/
def State.ruleAdvance (s : State) : State :=
  match s.te.ruleWork with
  | some { mb := mb, steps := x :: l } =>
    let s := s.setTe { s.te with ruleWork := if l.isEmpty then none else some { mb := mb, steps := l } }
    s.ruleStep x
  | _ => s.setTe { s.te with ruleWork := none }

/-- The rule item that a mailbox has in progress is applied to its end. -/
def State.ruleFinish (s : State) (mb : Nat) : State :=
  match s.te.ruleWork with
  | some w => if w.mb = mb then (w.steps.foldl (fun (s : State) x => s.ruleStep x) (s.setTe { s.te with ruleWork := none })) else s
  | none => s

/-- An entry is in a move: it is the source or the copy of one between its two steps (R196). -/
def State.ruleMoving (s : State) (pipe i : Nat) : Bool :=
  match s.te.ruleWork with
  | some { steps := .drop p a b :: _, .. } => p == pipe && (i == a || i == b)
  | _ => false

/-- An entry is the copy of a move between its two steps: it is counted with its source. -/
def State.ruleTwin (s : State) (pipe i : Nat) : Bool :=
  match s.te.ruleWork with
  | some { steps := .drop p _ b :: _, .. } => p == pipe && i == b
  | _ => false

/-- Free an entry: VALID clears, GEN advances and its pair is unbound (R198). -/
def State.ruleFree (s : State) (pipe index : Nat) : State :=
  match s.rule pipe index with
  | none => s
  | some e =>
    let s := ((s.setRule pipe index none).setRuleGen pipe index (s.ruleGen pipe index + 1)).ruleWrite pipe
    if e.count then s.unbindPair e.stat else s

/-- Clear banks of an entry, freeing it when none remains. -/
def State.ruleUnbank (s : State) (pipe index banks : Nat) : State :=
  match s.rule pipe index with
  | none => s
  | some e =>
    let left := e.banks &&& ~~~ BitVec.ofNat 2 banks
    if left = 0 then s.ruleFree pipe index else (s.setRule pipe index (some { e with banks := left })).ruleWrite pipe

/-- The repair of a rule entry (R179, R190). -/
def State.repairRule (s : State) (n : Nat) (inj : Bool) : State :=
  let pipe := n / 16384
  let i := n % 16384
  let shadow := s.te.shadowValid
  let s := s.parityOutcome n 4 (if shadow then 0 else 1)
  let s := if shadow then (match s.rule pipe i with | some e => s.setRule pipe i (some { e with parityOk := true }) | none => s)
    else s.ruleFree pipe i
  let s := s.teCount (if shadow then 11 else 12)
  s.raise (pipeBlock pipe) (if shadow then 4 else 5) n inj

/-! ### Banks in flight (R64, R67, R103, R141, R202) -/

/-- Packets of a pipe in flight in a bank; kinds: rule 0, graph 1, customer 2, action 3, patch 4. -/
def Pipe.flying (p : Pipe) (kind : Nat) (bank : Bool) : Nat := tget p.inFlight 0 (2 * kind + bit bank)
def Pipe.fly (p : Pipe) (kind : Nat) (bank : Bool) : Pipe :=
  { p with inFlight := tmod p.inFlight 0 (2 * kind + bit bank) (· + 1) }
def Pipe.land (p : Pipe) (kind : Nat) (bank : Bool) : Pipe :=
  { p with inFlight := tmod p.inFlight 0 (2 * kind + bit bank) (· - 1) }

/-- Packets in flight in a bank over the present, unfenced pipes. -/
def State.flying (s : State) (kind : Nat) (bank : Bool) : Nat :=
  s.livePipes.foldl (fun n p => n + (s.pipe p).flying kind bank) 0

/-- The active rule bank (R65), and whether the other one is held. -/
def State.ruleBank (s : State) : Bool := s.swap.count.getLsbD 0
def State.ruleHeld (s : State) : Bool := s.flying 0 (!s.ruleBank) != 0

end Sys2Proof.Machine
end

