-- ==== Sys2Proof/Machine/ActionOps.lean ====
section
/-! DEFINITION. The action engine: a packet in pieces, the instructions of Table 8-7, and the completion of the
headers after a pass's edits (R204–R209). -/
namespace Sys2Proof.Machine
open Sys2Proof

/-- A piece of the packet under edit: a parsed header (`id` 0–23), a pushed one (24–27), with its bytes before the
edits and, for a pushed one, its template. -/
structure Seg where
  id    : Nat
  cls   : Nat
  start : Nat
  old   : Bytes
  bytes : Bytes
  tmpl  : Option Bytes
deriving DecidableEq, Repr

/-- Reasons of a drop by a pass: 2–10 as ACTION_CNT counts them (Table 8-15); 11 and 12 isolation; then those that
have no counter there. -/
def dropProgram : Nat := 2
def dropNoDest : Nat := 3
def dropRange : Nat := 4
def dropFault : Nat := 5
def dropTtl : Nat := 6
def dropOversize : Nat := 7
def dropRecircLimit : Nat := 8
def dropRecircFull : Nat := 9
def dropPolicer : Nat := 10
def dropIsolation : Nat := 11
def dropIsolationFault : Nat := 12
def dropLearnLimit : Nat := 20
def dropParse : Nat := 21
def dropParseFault : Nat := 22

/-- A running program (R204, R208). -/
structure Run where
  segs     : List Seg
  payload  : Bytes
  pushed   : Nat
  skip     : Nat
  done     : Bool
  executed : Nat
  colour   : Nat
  policed  : Bool
  dest     : Option (Nat × Nat × Nat)
  queue    : Option (Nat × Nat)
  drop     : Option Nat
  ttlSlow  : Bool
  /-- reason TTL was raised -/
  ttlMet   : Bool
  /-- a word with bad parity that the program has read (R210) -/
  fault    : Option BadWord
  recirc   : Option (Nat × Nat)
  mirrors  : List Nat
  slc      : Nat
  noLearn  : Bool
  tsReq    : Bool
deriving DecidableEq, Repr

/-- The pieces of a packet: its parsed headers, then its payload. -/
def Run.start (b : Bytes) (hs : List Header) (headerEnd slc : Nat) : Run :=
  { segs := (List.range hs.length).filterMap (fun i => (hs[i]?).map (fun h =>
      let x := slice b h.start h.length
      { id := i, cls := h.cls, start := h.start, old := x, bytes := x, tmpl := none })),
    payload := b.drop headerEnd, pushed := 0, skip := 0, done := false, executed := 0, colour := 0, policed := false,
    dest := none, queue := none, drop := none, ttlSlow := false, ttlMet := false, fault := none, recirc := none, mirrors := [], slc := slc,
    noLearn := false, tsReq := false }

/-- What a program reads: the key vector, the results, the winner, the meters' inputs. -/
structure PassInput where
  key     : Nat
  results : List LookupResult
  winner  : LookupResult
  pkt     : Packet
  pktId   : Nat
  pipe    : Nat
  graph   : Graph
  bank    : ActionBank
  /-- the words of this bank that have bad parity in the pipe -/
  bad     : List BadWord
deriving DecidableEq, Repr

/-- ARG of result RES, or of the winner, as wide as a field; a result that missed reads zero. -/
def PassInput.arg (x : PassInput) (res n : Nat) : Nat :=
  let r := if res = 7 then x.winner else x.results.getD res LookupResult.miss
  if res ≠ 7 && !r.hit then 0 else r.arg.toNat % 2 ^ n

/-- The operand under FROM_ARG. -/
def PassInput.from (x : PassInput) (fromArg : Bool) (res imm n : Nat) : Nat := if fromArg then x.arg res n else imm

/-- A condition of SKIP_IF. -/
def PassInput.cond (x : PassInput) (r : Run) (c : Nat) : Bool :=
  if c ≤ 0x2F then bitAt x.key (144 + c)
  else if 0x30 ≤ c && c ≤ 0x36 then (x.results.getD (c - 0x30) LookupResult.miss).hit
  else if 0x40 ≤ c && c ≤ 0x4F then bitAt x.key (128 + c - 0x40)
  else if 0x50 ≤ c && c ≤ 0x52 then r.policed && r.colour == c - 0x50
  else if 0x60 ≤ c && c ≤ 0x7F then bitAt x.key (64 + c - 0x60)
  else if 0x80 ≤ c && c ≤ 0xAF then bitAt x.winner.arg.toNat (c - 0x80)
  else c == 0xFF

/-- The first drop ends forwarding of the pass (R208). -/
def Run.dropBy (r : Run) (reason : Nat) : Run := if r.drop.isSome then r else { r with drop := some reason }

def Run.seg (r : Run) (id : Nat) : Option Seg := r.segs.find? (fun s => s.id == id)
def Run.putSeg (r : Run) (id : Nat) (b : Bytes) : Run :=
  { r with segs := r.segs.map (fun s => if s.id = id then { s with bytes := b } else s) }

/-- Write a field reference: HDR, BYTE, BITS, LSB (R204, R205). -/
def Run.setField (r : Run) (w v : Nat) : Run :=
  let hdr := bitsAt w 51 5
  let byte := bitsAt w 42 9
  let bits := bitsAt w 37 5 + 1
  let lsb := bitsAt w 34 3
  match r.seg hdr with
  | none => r.dropBy dropRange
  | some s =>
    let n := s.bytes.length
    let lo := (n - 1 - byte) * 8 + lsb
    if n ≤ byte || n * 8 < lo + bits then r.dropBy dropRange
    else r.putSeg hdr (beBytes n (putBits (beNat s.bytes) lo bits v))

/-- Bytes of a template in use (Table 8-8). -/
def templateLen (t : Bytes) : Nat := leAt t 64 1

/-- Insert a template before a header, or after the last parsed header (HDR 24). -/
def Run.push (r : Run) (hdr : Nat) (t : Bytes) : Run :=
  let s : Seg := { id := 24 + r.pushed, cls := 16, start := 0, old := [], bytes := t.take (templateLen t), tmpl := some t }
  if hdr = 24 then { r with segs := r.segs ++ [s], pushed := r.pushed + 1 }
  else match r.seg hdr with
    | none => r.dropBy dropRange
    | some _ => { r with segs := r.segs.takeWhile (fun x => x.id != hdr) ++ s :: r.segs.dropWhile (fun x => x.id != hdr),
                         pushed := r.pushed + 1 }

/-- Remove parsed headers. -/
def Run.pop (r : Run) (hdr count : Nat) : Run :=
  let ids := upFrom hdr count
  if ids.all (fun i => (r.seg i).isSome) then { r with segs := r.segs.filter (fun s => !ids.contains s.id) }
  else r.dropBy dropRange

/-- The TTL byte of a header class. -/
def ttlByte (cls : Nat) : Option Nat := if cls = 5 then some 8 else if cls = 6 then some 7 else if cls = 4 then some 3 else none

/-- DEC_TTL (R207). The Bool says that reason TTL was raised. -/
def Run.decTtl (r : Run) (g : Graph) (hdr : Nat) : Run × Bool :=
  match r.seg hdr with
  | none => (r.dropBy dropRange, false)
  | some s =>
    match ttlByte s.cls with
    | none => (r.dropBy dropRange, false)
    | some i =>
      if s.bytes.length ≤ i then (r.dropBy dropRange, false)
      else
        let t := beAt s.bytes i 1
        if 2 ≤ t then (r.putSeg hdr (overwrite s.bytes i (beBytes 1 (t - 1))), false)
        else match g.disposition 6 with
          | 1 => (r.putSeg hdr (overwrite s.bytes i [0]), true)
          | 2 => (r.dropBy dropTtl, true)
          | _ => ({ r with ttlSlow := true, done := true }, true)

/-- The values that SET_DEST admits (Table 8-7a). -/
def destOk (kind v : Nat) : Bool :=
  match kind with
  | 1 => v < 128
  | 2 => v < 16384
  | 3 => bitsAt v 7 9 == 0 && bitsAt v 18 2 == 0
  | 4 => true
  | _ => v == 0

/-- The parse set SLOW_REASON. -/
def PassInput.slow (x : PassInput) : Bool := bitsAt x.key 24 8 ≠ 0

/-- SET_DEST; KINDs 1 to 3 are ignored when the parse set SLOW_REASON (R136). -/
def Run.setDest (r : Run) (x : PassInput) (w : Nat) : Run :=
  let kind := bitsAt w 52 4
  if x.slow && 1 ≤ kind && kind ≤ 3 then r else
  let v := x.from (bitAt w 51) (bitsAt w 48 3) (bitsAt w 28 20) 20
  if !destOk kind v then r.dropBy dropRange
  else if kind = 5 then r.dropBy dropProgram
  else { r with dest := some (kind, v, bitsAt w 20 8) }

/-! ### Metering (R277, R278) -/

/-- The metered length, and whether it is an estimate. -/
def State.meterLength (s : State) (x : PassInput) : Nat × Bool × State :=
  if x.pkt.ended.isSome then (x.pkt.bytes.length + 4, false, s)
  else
    let o := bitsAt x.key 54 10
    if bitAt x.key 144 then (o + beAt x.pkt.bytes (o + 2) 2 + 4, true, s)
    else if bitAt x.key 145 then (o + 40 + beAt x.pkt.bytes (o + 4) 2 + 4, true, s)
    else
      -- the bytes received so far are not given: between 60 and all of them
      let d := s.draw
      (max 64 (60 + d.1.toNat % (x.pkt.bytes.length - 60 + 1) + 4), true, d.2)

/-- POLICE on a policer: the run and the state after the meter. -/
def State.police (s : State) (r : Run) (x : PassInput) (w : Nat) : Run × State :=
  let n := x.from (bitAt w 37) (bitsAt w 34 3) (bitsAt w 38 18) 18
  let s := s.policerRead n
  let p := tget s.sw.policers Policer.reset n
  let redDrop (r : Run) : Run := if r.colour = 2 && bitAt w 33 then r.dropBy dropPolicer else r
  if p.mode = 0 then (redDrop { r with policed := true }, s)
  else
    let inc := if p.flags.getLsbD 1 then (if bitAt x.key 412 then 1 else 0) else r.colour
    let m := s.meterLength x
    let b := m.1 + (if p.flags.getLsbD 2 then 20 else 0)
    let out := p.meter s.now b inc
    let s := m.2.2.schedCount 4
    let s := { s with sw := { s.sw with policers := tset s.sw.policers Policer.reset n out.2.2.2 } }
    let s := if m.2.1 && (out.2.1 || out.2.2.1) then
        { s with sw := { s.sw with trueUps := s.sw.trueUps ++
          [{ pkt := x.pktId, policer := n, cDebit := out.2.1, eDebit := out.2.2.1, estimate := m.1 }] } } else s
    (redDrop { r with colour := out.1, policed := true }, s)

/-- A counting update leaves for its pair (R347). -/
def State.countOn (s : State) (pair bytes : Nat) (gen : Option (BitVec 8)) (owner : Nat) : State :=
  s.setTe { s.te with stats := s.te.stats ++ [{ pair := pair, bytes := bytes, gen := gen, slice := owner }] }

def State.parseCount (s : State) (pipe i n : Nat) : State :=
  s.modPipe pipe (fun p => { p with parseCnt := cbump p.parseCnt i n })

/-- The bad word among those of a pass that an instruction reads: a template or a session. -/
def PassInput.badOperand (x : PassInput) (w : Nat) : Option BadWord :=
  match bitsAt w 56 8 with
  | 0x04 => x.bad.find? (fun b => match b.word with | .template _ _ n => n == bitsAt w 43 8 | _ => false)
  | 0x0B => x.bad.find? (fun b => match b.word with | .session _ _ n => n == bitsAt w 52 4 | _ => false)
  | _ => none

/-- One instruction of a program (Table 8-7). A packet that DEC_TTL sends to the exception path is counted in REASON_6, and not in
PARSE_CNT_1, which counts what the parse ends (DEDUCED, log entry 132). -/
def State.execAction (s : State) (r : Run) (x : PassInput) (w : Nat) : Run × State :=
  if r.done then (r, s)
  else if 0 < r.skip then ({ r with skip := r.skip - 1 }, s)
  else
    let r := { r with executed := r.executed + 1 }
    match bitsAt w 56 8 with
    | 0x01 => (if x.cond r (bitsAt w 48 8) != bitAt w 47 then { r with skip := bitsAt w 43 4 } else r, s)
    | 0x02 => (r.setField w (bitsAt w 0 32), s)
    | 0x03 => (r.setField w (x.arg (bitsAt w 31 3) 48 / 2 ^ bitsAt w 25 6), s)
    | 0x04 => (r.push (bitsAt w 51 5) (tget x.bank.templates [] (bitsAt w 43 8)), s)
    | 0x05 => (r.pop (bitsAt w 51 5) (bitsAt w 48 3), s)
    | 0x06 =>
      let o := r.decTtl x.graph (bitsAt w 51 5)
      ({ o.1 with ttlMet := o.1.ttlMet || o.2 }, s)
    | 0x07 => (r.setDest x w, s)
    | 0x08 => ({ r with queue := some (bitsAt w 53 3, x.from (bitAt w 52) (bitsAt w 49 3) (bitsAt w 29 20) 20) }, s)
    | 0x09 => s.police r x w
    | 0x0A => (r, s.countOn (x.from (bitAt w 35) (bitsAt w 32 3) (bitsAt w 36 20) 20) x.pkt.length none 128)
    | 0x0B => ({ r with mirrors := r.mirrors ++ [bitsAt w 52 4] }, s)
    | 0x0C => ({ r with recirc := some (bitsAt w 50 6, x.from (bitAt w 49) (bitsAt w 46 3) (bitsAt w 0 32) 32) }, s)
    | 0x0D =>
      let n := x.from (bitAt w 47) (bitsAt w 44 3) (bitsAt w 48 8) 8
      (if 128 < n then r.dropBy dropRange else { r with slc := n }, s)
    | 0x0E => ({ r with noLearn := true }, s)
    | 0x0F => ({ r with tsReq := true }, s)
    | _ => ({ r with done := true }, s)

/-- The instruction at a place of the store, unless it or a word that it reads is bad: then the program ends with a fault (R210). -/
def State.runWord (s : State) (r : Run) (x : PassInput) (i : Nat) : Run × State :=
  let w := (tget x.bank.instrs 0 i).toNat
  let met : Option BadWord := if x.bad = [] || r.done || 0 < r.skip then none
    else firstSome [x.bad.find? (fun b => match b.word with | .instruction _ _ n => n == i | _ => false), x.badOperand w]
  match met with
  | some b => ({ r with done := true, fault := some b }, s)
  | none => s.execAction r x w

/-- Run a program: START and LENGTH in the instruction store. -/
def State.runProgram (s : State) (r : Run) (x : PassInput) (start len : Nat) : Run × State :=
  (upFrom start len).foldl (fun (q : Run × State) (i : Nat) => q.2.runWord q.1 x i) (r, s)

/-! ### Completion of the headers (R206) -/

/-- One's complement sum of 16-bit words, folded; an odd last byte counts as the high half of a word. -/
def onesSum (b : Bytes) : Nat :=
  match b with
  | [] => 0
  | [a] => a.toNat * 256
  | a :: c :: r => a.toNat * 256 + c.toNat + onesSum r

def foldSum (n : Nat) : Nat := let a := n / 65536 + n % 65536; a / 65536 + a % 65536

/-- The Internet checksum of bytes whose checksum field counts as zero. -/
def csum (b : Bytes) : Nat := 65535 - foldSum (onesSum b)

/-- Write the header checksum of an IPv4 header of `n` bytes at an offset. -/
def ipv4Csum (b : Bytes) (i n : Nat) : Bytes :=
  let z := overwrite b (i + 10) [0, 0]
  overwrite z (i + 10) (beBytes 2 (csum (slice z i n)))

/-- Bytes after a piece in the packet as edited. -/
def bytesBehind (segs : List Seg) (id : Nat) (payload : Nat) : Nat :=
  ((segs.dropWhile (fun s => s.id != id)).drop 1).foldl (fun n s => n + s.bytes.length) payload

/-- A pushed template's length fields and checksum. -/
def fixTemplate (segs : List Seg) (payload : Nat) (s : Seg) : Seg :=
  match s.tmpl with
  | none => s
  | some t =>
    let total := s.bytes.length + bytesBehind segs s.id payload
    let fix (b : Bytes) (o : Nat) : Bytes :=
      let f := leAt t o 2
      if f = 0xFFFF then b else overwrite b f (beBytes 2 ((total + leAt t (o + 2) 2) % 65536))
    let b := fix (fix s.bytes 68) 72
    let i := leAt t 66 1
    { s with bytes := if leAt t 65 1 % 2 = 1 then ipv4Csum b i (beAt b i 1 % 16 * 4) else b }

/-- Offset of the 16-bit length field of a class: IPv4 total, IPv6 payload, UDP. -/
def lengthField (cls : Nat) : Option Nat := if cls = 5 then some 2 else if cls = 6 || cls = 9 then some 4 else none

/-- Adjust a remaining parsed header's length by the net bytes behind it. -/
def fixLength (segs : List Seg) (payload total : Nat) (s : Seg) : Seg :=
  match s.tmpl, lengthField s.cls with
  | none, some f =>
    let now := bytesBehind segs s.id payload
    let was := total - s.start - s.old.length
    if now = was || s.bytes.length < f + 2 then s
    else { s with bytes := overwrite s.bytes f (beBytes 2 ((beAt s.bytes f 2 + now + 65536 * 2 - was) % 65536)) }
  | _, _ => s

/-- A parsed IPv4 header whose bytes changed receives a new checksum. -/
def fixIpv4 (s : Seg) : Seg :=
  if s.tmpl.isNone && s.cls = 5 && s.bytes ≠ s.old then { s with bytes := ipv4Csum s.bytes 0 s.bytes.length } else s

/-- The incremental update of a TCP or UDP checksum (R206): one's complement arithmetic on what changed. -/
def incremental (old : Nat) (was now_ : Bytes) : Nat :=
  let w := foldSum (foldSum (onesSum was))
  65535 - foldSum (foldSum ((65535 - old) + (65535 - w) + foldSum (onesSum now_)))

/-- Update the innermost L4 header's checksum for its own fields and its IP header's addresses. `hs`: the parsed
headers with their bytes before the edits. -/
def fixL4 (hs : List Seg) (segs : List Seg) : List Seg :=
  match (hs.filter (fun h => h.cls = 9 || h.cls = 10)).getLast? with
  | none => segs
  | some h =>
    match segs.find? (fun s => s.id == h.id) with
    | none => segs
    | some s =>
      let o := if h.cls = 9 then 6 else 16
      if s.bytes.length < o + 2 then segs
      else
        let ip := (hs.filter (fun q => q.id < h.id && (q.cls = 5 || q.cls = 6))).getLast?
        let c := beAt s.bytes o 2
        let v4 := match ip with | some q => q.cls = 5 | none => false
        if h.cls = 9 && v4 && c = 0 then segs
        else
          let addr (q : Seg) (b : Bytes) : Bytes := if q.cls = 5 then slice b 12 8 else slice b 8 32
          let before := overwrite h.old o [0, 0] ++ (match ip with
            | some q => if segs.any (fun t => t.id == q.id) then addr q q.old else [] | none => [])
          let after := overwrite s.bytes o [0, 0] ++ (match ip with
            | some q => match segs.find? (fun t => t.id == q.id) with | some t => addr q t.bytes | none => []
            | none => [])
          if before = after then segs
          else
            let n := incremental c before after
            let n := if h.cls = 9 && n = 0 then 65535 else n
            segs.map (fun t => if t.id = h.id then { t with bytes := overwrite t.bytes o (beBytes 2 n) } else t)

/-- The packet after the edits of a pass, with the offset of its first IP header (Table 9-2). -/
def Run.complete (r : Run) (orig : List Seg) (total : Nat) : Bytes × Nat :=
  let n := r.payload.length
  let segs := r.segs.map (fixLength r.segs n total)
  let segs := segs.map (fixTemplate r.segs n)
  let segs := fixL4 orig (segs.map fixIpv4)
  let ip := segs.foldl (fun (a : Nat × Option Nat) (s : Seg) =>
    let here := match s.tmpl with
      | none => if s.cls = 5 || s.cls = 6 then some a.1 else none
      | some t => if leAt t 65 1 % 2 = 1 then some (a.1 + leAt t 66 1) else none
    (a.1 + s.bytes.length, match a.2 with | some x => some x | none => here)) (0, none)
  (segs.flatMap (·.bytes) ++ r.payload, min 0x1FF (ip.2.getD 0x1FF))

/-- Padding to 64 bytes with the FCS (R209). -/
def padFrame (b : Bytes) : Bytes := b ++ List.replicate (60 - b.length) 0

/-! ### The full-frame checks of L3 (Table 1-7) -/

/-- Bytes whose one's complement sum must be all ones. -/
def sumBad (b : Bytes) : Bool := foldSum (foldSum (onesSum b)) != 65535

/-- An IPv4 header checksum, or the innermost TCP or UDP checksum, is wrong. -/
def l3Bad (b : Bytes) (hs : List Header) (fragment : Bool) : Bool :=
  if hs.any (fun h => h.cls = 5 && sumBad (slice b h.start h.length)) then true
  else if fragment then false
  else match (hs.filter (fun h => h.cls = 9 || h.cls = 10)).getLast? with
    | none => false
    | some h =>
      match (hs.filter (fun q => q.start < h.start && (q.cls = 5 || q.cls = 6))).getLast? with
      | none => false
      | some q =>
        let proto := if h.cls = 9 then 17 else 6
        if q.cls = 5 then
          if h.cls = 9 && beAt b (h.start + 6) 2 = 0 then false
          else
            let seg := slice b h.start (q.start + beAt b (q.start + 2) 2 - h.start)
            sumBad (slice b (q.start + 12) 8 ++ beBytes 2 proto ++ beBytes 2 seg.length ++ seg)
        else
          let seg := slice b h.start (q.start + 40 + beAt b (q.start + 4) 2 - h.start)
          sumBad (slice b (q.start + 8) 32 ++ beBytes 4 seg.length ++ beBytes 4 proto ++ seg)

end Sys2Proof.Machine
end

