-- ==== Sys2Proof/Machine/DigestOps.lean ====
section
/-! DEFINITION. Frame numbers, decision records and digest blocks of the Tandem comparison (R413–R417). -/
namespace Sys2Proof.Machine
open Sys2Proof

/-- The unit is a member of a Tandem pair. -/
def State.paired (s : State) : Bool := s.tandem.role ≠ .standalone

/-- The CONFIG_SEQ stamp in force; none while CHANGING is (R416). -/
def State.configStamp (s : State) : Option (BitVec 32) := if s.tandem.changing then none else some s.tandem.configSeq

/-- Close a port's open block: the next begins at the next frame number. Blocks of a unit that is no member of a pair
are compared with nothing and are not kept. -/
def PortDigest.close (d : PortDigest) (keep : Bool) : PortDigest :=
  { d with closed := if keep then d.closed ++ [d.current] else d.closed,
           current := DigestState.empty (d.current.number + 1) d.frameNo.toNat }

/-- A realignment: the block closes, and frame and block numbers restart at 0. -/
def PortDigest.realign (d : PortDigest) (keep : Bool) : PortDigest :=
  let c := if d.current.count = 0 then d.closed else (d.close keep).closed
  { d with closed := c, frameNo := 0, current := DigestState.empty 0 0, seals := [] }

/-- Give the next frame number; the block closes after 4,096 numbers or at a seal. -/
def PortDigest.number (d : PortDigest) (keep : Bool) : BitVec 32 × PortDigest :=
  let n := d.frameNo
  let d := { d with frameNo := n + 1, current := { d.current with count := d.current.count + 1 } }
  (n, if d.current.count = 4096 || d.seals.contains n then { d.close keep with seals := d.seals.filter (· != n) } else d)

/-- The number that a frame takes at its start-of-frame delimiter, after a realignment when it is due (R413). -/
def State.frameNumber (s : State) (k : Nat) : BitVec 32 × State :=
  let p := s.port k
  let d := if p.digest.lastFrame + 10000 ≤ s.now then p.digest.realign s.paired else p.digest
  let r := d.number s.paired
  (r.1, s.setPort k { p with digest := r.2 })

/-- A block covers a frame number. -/
def DigestState.covers (b : DigestState) (n : Nat) : Bool := b.first ≤ n && n < b.first + b.count

/-- Change the block that covers a frame number, the newest first. -/
def PortDigest.inBlock (d : PortDigest) (n : Nat) (f : DigestState → DigestState) : PortDigest :=
  if d.current.covers n then { d with current := f d.current }
  else
    let l := d.closed.reverse
    match l.findIdx? (fun b => b.covers n) with
    | some i => match l[i]? with
      | some b => { d with closed := (lset l i (f b)).reverse }
      | none => d
    | none => d

/-- A settled decision joins its block. -/
def State.digestAdd (s : State) (k n : Nat) (hash : BitVec 64) (stamp : Option (BitVec 32)) : State :=
  let now := s.now
  s.modPort k (fun p => { p with digest := p.digest.inBlock n (fun b =>
    { b with digest := b.digest + hash, settled := b.settled + 1,
             firstTime := if b.settled = 0 then now else b.firstTime,
             stamp := match b.stamp with
               | none => some stamp
               | some x => if x = stamp then some x else some none }) })

/-- A frame number failed a receive check. -/
def State.digestError (s : State) (k n : Nat) : State :=
  s.modPort k (fun p => { p with digest := p.digest.inBlock n (fun b => { b with rxErrors := b.rxErrors + 1 }) })

/-- The 24-byte decision record (Table 15-4) and its hash (R414). -/
def decisionRecord (port frame kind dest cls queue len slc crc mirrors flags : Nat) : Bytes :=
  leBytes 1 port ++ leBytes 4 frame ++ leBytes 1 kind ++ leBytes 3 dest ++ leBytes 1 cls ++ leBytes 3 queue ++
    leBytes 2 len ++ leBytes 1 slc ++ leBytes 4 crc ++ leBytes 2 mirrors ++ leBytes 1 flags ++ leBytes 1 0

def recordHash (r : Bytes) : BitVec 64 := BitVec.ofNat 64 (crc32c 0 r * 2 ^ 32 + crc32c 0xFFFFFFFF r)

end Sys2Proof.Machine
end

