-- ==== Sys2Proof/Machine/PassOps.lean ====
section
/-! DEFINITION. A pass of a packet: parse, lookups, program, isolation and the formation of stored frames
(R127–R217, R224). -/
namespace Sys2Proof.Machine
open Sys2Proof

/-! ### Lookups (R185) -/

/-- What the lookup stage forms. -/
structure Lookups where
  results  : List LookupResult
  learns   : List LearnRequest
  /-- dropped LEARN_LIMIT (R170) -/
  limited  : Bool
  unsettled : Bool
deriving DecidableEq, Repr

def ownerSlice (o : Nat) : Nat := if o < 128 then o else 128

/-- A search of an exact-match table by a packet: bad positions are found, HIT is set (R157, R172). -/
def State.emLookup (s : State) (t key : Nat) : Option (Nat × EmEntry) × State :=
  let s := s.readPositions (s.searchReads t key)
  match s.emSearch t key with
  | none => (none, s)
  | some i =>
    match s.entryAt i with
    | none => (none, s)
    | some e => (some (i, e), (if e.hit then s else s.trapped none).setHit i e true)

/-- Exact-match lookup of a table, its candidate and what it means for the digest (R164, R169, R170, R415). -/
def State.lookupTable (s : State) (l : Lookups) (t key port : Nat) (slow : Bool) : Lookups × State :=
  let d := s.emDesc t
  let c := s.learnCfg t
  let learning := c.flags.getLsbD 0
  let v := bitsAt key c.argStart c.argLen
  let k := descKey d key
  let watched := learning || c.interval ≠ 0
  let r := s.emLookup t k
  let s := r.2
  match r.1 with
  | some (_, e) =>
    let a := widthActBits (descWidth d)
    let w := e.action.toNat
    let s := if actCount a w then s.countOn (actStat a w) 0 (some (BitVec.ofNat 8 e.gen.toNat)) (ownerSlice (descOwner d)) else s
    let moves := learning && c.flags.getLsbD 1 && e.learned && !e.static && actArg a w ≠ v && !slow
    let fresh := e.learned && s.now < e.changed + 20000
    ({ l with results := l.results ++ [{ hit := true, program := actProgram a w, arg := BitVec.ofNat 83 (actArg a w) }],
              learns := if moves then l.learns ++ [{ table := t, key := BitVec.ofNat 384 k, value := BitVec.ofNat 48 v, port := port, move := true }]
                        else l.learns,
              unsettled := l.unsettled || (watched && (s.tandem.strict || fresh)) }, s)
  | none =>
    let limit := learning && s.limitReached t port && c.flags.getLsbD 2
    ({ l with results := l.results ++ [{ hit := false, program := descMissProgram d, arg := BitVec.ofNat 83 (descMissArg d) }],
              learns := if learning && !slow then
                  l.learns ++ [{ table := t, key := BitVec.ofNat 384 k, value := BitVec.ofNat 48 v, port := port, move := false }]
                else l.learns,
              limited := l.limited || limit,
              unsettled := l.unsettled || watched || limit }, s)

/-- The rule search j of a plan (R186, R188, R191). -/
def State.lookupRule (s : State) (l : Lookups) (pipe : Nat) (a : ActionBank) (profile : Nat) (bank : Bool) (key : Nat) : Lookups × State :=
  let s := s.ruleRead pipe
  match s.ruleSearch pipe profile bank (profileKey (a.profile profile) key) with
  | none => ({ l with results := l.results ++ [LookupResult.miss] }, s)
  | some (_, e) =>
    let s := if e.count then s.countOn e.stat 0 (some e.gen) (ownerSlice (profileOwner (a.profile profile))) else s
    ({ l with results := l.results ++ [{ hit := true, program := e.program, arg := e.arg.setWidth 83 }] }, s)

/-- The LPM lookup of a plan (R175). -/
def State.lookupRoute (s : State) (l : Lookups) (w key : Nat) : Lookups × State :=
  let a := bitsAt w 216 2
  let inner := a = 1 || a = 3
  let addr := bitsAt key (match a with | 0 => 832 | 1 => 576 | 2 => 960 | _ => 704) 128
  let v4 := bitAt key (144 + (if inner then 2 else 0))
  let v6 := bitAt key (145 + (if inner then 2 else 0))
  let vrf := if bitAt w 204 then bitsAt w 192 12 else bitsAt key (bitsAt w 205 11) 12
  let r := if v4 then s.lpmLookup vrf false (addr % 2 ^ 32) else if v6 then s.lpmLookup vrf true addr else (none, s)
  match r.1 with
  | some (p, g) => ({ l with results := l.results ++ [{ hit := true, program := p, arg := BitVec.ofNat 83 g }] }, r.2)
  | none => ({ l with results := l.results ++ [LookupResult.miss] }, r.2)

/-- The seven results of a pass, in result order. -/
def State.lookupAll (s : State) (pkt : Packet) (pipe w key : Nat) (slow : Bool) : Lookups × State :=
  let a := s.actionBank pkt.actBank
  let none_ (l : Lookups) : Lookups := { l with results := l.results ++ [LookupResult.miss] }
  let start : Lookups := { results := [], learns := [], limited := false, unsettled := false }
  let q := (List.range 4).foldl (fun (q : Lookups × State) (i : Nat) =>
    if bitAt w (251 + i) then q.2.lookupTable q.1 (bitsAt w (243 - 8 * i) 8) key pkt.port slow else (none_ q.1, q.2)) (start, s)
  let q := if bitAt w 218 then q.2.lookupRoute q.1 w key else (none_ q.1, q.2)
  (List.range 2).foldl (fun (q : Lookups × State) (j : Nat) =>
    if bitAt w (190 + j) then q.2.lookupRule q.1 pipe a (bitsAt w (186 - 4 * j) 4) pkt.ruleBank key else (none_ q.1, q.2)) q

/-- PRECEDENCE and the winner of a pass (R185). -/
def planOrder (w : Nat) : List Nat := (List.range 7).map (fun i => bitsAt w (179 - 3 * i) 3)

def winnerOf (w : Nat) (rs : List LookupResult) : LookupResult :=
  let get (i : Nat) : LookupResult := rs.getD i LookupResult.miss
  match (planOrder w).find? (fun i => (get i).hit) with
  | some i => get i
  | none =>
    match (planOrder w).find? (fun i => i < 4 && bitAt w (251 + i)) with
    | some i => get i
    | none => { hit := false, program := bitsAt w 153 8, arg := BitVec.ofNat 83 (bitsAt w 105 48) }

/-- Counting updates of the pass carry the frame's length as received (R347). -/
def State.lengthStats (s : State) (from_ len : Nat) : State :=
  s.setTe { s.te with stats := s.te.stats.take from_ ++ (s.te.stats.drop from_).map (fun u => { u with bytes := len }) }

/-! ### The end of a pass -/

def State.actionCount (s : State) (pipe i n : Nat) : State :=
  s.modPipe pipe (fun p => { p with actionCnt := cbump p.actionCnt i n })

/-- The packet's last pass has left the action engine (R64, R141, R202). -/
def State.exitBanks (s : State) (pipe : Nat) (pkt : Packet) : State :=
  s.modPipe pipe (fun p => ((((p.land 0 pkt.ruleBank).land 1 pkt.graphBank).land 2 pkt.custBank).land 3 pkt.actBank).land 4 pkt.patchBank)

/-! ### Pattern sets (R145, R146) -/

/-- Blocks of the automata memory that sets, and old contents still in use, do not hold. -/
def State.freeAutomata (s : State) : Nat :=
  3072 - (tsome s.ctl.sets).foldl (fun n p => n + p.2.blocks) 0 -
    s.ctl.setLoads.foldl (fun n l => match l.old with | some p => n + p.blocks | none => n) 0

/-- The result of a PATTERN_SET_LOAD: the set's blocks and the free blocks. -/
def State.setLoadResult (s : State) (n : Nat) : BitVec 128 :=
  resultOf [(16, 4, match tget s.ctl.sets none n with | some p => p.blocks | none => 0), (20, 4, s.freeAutomata)]

/-- A packet whose passes are not over. -/
def State.undecided (s : State) (id : Nat) : Bool := match s.packet id with | some p => !p.decided | none => false

/-- Loads whose old contents no packet needs any more free them and respond. -/
def State.setLoadsSettle (s : State) : State :=
  if s.ctl.setLoads = [] then s
  else
    let l := s.ctl.setLoads.map (fun x => { x with packets := x.packets.filter s.undecided })
    let s := { s with ctl := { s.ctl with setLoads := l.filter (fun x => x.packets != []) } }
    forAll (l.filter (fun x => x.packets == [])) s (fun x s => s.finish x.mb rowPatternSetLoad (s.setLoadResult x.set))

/-- The contents against which a packet was captured. -/
def State.setOf (s : State) (id n : Nat) : Option PatternSet :=
  match s.ctl.setLoads.find? (fun x => x.set == n && x.packets.contains id) with
  | some x => x.old
  | none => tget s.ctl.sets none n

/-- Forget a packet that is received and decided. -/
def State.retire (s : State) (id : Nat) : State :=
  match s.packet id with
  | some p => if p.decided && p.ended.isSome then s.setPacket id none else s
  | none => s

/-- The decision of a packet's last pass: its record joins the digest at the good end of its reception (R413–R416). -/
def State.decideEnd (s : State) (id : Nat) (pkt : Packet) (hash : BitVec 64) : State :=
  let h := if pkt.unsettled then none else some hash
  let s := s.setPacket id (some { pkt with decided := true, digestHash := h, state := none })
  let s := match h, pkt.ended with
    | some x, some .ok => s.digestAdd pkt.port pkt.frameNo.toNat x pkt.digestStamp
    | _, _ => s
  (s.retire id).setLoadsSettle

/-- A drop of a pass: counted under its reason. -/
def State.passDrop (s : State) (pipe reason : Nat) : State :=
  if 2 ≤ reason && reason ≤ 10 then s.actionCount pipe reason 1
  else if reason = dropParse then s.parseCount pipe 2 1
  else if reason = dropParseFault then s.parseCount pipe 3 1
  else s

/-! ### Isolation (R211–R213, R21) -/

def State.matrixRow (s : State) (pipe slc : Nat) : MatrixRow :=
  let m := if (s.pipe pipe).matrixCopy then s.ctl.matB else s.ctl.matA
  tget m MatrixRow.zero slc

/-- A refused copy: counted for the slice and logged once per cycle. `part` as code 32 names it. -/
def State.isolationDrop (s : State) (pipe slc port part : Nat) : State :=
  let s := s.modPipe pipe (fun p => { p with isoDrop := cbump p.isoDrop slc 1, actionCnt := cbump p.actionCnt 11 1 })
  if (s.pipe pipe).isoLogged = some s.cycles then s
  else (s.modPipe pipe (fun p => { p with isoLogged := some s.cycles })).raise (pipeBlock pipe) 32
    (slc + port * 256 + part * 65536) false

/-! ### Frames formed by a pass -/

/-- The rate of a port permits cut-through from another (R231). -/
def State.cutOk (s : State) (pipe q : Nat) (pkt : Packet) (dest : FrameDest) : Bool :=
  let p := s.pipe pipe
  let from_ := (s.port pkt.port).cfg.rate
  p.latencyGear == 1 && pkt.pass == 0 && (s.queueOf q).isEmpty && pkt.ended.isNone &&
    (match dest with
     | .port k => !(s.port k).cfg.subscriber && (s.port k).cfg.rate ≤ from_
     | .fabric _ _ => 7 ≤ from_
     | _ => false)

/-- The limit of the egress port is exceeded by a frame of these stored bytes (R209). -/
def State.oversize (s : State) (dest : FrameDest) (b : Bytes) : Bool :=
  match dest with
  | .port k => decide ((s.port k).cfg.limit b < b.length + 4)
  | _ => false

/-- Count a drop EGRESS_OVERSIZE of the pipe; a marked frame is a lifeline loss of its egress port. -/
def State.oversizeDrop (s : State) (pipe : Nat) (x : Frame) : State :=
  let s := s.actionCount pipe dropOversize 1
  if x.lifeline then s.lifelineLoss x.dropPort x.slice 1 else s

/-- Complete a stored frame whose packet has been received well: its cells are written, then the length is checked. -/
def State.completeFrame (s : State) (f : Nat) : State :=
  let s := s.writeCells 64 f
  match s.frame f with
  | none => s
  | some x =>
    if x.stomp then s
    else if x.l3bad then s.dropFrame f 8 x.dropPort
    else if !x.cut && s.oversize x.dest x.bytes then
      let s := (s.unqueue x.queue f).releaseFrame f
      s.oversizeDrop x.store x
    else s.setFrame f (some { x with complete := true, pkt := match x.dest with | .recirc => x.pkt | _ => none })

/-- Present a frame of a pass to its store. -/
def State.present (s : State) (pipe : Nat) (id : Nat) (pkt : Packet) (x : Frame) : Option Nat × State :=
  let q := { x with store := pipe }.queue
  match pkt.ended with
  | some .ok =>
    if s.oversize x.dest x.bytes then (none, s.oversizeDrop pipe x)
    else if x.l3bad then (none, s.countDrop x.dropPort 8 x)
    else
      let r := s.admitFrame pipe q { x with store := pipe, pkt := some id }
      match r.1 with
      | some f => let s := r.2.completeFrame f; (if (s.frame f).isSome then some f else none, s)
      | none => r
  | some _ => (none, s.countDrop x.dropPort 8 x)
  | none =>
    let r := s.admitFrame pipe q { x with store := pipe, pkt := some id, cut := !x.mirror && s.cutOk pipe q pkt x.dest }
    match r.1 with
    | some f => match r.2.packet id with
      | some p => (some f, r.2.setPacket id (some { p with frames := p.frames ++ [f] }))
      | none => (some f, r.2)
    | none => r

/-- The next channel in the ring with a region block that holds no copies (R301). -/
def FarStore.captureChannel (f : FarStore) : Option Nat :=
  let start := match f.captureBlocks.getLast? with | some b => ringPos b.channel + 1 | none => 0
  ((List.range 24).map (fun i => ringAt (start + i))).find? (fun c =>
    decide ((f.captureBlocks.filter (fun b => b.channel == c)).length < tget f.region 0 c))

/-- The region's oldest block is overwritten: the copies with a byte in it are gone (R301). -/
def FarStore.captureOverwrite (f : FarStore) : FarStore :=
  match f.captureBlocks with
  | [] => f
  | b :: r => { f with captureBlocks := r, captured := f.captured.filter (fun x => !x.blocks.contains b.seq) }

/-- Put `n` more bytes of a copy into the region, in the format of R238; `first` while its record is to be written. -/
def FarStore.putCopy (fuel : Nat) (f : FarStore) (wrap : Bool) (n time : Nat) (first : Bool) (used : List Nat) :
    Option (List Nat × FarStore) :=
  match fuel with
  | 0 => none
  | k + 1 =>
    if n = 0 then some (used, f)
    else
      match f.captureBlocks.getLast?.filter (fun b =>
          decide (b.used < 3840) && !(first && (decide (30 ≤ b.records) || !offsetFits time b.base))) with
      | some b =>
        let m := min n (3840 - b.used)
        let b' := { b with used := b.used + m, records := if first then b.records + 1 else b.records }
        FarStore.putCopy k { f with captureBlocks := f.captureBlocks.dropLast ++ [b'] } wrap (n - m) time false (used ++ [b.seq])
      | none =>
        match f.captureChannel with
        | some c =>
          let b : CaptureBlock := { seq := f.captureSeq, channel := c, used := 0, records := 0, base := time }
          FarStore.putCopy k { f with captureBlocks := f.captureBlocks ++ [b], captureSeq := f.captureSeq + 1 } wrap n time first used
        | none =>
          if wrap && f.captureBlocks.head?.any (fun b => !used.contains b.seq) then
            FarStore.putCopy k f.captureOverwrite wrap n time first used
          else none

/-- A copy for the capture buffer (R301): written to the region, over the oldest blocks with WRAP; dropped and counted where the
region has no room. -/
def State.capture (s : State) (x : Frame) (wrap : Bool) : State :=
  match s.far.putCopy 32 wrap x.bytes.length x.ingressTime true [] with
  | some (ks, f) => { s with far := { f with captured := f.captured ++ [{ frame := x, blocks := ks, refilling := false }] } }
  | none => { s with far := { s.far with captureDrops := s.far.captureDrops + 1 } }

/-- Form the copy of a mirror session (R208, R245, R301). -/
def State.mirrorCopy (s : State) (pipe id : Nat) (pkt : Packet) (bank : ActionBank) (ipOffset session : Nat) : State :=
  let w := (tget bank.sessions 0 session).toNat
  let trunc := bitsAt w 16 16
  let b := if trunc = 0 then pkt.bytes else pkt.bytes.take trunc
  let port := bitsAt w 0 8
  let s := s.actionCount pipe 14 1
  let x : Frame := { Frame.blank with
    bytes := padFrame b, slice := pkt.slice, cls := bitsAt w 8 8 % 8, mirror := true,
    ipOffset := if ipOffset + 20 ≤ b.length then ipOffset else 0x1FF, ingressPort := pkt.port, entry := pipe,
    ingressTime := pkt.stamp, dest := .port port, rxStamp := pkt.rxStamp, tsValid := pkt.tsValid }
  match s.far.use, s.far.capture with
  | .capture _ session' wrap, .capturing =>
    if session' = session then (if pkt.ended.all (· == .ok) then s.capture x wrap else s)
    else
      let d := s.draw
      (d.2.present pipe id pkt { x with destQueue := d.1.toNat % 1048576 }).2
  | _, _ =>
    let d := s.draw
    (d.2.present pipe id pkt { x with destQueue := d.1.toNat % 1048576 }).2

/-- What a pass decides, in the terms of the decision record: kind (5 drop), value, class, queue. -/
structure Verdict where
  kind  : Nat
  value : Nat
  cls   : Nat
  queue : Nat
deriving DecidableEq, Repr

/-- The hash of a verdict on a packet. -/
def verdictHash (pkt : Packet) (v : Verdict) (b : Bytes) (slc : Nat) (mirrors : List Nat) (lifeline ts : Bool) : BitVec 64 :=
  recordHash (decisionRecord pkt.port pkt.frameNo.toNat v.kind v.value v.cls v.queue b.length slc
    (crc32c 0 (b.take (min b.length 128))) (mirrors.foldl (fun m n => m ||| 2 ^ n) 0)
    (pkt.pass + bit lifeline * 4 + bit ts * 8))

/-- End a packet with a drop at its pass. -/
def State.endDropped (s : State) (pipe id : Nat) (pkt : Packet) (reason : Nat) (b : Bytes) (mirrors : List Nat) : State :=
  let s := (s.passDrop pipe reason).exitBanks pipe pkt
  s.decideEnd id pkt (verdictHash pkt { kind := 5, value := (Config.dropReasonCode reason).toNat, cls := 0, queue := 0 } b pkt.slice mirrors false pkt.tsReq)

/-! ### The rule search, the program and the decision -/

/-- The reasons that a packet raises now for the first time are counted: each counts packets (Table 6-11). -/
def State.reasonsCount (s : State) (pipe : Nat) (pkt : Packet) (l : List Nat) : Packet × State :=
  let fresh := l.eraseDups.filter (fun r => !pkt.raised.contains r)
  ({ pkt with raised := pkt.raised ++ fresh }, forAll fresh s (fun r s => s.parseCount pipe (5 + r) 1))

/-- The words of a pipe's action bank that have bad parity. -/
def State.badActions (s : State) (pipe : Nat) (bank : Bool) : List BadWord :=
  s.bad.filter (fun x => x.parityShows && (match x.word with
    | .instruction p b _ | .template p b _ | .plan p b _ | .profile p b _ | .session p b _ => p == pipe && b == bank
    | _ => false))

/-- The bad plan, or profile of one of its rule searches, that a pass reads. -/
def badLookup (bad : List BadWord) (pkt : Packet) (portPlan w : Nat) : Option BadWord :=
  let plan := if pkt.pass = 0 then portPlan else pkt.plan
  bad.find? (fun x => match x.word with
    | .plan _ _ n => n == plan
    | .profile _ _ n => (List.range 2).any (fun j => bitAt w (190 + j) && bitsAt w (186 - 4 * j) 4 == n)
    | _ => false)

/-- The words with bad parity of a packet's graph bank and customer bank in a pipe, as the parse names them. -/
def State.badParse (s : State) (pipe : Nat) (pkt : Packet) : List Nat :=
  (s.bad.filter (·.parityShows)).filterMap (fun x => match x.word with
    | .graphNode p b n => if p = pipe && b = pkt.graphBank then some (3 * n) else none
    | .transition p b n => if p = pipe && b = pkt.graphBank then some (3 * n + 1) else none
    | .customer p b n => if p = pipe && b = pkt.custBank then some (3 * n + 2) else none
    | _ => none)

/-- The word that a parse fault names. -/
def parseWord (pipe : Nat) (pkt : Packet) (code : Nat) : ChipWord :=
  match code % 3 with
  | 0 => .graphNode pipe pkt.graphBank (code / 3)
  | 1 => .transition pipe pkt.graphBank (code / 3)
  | _ => .customer pipe pkt.custBank (code / 3)

/-- A pass that meets an injected code of its pipe (R388). -/
def State.injectedMet (s : State) (pipe code : Nat) : Bool × State :=
  if (s.pipe pipe).injected.contains code then
    (true, s.modPipe pipe (fun p => { p with injected := p.injected.erase code })) else (false, s)

/-- A row with bad parity permits nothing (R212 step 1): the row, and its drops counted as the copies of a decision. -/
def State.badRow (s : State) (pipe slc : Nat) : Option BadWord :=
  s.bad.find? (fun x => x.parityShows && x.word == .matrixRow pipe (s.pipe pipe).matrixCopy slc)

/-- The checker's row of a decision is bad: `n` copies are dropped. True in the first place when it is. -/
def State.rowFault (s : State) (pipe slc n : Nat) : Bool × State :=
  let q := s.injectedMet pipe 7
  match s.badRow pipe slc with
  | some x => (true, (q.2.wordFault (pipeBlock pipe) 7 slc x).actionCount pipe 12 n)
  | none => if q.1 then (true, q.2.actionCount pipe 12 n) else (false, q.2)

/-- Hand a packet's candidates on, or hold them until its FCS is verified (R169). -/
def State.learnHold (s : State) (id : Nat) (pkt : Packet) (l : List LearnRequest) : State :=
  match pkt.ended with
  | some .ok => forAll l s (fun r s => s.learnSubmit r)
  | some _ => s
  | none => match s.packet id with
    | some p => s.setPacket id (some { p with learns := p.learns ++ l })
    | none => s

/-- The part of a pass after its key vector is complete: lookups, program, isolation, frames. -/
def State.passRest (s : State) (pipe id : Nat) (pkt : Packet) (ps : PassState) (w : Nat) : State :=
  let key := ps.key.toNat
  let slowReason := bitsAt key 24 8
  let nstat := s.te.stats.length
  let bad := s.badActions pipe pkt.actBank
  let micro := s.microRun 1 (pipeBlock pipe) pkt.patchBank
  let s := micro.2
  let lost := badLookup bad pkt (tget (s.actionBank pkt.actBank).portPlans 0 pkt.port) w
  if micro.1 || lost.isSome then
    (match lost with | some b => s.wordFault (pipeBlock pipe) 6 b.address b | none => s).endDropped pipe id pkt dropFault pkt.bytes []
  else
  let q := s.lookupAll pkt pipe w key (slowReason ≠ 0)
  let l := q.1
  let s := q.2
  let bank := s.actionBank pkt.actBank
  let win := winnerOf w l.results
  let flowTag := BitVec.ofNat 32 win.arg.toNat
  let graph := if pkt.graphBank then s.ctl.graphB else s.ctl.graphA
  let x : PassInput := { key := key, results := l.results, winner := win, pkt := pkt, pktId := id, pipe := pipe, graph := graph, bank := bank, bad := bad }
  let run0 := Run.start pkt.bytes ps.headers ps.headerEnd pkt.slice
  let run := match bank.program win.program with
    | none => (run0.dropBy dropRange, s)
    | some (a, n) =>
      if l.limited then (run0.dropBy dropLearnLimit, s) else (s.actionCount pipe 0 1).runProgram run0 x a n
  let r := run.1
  let s := run.2.lengthStats nstat pkt.length
  match r.fault with
  | some b => (s.wordFault (pipeBlock pipe) 6 b.address b).endDropped pipe id pkt dropFault pkt.bytes []
  | none =>
  let ttl := s.reasonsCount pipe pkt (if r.ttlMet then [6] else [])
  let pkt := ttl.1
  let s := ttl.2
  let pkt := { pkt with slice := r.slc, unsettled := pkt.unsettled || l.unsettled || r.policed,
                        tsReq := pkt.tsReq || r.tsReq, tsTag := if r.tsReq then flowTag else pkt.tsTag }
  let s := s.setPacket id (some { pkt with state := none })
  let slow := slowReason ≠ 0 || r.ttlSlow
  -- the forwarding part: a drop, or a kind and value; kind 6 stands for recirculation
  let part : Option Nat × Nat × Nat :=
    if r.drop.isSome then (r.drop, 5, 0)
    else if slow then (none, 4, match r.dest with | some (4, v, _) => v | _ => 0)
    else match r.recirc with
      | some _ => if pkt.pass = 3 then (some dropRecircLimit, 5, 0) else (none, 6, 0)
      | none => match r.dest with
        | some (k, v, _) => (none, k, v)
        | none => (some dropNoDest, 5, 0)
  let kind := part.2.1
  let value := part.2.2
  let reason := if slowReason ≠ 0 then slowReason else if r.ttlSlow then 6
    else match r.dest with | some (4, _, n) => n | _ => 0
  let free := s.draw
  let needQueue := part.1.isNone && kind ≠ 6 && r.queue.isNone
  let s := if needQueue then free.2 else s
  let cls := match r.queue with | some (c, _) => c | none => if needQueue then free.1.toNat % 8 else 0
  let queue := match r.queue with | some (_, n) => n | none => if needQueue then free.1.toNat / 8 % 1048576 else 0
  let lifeline := part.1.isNone && (kind = 1 || kind = 2 || kind = 3) && (match r.queue with | some (7, _) => true | _ => false) &&
    (s.slice r.slc).lifeline
  let s := if lifeline && kind = 1 then s.lifelineIn value r.slc else s
  -- isolation
  let fault := s.rowFault pipe r.slc (r.mirrors.length + bit part.1.isNone)
  let s := fault.2
  if fault.1 then
    let s := if lifeline && kind = 1 then s.lifelineLoss value r.slc 1 else s
    s.endDropped pipe id pkt dropIsolationFault pkt.bytes []
  else
  let row := s.matrixRow pipe r.slc
  let admits := row.ports.getLsbD pkt.port
  let mirrors := r.mirrors
  let okMirror (m : Nat) : Bool := admits && row.dest.getLsbD (bitsAt (tget bank.sessions 0 m).toNat 0 7)
  let refused : Nat :=
    if part.1.isSome then 0
    else if !admits then 1
    else match kind with
      | 1 => if row.dest.getLsbD value then 0 else 2
      | 3 => if row.fabric.getLsbD (bitsAt value 16 2) then 0 else 4
      | 4 => if row.host then 0 else 5
      | 6 => if row.recirc then 0 else 6
      | _ => 0
  let s := if refused = 0 then s else s.isolationDrop pipe r.slc pkt.port refused
  let s := if refused ≠ 0 && lifeline && kind = 1 then s.lifelineLoss value r.slc 1 else s
  let s := forAll (mirrors.filter (fun m => !okMirror m)) s (fun _ s => s.isolationDrop pipe r.slc pkt.port (if admits then 3 else 1))
  let drop := if refused ≠ 0 then some dropIsolation else part.1
  -- learning
  let s := if slow || r.noLearn || refused ≠ 0 || !admits then s else s.learnHold id pkt l.learns
  -- mirror copies
  let ipOffset := match ps.headers.find? (fun h => h.cls = 5 || h.cls = 6) with | some h => h.start | none => 0x1FF
  let s := forAll (mirrors.filter okMirror) s (fun m s => s.mirrorCopy pipe id pkt bank ipOffset m)
  let edited := r.complete run0.segs pkt.bytes.length
  let pkt := match s.packet id with | some p => p | none => pkt
  match drop with
  | some n => (if n = dropIsolation then s else s).endDropped pipe id pkt n edited.1 mirrors
  | none =>
    if kind = 6 then
      let rc := (s.pipe pipe).recirc
      if !rc.enable || rc.limit ≤ s.cellsOf (s.queueOf (qRecirc pipe)) then s.endDropped pipe id pkt dropRecircFull edited.1 mirrors
      else
        let s := s.actionCount pipe 1 1
        let next := r.recirc.getD (0, 0)
        let pkt := { pkt with plan := next.1, recircData := BitVec.ofNat 32 next.2 }
        let s := s.setPacket id (some pkt)
        let f : Frame := { Frame.blank with
          bytes := edited.1, slice := r.slc, ingressPort := pkt.port, entry := pipe, ingressTime := pkt.stamp,
          dest := .recirc, account := some (pkt.port, pkt.priority), rxStamp := pkt.rxStamp, tsValid := pkt.tsValid }
        let o := s.present pipe id pkt f
        match o.1 with
        | some _ => o.2
        | none => match o.2.packet id with
          | some p => o.2.endDropped pipe id p 0 edited.1 mirrors
          | none => o.2
    else
      let b := if slow then pkt.received else edited.1
      let dest : FrameDest := match kind with
        | 1 => .port value
        | 2 => .group value
        | 3 => .fabric (bitsAt value 16 2) (bitsAt value 0 7)
        | _ => .host
      let q := if kind = 2 || kind = 4 then value else queue
      let f : Frame := { Frame.blank with
        bytes := padFrame b, slice := r.slc, cls := cls, colour := BitVec.ofNat 2 r.colour, lifeline := lifeline,
        tsReq := pkt.tsReq, ipOffset := if slow then ipOffset else edited.2, ingressPort := pkt.port, destQueue := q,
        entry := pipe, ingressTime := pkt.stamp, dest := dest, slowReason := if kind = 4 then reason else 0,
        rxStamp := pkt.rxStamp, tsValid := pkt.tsValid, flowTag := if kind = 4 then flowTag else pkt.tsTag,
        permitPorts := row.dest, permitFabric := row.fabric, account := some (pkt.port, pkt.priority),
        l3bad := (s.pipe pipe).latencyGear == 3 && pkt.l3bad }
      let s := (s.exitBanks pipe pkt)
      let s := (s.present pipe id pkt f).2
      let v : Verdict := { kind := kind, value := value, cls := cls, queue := if kind == 1 || kind == 4 then q else 0 }
      match s.packet id with
      | some p => s.decideEnd id p (verdictHash p v (padFrame b) r.slc mirrors lifeline p.tsReq)
      | none => s

/-- The lookup plan of a packet's pass (R184). -/
def State.planWord (s : State) (pkt : Packet) : Option Nat :=
  let a := s.actionBank pkt.actBank
  let n := if pkt.pass = 0 then tget a.portPlans 0 pkt.port else pkt.plan
  let w := (tget a.plans 0 n).toNat
  if bitAt w 255 then some w else none

/-- A pass from its parse to the matcher's hold or its end. -/
def State.passStart (s : State) (pipe id : Nat) : State :=
  match s.packet id with
  | none => s
  | some pkt =>
    let g := if pkt.graphBank then s.ctl.graphB else s.ctl.graphA
    let store := if pkt.custBank then s.ctl.custB else s.ctl.custA
    let start := if pkt.pass = 0 then g.starts.getD pkt.port 0 else g.recircStart
    let micro := s.microRun 0 (pipeBlock pipe) pkt.patchBank
    let armed := micro.2.injectedMet pipe 6
    let s := armed.2
    let p := parsePacket g store (s.port pkt.port).cfg.extraTpid.toNat pkt.bytes start s.freeIx (s.badParse pipe pkt)
    let s := { s with freeIx := p.ix }
    let s := ((s.parseCount pipe 0 1).parseCount pipe 4 p.words)
    let raised := s.reasonsCount pipe pkt p.reasons
    let pkt := raised.1
    let s := raised.2
    let s := if p.slow ≠ 0 then s.parseCount pipe 1 1 else s
    let key := p.vector pkt.port pkt.pass (bit pkt.ruleBank) pkt.recircData.toNat
    let pkt := { pkt with l3bad := if pkt.pass = 0 then l3Bad pkt.bytes p.headers (p.has 15) else pkt.l3bad }
    let met := p.fault.bind (fun c => s.badWord (parseWord pipe pkt c))
    if micro.1 || armed.1 || met.isSome then
      (match met with | some b => s.wordFault (pipeBlock pipe) 6 b.address b | none => s).endDropped pipe id pkt dropParseFault pkt.bytes []
    else if p.drop then s.endDropped pipe id pkt dropParse pkt.bytes []
    else match s.planWord pkt with
      | none => s.endDropped pipe id pkt dropRange pkt.bytes []
      | some w =>
        let ps : PassState := { key := BitVec.ofNat 1536 key, headers := p.headers, headerEnd := p.bytes,
                                depth := matchDepth (s.pipe pipe).matchGear }
        if s.hasMatcher && pkt.patternSet ≠ 0 then
          (((s.setPacket id (some { pkt with state := some ps })).modPipe pipe (fun x =>
            { x with matching := x.matching ++ [id] }))).perfEdge (pipeBlock pipe) 0x0104
        else s.passRest pipe id pkt ps w

/-- A bad word of the pattern automata is found in a pipe: logged, and repaired from a valid shadow. -/
def State.patternsBad (s : State) (p a : Nat) : State :=
  let lost := !s.te.shadowValid
  (((s.disarm (pipeBlock p) 2).parityEvent a 5 (bit lost)).teCount (if lost then 12 else 11)).raise (pipeBlock p) (if lost then 5 else 4) a true

/-- The matcher reads the automata as it inspects. Whether it reads the word of an armed injection is a free value; 16 failures within
1 s fence the slice (Table 14-7). -/
def State.patternsRead (s : State) (p : Nat) : State :=
  match tget (s.block (pipeBlock p)).armed none 2 with
  | some (5, a, _) =>
    let d := s.draw
    if !d.1.getLsbD 0 then d.2
    else
      let s := d.2.patternsBad p a
      let unit := 1024 + p
      let f := s.failureCount unit (s.failureNext unit) 1000000000 16
      if f.1 then f.2.unitFenced 4 p (if s.te.shadowValid then 4 else 5) true 0xFF else f.2
  | _ => s

/-- The matcher's result of a held packet (R143, R144, Table 6-14). -/
def State.passMatched (s : State) (pipe id : Nat) : State :=
  match s.packet id with
  | none => s
  | some pkt =>
    match pkt.state with
    | none => s
    | some ps =>
      let count (s : State) (i n : Nat) : State := s.modPipe pipe (fun x => { x with matchCnt := cbump x.matchCnt i n })
      let payload := pkt.bytes.drop ps.headerEnd
      let set := s.setOf id pkt.patternSet
      let live := !s.isFenced 4 pipe
      let res := match set with
        | some t => if live then matchResult t.patterns payload ps.depth else 0
        | none => 0
      let s := if bitAt res 0 then
          let s := count (count (s.patternsRead pipe) 0 1) 1 (min payload.length ps.depth)
          let s := if res / 65536 ≠ 0 then count s 2 1 else s
          if bitAt res 1 then count s 3 1 else s
        else count s 4 1
      let ps := { ps with key := BitVec.ofNat 1536 (putBits ps.key.toNat 192 32 res) }
      match s.planWord pkt with
      | none => s.endDropped pipe id pkt dropRange pkt.bytes []
      | some w => s.passRest pipe id pkt ps w

end Sys2Proof.Machine
end

