-- ==== Sys2Proof/Machine/SpokeOps.lean ====
section
/-! DEFINITION. The spokes: reception, hand-over to the pipes, MAC control, pause, link state and transmission
(chapter 05, with R209, R230–R232 and R246). -/
namespace Sys2Proof.Machine
open Sys2Proof

/-! ### Rates and pause times (R104, R117) -/

/-- Rate of a RATE code in Gb/s, and its lanes (Table 5-1). -/
def rateGb (code : Nat) : Nat :=
  match code with | 1 => 10 | 2 => 25 | 3 => 50 | 4 => 100 | 5 => 200 | 6 => 400 | 7 => 800 | _ => 0
def rateLanes (code : Nat) : Nat :=
  match code with | 1 => 1 | 2 => 1 | 3 => 1 | 4 => 1 | 5 => 2 | 6 => 4 | 7 => 8 | _ => 0

/-- A pause time of `q` quanta in ns at a rate code. -/
def quantaNs (q code : Nat) : Nat := ceilDiv (q * 512) (rateGb code)

/-! ### The receive FIFO (R114) -/

def State.fifoSize (s : State) (k : Nat) : Nat := 4096 * (s.port k).cfg.width

/-- Bytes held for packets whose heads the pipe has not taken. -/
def State.fifoUsed (s : State) (k : Nat) : Nat :=
  (tsome s.sw.packets).foldl (fun n p => if p.2.port == k && !p.2.started then n + p.2.arrived else n) 0

/-- The priorities of a port for which its receive FIFO has XOFF outstanding. -/
def Port.fifoPrios (p : Port) : List Nat := (List.range 8).filter (fun c => (p.prio c).txFifo)

/-- XOFF above half full for every priority of TX_MASK, XON below a quarter for those that occupancy does not hold. -/
def State.fifoCheck (s : State) (k : Nat) : State :=
  let p := s.port k
  let used := s.fifoUsed k
  let mark (on : Bool) (l : List Nat) : Port :=
    l.foldl (fun q c => q.setPrio c { q.prio c with txFifo := on }) { p with pause := { p.pause with fifoXoff := on } }
  if !p.pause.fifoXoff && s.fifoSize k < 2 * used then
    ((s.setPort k (mark true p.flowPrios)).perfEdge (spokeBlock (spokeOf k)) 0x0102).sendPause k
      (p.flowPrios.map (fun c => (c, p.pause.txQuanta)))
  else if p.pause.fifoXoff && 4 * used < s.fifoSize k then
    (s.setPort k (mark false p.fifoPrios)).sendPause k ((p.fifoPrios.filter (fun c => !(p.prio c).txXoff)).map (fun c => (c, 0)))
  else s

/-! ### Start of reception (R112, R114, R122, R413) -/

/-- The MAC receives frames. -/
def State.rxOpen (s : State) (k : Nat) : Bool :=
  let p := s.port k
  k < s.portCount && p.cfg.width ≠ 0 && p.cfg.admin && (p.link.link = .up || p.link.link = .holdDown) && !s.portFenced k

/-- The priority of a frame for flow control: PCP of its outermost tag, or UNTAGGED_PRI (R119). -/
def framePriority (c : PortCfg) (b : Bytes) : Nat :=
  if tagCount 1 c.extraTpid.toNat b 12 = 1 then beAt b 14 1 / 32 else c.untaggedPri

/-- The type field of a MAC control frame. -/
def isControl (b : Bytes) : Bool := beAt b 12 2 == 0x8808

/-- A packet at its first byte. -/
def State.newPacket (s : State) (k : Nat) (bytes : Bytes) (frame : BitVec 32) (symbolAt : Option Nat) : Packet :=
  let c := (s.port k).cfg
  let len := min bytes.length (c.limit bytes + 1)
  { port := k, bytes := bytes.take (len - 4), length := len, arrived := min len 64, limit := c.limit bytes, symbolAt := symbolAt, frameNo := frame, stamp := s.now,
    rxStamp := s.rxStampOf k, tsValid := (s.port k).link.tsValid, pass := 0, started := false, ruleBank := false,
    patchBank := false, graphBank := false, custBank := false, actBank := false, patternSet := 0, slice := 128, plan := 0,
    recircData := 0, priority := framePriority c bytes, ended := none, state := none, learns := [], frames := [],
    decided := false, unsettled := false, digestStamp := none, digestHash := none, l3bad := false, tsReq := false, tsTag := 0,
    received := bytes.take (len - 4), raised := [] }

/-- A frame starts arriving; `bytes` run from the destination address through the FCS, and `symbolAt` is the byte of the first
uncorrectable codeword or invalid code group in it. -/
def State.rxFrameStart (s : State) (k : Nat) (bytes : Bytes) (preambleOk : Bool) (symbolAt : Option Nat) : State :=
  if !s.rxOpen k || (s.port k).receiving.isSome then s
  else if !preambleOk then s.macCount k 2 1
  else
    let r := s.frameNumber k
    let s := r.2
    if s.fifoSize k < s.fifoUsed k + 256 then (s.macCount k 8 1).digestError k r.1.toNat
    else
      let id := s.sw.nextPacket
      let x := s.newPacket k bytes r.1 symbolAt
      let s := { s with sw := { s.sw with nextPacket := id + 1 } }
      let s := s.setPacket id (some x)
      let s := s.modPort k (fun p => { p with
        receiving := some id, waiting := if 64 ≤ bytes.length && !isControl bytes then p.waiting ++ [id] else p.waiting })
      s.fifoCheck k

/-! ### MAC control frames (R116, R117) -/

/-- Load the pause timer of a priority; during an ignore period received pause has no effect. -/
def PausePrio.load (x : PausePrio) (now ns : Nat) : PausePrio :=
  if x.storm then x
  else if ns = 0 then { x with until_ := none }
  else
    let held := match x.until_ with | some t => decide (now < t) | none => false
    { x with until_ := some (now + ns), since := if held then x.since else now }

/-- The state of scheduling follows a change of pause, link or contents of a port (R270, R275). -/
def State.refreshSched (s : State) (k : Nat) : State :=
  if (s.port k).cfg.subscriber then s.refreshPort k else (s.refreshNode (nodeKey 0 k)).refreshClasses k

/-- Quanta of a PAUSE or PFC frame for the priorities that it holds and the port obeys. -/
def State.controlTimes (s : State) (k : Nat) (b : Bytes) : List (Nat × Nat) :=
  let p := s.port k
  let op := beAt b 14 2
  if p.pause.mode = 1 && op = 0x0001 && p.pause.rxMask.getLsbD 0 then [(0, beAt b 16 2)]
  else if p.pause.mode = 2 && op = 0x0101 then
    ((List.range 8).filter (fun c => bitAt (beAt b 16 2) c && p.pause.rxMask.getLsbD c)).map (fun c => (c, beAt b (18 + 2 * c) 2))
  else []

/-- Any priority of a port of the spoke is paused by its partner. -/
def State.spokePaused (s : State) (n : Nat) : Bool :=
  (upFrom (8 * n) 8).any (fun k => (List.range 8).any (fun c => (s.port k).paused c s.now))

/-- A good MAC control frame is consumed. -/
def State.macControl (s : State) (k : Nat) (b : Bytes) : State :=
  let p := s.port k
  let op := beAt b 14 2
  let obeyed := if p.pause.mode = 1 && op = 0x0001 && p.pause.rxMask.getLsbD 0 then some 10
    else if p.pause.mode = 2 && op = 0x0101 then some 11 else none
  match obeyed with
  | none => s.macCount k 13 1
  | some i =>
    let l := s.controlTimes k b
    let top := p.pause.rxQuantaMax
    let before := s.spokePaused (spokeOf k)
    let s := s.macCount k i 1
    let s := if l.any (fun x => top < x.2) then s.macCount k 12 1 else s
    let now := s.now
    let s := s.modPort k (fun p => l.foldl (fun (p : Port) (x : Nat × Nat) =>
      p.setPrio x.1 ((p.prio x.1).load now (quantaNs (min x.2 top) p.cfg.rate))) p)
    let s := if before || !s.spokePaused (spokeOf k) then s else s.perfEdge (spokeBlock (spokeOf k)) 0x0104
    s.refreshSched k

/-! ### The end of reception (R112, R232) -/

/-- Counter of a cause of Table 5-3. -/
def RxCause.counter (c : RxCause) : Nat :=
  match c with
  | .ok => 0 | .preamble => 2 | .runt => 3 | .linkLoss => 9 | .overrun => 8 | .symbol => 7 | .oversize => 4
  | .stomped => 6 | .fcs => 5

/-- The copies of a stomped frame that egress ports hold end with it (R115). -/
def State.cutShort (s : State) (f n : Nat) : State :=
  let cut (t : TxFrame) : TxFrame := if t.frameId = f then { t with bytes := t.bytes.take n } else t
  forAll (tkeys s.ports) s (fun k s => s.modPort k (fun p => { p with staging := p.staging.map cut, sending := p.sending.map cut }))

/-- A frame formed from a packet that is found bad: stomped once its first cell was requested, else dropped. A stomped frame ends
at its ingress length: `lost` bytes of it never arrived. -/
def State.badFrame (s : State) (lost f : Nat) : State :=
  match s.frame f with
  | none => s
  | some x =>
    let n := x.bytes.length - lost
    if x.cut && x.granted ≠ 0 then
      let s := s.setFrame f (some { x with stomp := true, complete := true, pkt := none, bytes := x.bytes.take n })
      if lost = 0 then s else s.cutShort f n
    else s.dropFrame f 8 x.dropPort

/-- A packet on its way to its next pass has lost its stored frame: it ends without a further pass (R225, R64). -/
def State.recircLost (s : State) (id : Nat) (b : Bytes) : State :=
  match s.packet id with
  | some p => if p.decided then s else s.endDropped (pipeOf p.port) id p 0 b []
  | none => s

/-- Write more of a frame formed from a packet in reception. -/
def State.grow (s : State) (id f : Nat) (write : State → State) : State :=
  match s.frame f with
  | none => s
  | some x =>
    let s := write s
    if x.dest = .recirc && (s.frame f).isNone then s.recircLost id x.bytes else s

/-- A good packet ends: its frames are completed, its meters trued up, its candidates submitted and its decision settled. -/
def State.rxGood (s : State) (id : Nat) (x : Packet) : State :=
  let s := ((s.macCount x.port 0 1).macCount x.port 1 x.length).perfEvent (spokeBlock (spokeOf x.port)) 0x0100 1
  let s := s.setPacket id (some { x with ended := some .ok, arrived := x.length, learns := [], frames := [] })
  let s := forAll x.frames s (fun f s => s.grow id f (fun s => s.completeFrame f))
  let s := s.trueUp id x.length
  let s := forAll x.learns s (fun r s => s.learnSubmit r)
  let s := match x.digestHash with
    | some h => s.digestAdd x.port x.frameNo.toNat h x.digestStamp
    | none => s
  s.retire id

/-- A bad packet ends, with `n` bytes received: its frames are dropped or stomped; a packet that waits for its next pass has
none. -/
def State.rxBad (s : State) (id : Nat) (x : Packet) (c : RxCause) (n : Nat) : State :=
  let s := (s.macCount x.port c.counter 1).digestError x.port x.frameNo.toNat
  let lost := !x.decided && x.frames.any (fun f => match s.frame f with | some y => y.dest = .recirc | none => false)
  let s := s.setPacket id (some { x with ended := some c, arrived := n, learns := [], frames := [],
                                          decided := x.decided || lost })
  let s := forAll x.frames s (fun f s => s.badFrame (x.length - n) f)
  let s := s.trueUp id n
  let s := if lost then s.exitBanks (pipeOf x.port) x else s
  (s.retire id).setLoadsSettle

/-- The cause that ends a packet (R112): the one found earliest in the frame, those of one byte in the order of Table 5-3.
`early` are causes, with their bytes, that the table lists before SYMBOL, and `late` those after it. -/
def Packet.cause (x : Packet) (early late : List (Nat × RxCause)) : RxCause :=
  let symbol := match x.symbolAt with | some n => if n < x.length then [(n, RxCause.symbol)] else [] | none => []
  match minBy (·.1) (early ++ symbol ++ late) with | some c => c.2 | none => .ok

/-- Reception of a packet ends with a cause, `n` bytes of it received. -/
def State.rxEnd (s : State) (id : Nat) (c : RxCause) (n : Nat) : State :=
  match s.packet id with
  | none => s
  | some x =>
    let now := s.now
    let s := s.modPort x.port (fun p => { p with receiving := none, digest := { p.digest with lastFrame := now } })
    let held := isControl x.bytes || x.length < 64
    let s :=
      if held then
        let s := s.setPacket id none
        if c = .ok then s.macControl x.port x.bytes else (s.macCount x.port c.counter 1).digestError x.port x.frameNo.toNat
      else if c = .ok then s.rxGood id x
      else s.rxBad id x c n
    s.fifoCheck x.port

/-- The FIFO holds more than its size. -/
def State.fifoOver (s : State) (k : Nat) : Bool := s.fifoSize k < s.fifoUsed k

/-- Bytes of a packet in reception that its FIFO holds, at most. -/
def State.fifoRoom (s : State) (x : Packet) : Nat := s.fifoSize x.port + x.arrived - s.fifoUsed x.port

/-- The packet in reception exceeds its limit: its length was cut at limit + 1. -/
def Packet.overLimit (x : Packet) : Bool := x.limit < x.length

/-- 256 more bytes arrive: they join the FIFO, or are written to the cells of the frames formed from the packet. -/
def State.cellArrived (s : State) (k : Nat) : State :=
  match (s.port k).receiving with
  | none => s
  | some id =>
    match s.packet id with
    | none => s
    | some x =>
      let x := { x with arrived := min (x.arrived + 256) (if x.overLimit then x.length else x.length - 1) }
      let s := s.setPacket id (some x)
      if !x.started && s.fifoOver k then s.rxEnd id (x.cause [(s.fifoRoom x, .overrun)] []) (s.fifoRoom x)
      else if x.arrived = x.length then s.rxEnd id (x.cause [] [(x.length - 1, .oversize)]) x.length
      else
        let s := forAll x.frames s (fun f s => match s.frame f with
          | some y => if y.cells.length + 1 < cellsFor y.bytes.length then s.grow id f (fun s => s.writeCell f) else s
          | none => s)
        s.fifoCheck k

/-- Reception from the port ends in link loss (R109, R110, R112). -/
def State.rxLost (s : State) (k : Nat) : State :=
  match (s.port k).receiving with
  | none => s
  | some id => match s.packet id with
    | none => s
    | some x => s.rxEnd id (if (x.symbolAt.getD x.length) < x.arrived then .symbol else .linkLoss) x.arrived

/-- The cause of Table 5-3 that ends a frame at its last byte. -/
def State.rxCause (s : State) (x : Packet) (fcs : FcsOutcome) : RxCause :=
  let last := x.length - 1
  x.cause ((if x.length < 64 then [(last, .runt)] else []) ++
      (if !x.started && s.fifoRoom x < x.length then [(s.fifoRoom x, .overrun)] else []))
    (if x.overLimit then [(last, .oversize)]
     else match fcs with | .good => [] | .stomped => [(last, .stomped)] | .bad => [(last, .fcs)])

/-- The port's rate has the RS(544,514) FEC (Table 5-1). -/
def rateFec (code : Nat) : Bool := 3 ≤ code

/-- FEC counts: on PAM4 lanes whenever the port is administratively up and all its lanes hold alignment-marker lock (R112). LOCK
of an NRZ lane is block lock: a 50 Gb/s port counts while its MAC receives frames (log entry 135). -/
def State.fecCounts (s : State) (k : Nat) : Bool :=
  let p := s.port k
  p.cfg.width ≠ 0 && p.cfg.admin && rateFec p.cfg.rate && (upFrom k p.cfg.width).all (fun l => (s.lane l).lock) &&
    (p.cfg.rate ≠ 3 || s.rxOpen k)

/-- The last byte of a frame arrives. -/
def State.rxFrameEnd (s : State) (k : Nat) (fcs : FcsOutcome) (symbols : Nat) (fec : FecCounts) : State :=
  let s := if s.fecCounts k then
      ((((s.macCount k 20 fec.corrected).macCount k 21 fec.uncorrected).macCount k 22 symbols)).modPort k (fun p =>
        { p with link := { p.link with fecBadNow := p.link.fecBadNow || fec.uncorrected ≠ 0 } })
    else s
  let now := s.now
  match (s.port k).receiving with
  | none => if s.rxOpen k then s.modPort k (fun p => { p with digest := { p.digest with lastFrame := now } }) else s
  | some id =>
    match s.packet id with
    | none => s
    | some x => s.rxEnd id (s.rxCause x fcs) x.length

/-! ### Hand-over to the pipe (R64, R97, R103, R114, R141, R202, R211) -/

/-- The pipe takes the head of the port's oldest waiting packet. A frame whose head still waits in the receive FIFO has not arrived
for R147: it takes the pattern set that is bound now (log entry 144). -/
def State.headTaken (s : State) (k : Nat) : State :=
  match (s.port k).waiting with
  | [] => s
  | id :: r =>
    match s.packet id with
    | none => s.modPort k (fun p => { p with waiting := r })
    | some x =>
      if s.portFenced k then s
      else
        let pipe := pipeOf k
        let y := s.pipe pipe
        let x := { x with started := true, stamp := s.now, ruleBank := y.ruleBank, graphBank := y.graphBank, custBank := y.custBank,
                          actBank := y.actBank, patchBank := y.patchBank, slice := s.portSlice k,
                          patternSet := (s.port k).patternSet, digestStamp := s.configStamp }
        let s := (s.modPort k (fun p => { p with waiting := r })).setPacket id (some x)
        let s := s.setPipe pipe { ((((y.fly 0 x.ruleBank).fly 1 x.graphBank).fly 2 x.custBank).fly 3 x.actBank).fly 4 x.patchBank with
          heads := y.heads ++ [id] }
        (s.perfEvent (pipeBlock pipe) 0x0100 1).fifoCheck k

/-- The pipe takes the head of its recirculation queue, once the packet is written whole (R215, R231). -/
def State.recircHead (s : State) (pipe : Nat) : State :=
  match s.queueOf (qRecirc pipe) with
  | [] => s
  | f :: _ =>
    match s.frame f with
    | none => s
    | some x =>
      if !x.complete || s.isFenced 2 pipe then s
      else
        let s := (s.unqueue (qRecirc pipe) f).releaseFrame f
        match x.pkt with
        | none => s
        | some id =>
          match s.packet id with
          | none => s
          | some p =>
            let s := s.setPacket id (some { p with bytes := x.bytes, slice := x.slice, pass := p.pass + 1 })
            (s.modPipe pipe (fun y => { y with heads := y.heads ++ [id] })).perfEvent (pipeBlock pipe) 0x0103 1

/-- The next packet of a pipe takes its pass (R128–R216), up to the matcher's hold. -/
def State.packetPass (s : State) (pipe : Nat) : State :=
  match (s.pipe pipe).heads with
  | [] => s
  | id :: r => if s.isFenced 2 pipe then s else (s.modPipe pipe (fun y => { y with heads := r })).passStart pipe id

/-- The matcher answers for the packet held longest (R144). -/
def State.matcherResult (s : State) (pipe : Nat) : State :=
  match (s.pipe pipe).matching with
  | [] => s
  | id :: r => if s.isFenced 2 pipe then s else (s.modPipe pipe (fun y => { y with matching := r })).passMatched pipe id

/-! ### Link state (R108, R109, R246, R247) -/

/-- Every condition of R108. -/
def State.qualified (s : State) (k : Nat) : Bool :=
  let p := s.port k
  k < s.portCount && p.cfg.width ≠ 0 && p.cfg.admin && !s.portFenced k && (!p.cfg.linkTrain || p.link.trained) &&
    !p.link.localFault && !p.link.remoteFault &&
    (upFrom k p.cfg.width).all (fun l => let x := s.lane l; x.sd && x.cdr && x.lock)

def State.setLinkState (s : State) (k : Nat) (x : LinkState) : State :=
  s.modPort k (fun p => { p with link := { p.link with link := x } })

/-- A port is reported UP. -/
def State.reportUp (s : State) (k : Nat) : State :=
  let pair := s.paired
  let s := s.modPort k (fun p => { p with
    link := { p.link with link := .up, changeCount := p.link.changeCount + 1, tsValid := false },
    blocked := if p.flushing then p.blocked else false, digest := p.digest.realign pair })
  (s.event 4 k).refreshSched k

/-- A port is reported DOWN: its reception ends, and its queues are flushed. -/
def State.reportDown (s : State) (k : Nat) : State :=
  let s := (s.macCount k 23 1).modPort k (fun p => { p with
    link := { p.link with link := .down, changeCount := p.link.changeCount + 1 } })
  let s := s.rxLost k
  ((s.event 4 k).flushPort k).synceCheck

/-- The port's link state follows its qualification; a hold of 0 ms ends at once. -/
def State.requalify (s : State) (k : Nat) : State :=
  let p := s.port k
  let q := s.qualified k
  match p.link.link with
  | .down => if q then (if p.cfg.upHold = 0 then s.reportUp k else s.setLinkState k .holdUp) else s
  | .holdUp => if q then s else s.setLinkState k .down
  | .up => if q then s else if p.cfg.downHold = 0 then s.reportDown k else s.setLinkState k .holdDown
  | .holdDown => if q then s.setLinkState k .up else s

/-- A port is put DOWN at once, whatever its hold time (R110, Table 14-7). -/
def State.forceDown (s : State) (k : Nat) : State :=
  match (s.port k).link.link with
  | .down => s
  | .holdUp => s.setLinkState k .down
  | _ => s.reportDown k

/-- The ports, by number, that exist. -/
def State.portsPresent (s : State) : List Nat := (tkeys s.ports).filter (fun k => (s.port k).cfg.width ≠ 0)

/-- The port that a lane belongs to. -/
def State.portOfLane (s : State) (l : Nat) : Option Nat :=
  s.portsPresent.find? (fun k => k ≤ l && l < k + (s.port k).cfg.width)

/-- After a change of a lane. -/
def State.laneChanged (s : State) (l : Nat) : State :=
  match s.portOfLane l with | some k => (s.requalify k).synceCheck | none => s

/-! ### Transmission (R115, R117, R122, R123, R209, R234, R345, R350) -/

/-- Bytes with the ECN field of the IP header at an offset set to CE, and the IPv4 header checksum updated. -/
def markCe (b : Bytes) (off : Nat) : Bytes :=
  let v := beAt b off 1 / 16
  if off + 20 ≤ b.length && v = 4 then
    let b := overwrite b (off + 1) (beBytes 1 (beAt b (off + 1) 1 / 4 * 4 + 3))
    ipv4Csum b off (beAt b off 1 % 16 * 4)
  else if off + 2 ≤ b.length && v = 6 then
    let t := beAt b (off + 1) 1
    overwrite b (off + 1) (beBytes 1 (t / 64 * 64 + 48 + t % 16))
  else b

/-- The part of a plain frame that the crossbar has not delivered is released; a class queue's reference too. -/
def State.txRelease (s : State) (k : Nat) (t : TxFrame) : State :=
  let s := match t.queue with
    | some _ => s.deref t.frameId
    | none =>
      if t.complete then s
      else match s.frame t.frameId with
        | some x => if x.replicated then s.endTargets t.frameId (fun y => y.isPlain k) else (s.unqueue x.queue t.frameId).deref t.frameId
        | none => s
  s.modPort k (fun p => if p.chosen.any (fun c => c.2 == t.frameId) then { p with chosen := none } else p)

/-- A frame that meets the closed gate: counted in TX_GATED, and lost when it is marked. -/
def State.txGated (s : State) (k : Nat) (t : TxFrame) : State :=
  let s := (s.macCount k 19 1).txRelease k t
  if t.lifeline then s.lifelineLoss k t.slice 1 else s

/-- The port may start a frame. -/
def State.txOpen (s : State) (k : Nat) : Bool :=
  let p := s.port k
  p.sending.isNone && p.cfg.width ≠ 0 && p.cfg.admin && (p.link.link = .up || p.link.link = .holdDown) && !p.link.localFault &&
    !p.link.remoteFault && !s.portFenced k

/-- The place in transmit staging of the first frame whose class is not paused; frames of other classes pass those
that wait (R275). -/
def State.txNext (s : State) (k : Nat) : Option Nat :=
  let p := s.port k
  p.staging.findIdx? (fun t => decide (0 < t.cellsIn) && !p.paused t.cls s.now)

/-- The MAC starts the next frame of staging. -/
def State.txFrameStart (s : State) (k : Nat) : State :=
  match s.txNext k with
  | none => s
  | some i => match (s.port k).staging[i]? with
    | none => s
    | some t =>
      if !s.txOpen k then s
      else
      let s := s.modPort k (fun p => { p with staging := p.staging.eraseIdx i })
      if !s.gateOpen then s.txGated k t
      else
        let t := { t with bytes := if t.ce then markCe t.bytes t.ipOffset else t.bytes, stamp := s.txStampOf k,
                          stampOk := (s.port k).link.tsValid }
        let s := s.modPort k (fun p => { p with sending := some t })
        if t.mirror then s
        else match t.queue with
          | some q => s.probeOut (.queue q) (s.now - t.ingressTime)
          | none => s.probeOut (.portClass k t.cls) (s.now - t.ingressTime)

/-- What a port puts on its lanes. -/
inductive LineSignal where
  | electricalIdle | remoteFault | idle | frame
deriving DecidableEq, Repr

/-- Electrical idle behind a closed gate, and, once a frame in transmission has ended, on a port that is administratively down;
remote fault ordered sets during a local fault; idle otherwise, also on a received remote fault (R109, R110, R123). -/
def State.lineSignal (s : State) (k : Nat) : LineSignal :=
  let p := s.port k
  if !s.gateOpen || p.cfg.width = 0 || s.portFenced k then .electricalIdle
  else if p.sending.isSome then .frame
  else if !p.cfg.admin then .electricalIdle
  else if p.link.localFault then .remoteFault
  else .idle

/-- No data frame leaves during a fault (R109): the frame in transmission is cut off, which no counter of Table 5-14 counts. -/
def State.faultCut (s : State) (k : Nat) : State :=
  match (s.port k).sending with
  | none => s
  | some t =>
    let s := (s.modPort k (fun p => { p with sending := none })).txRelease k t
    if t.lifeline then s.lifelineLoss k t.slice 1 else s

/-- A frame in transmission has lost the source of its next cell (R232, R63). -/
def State.txStarved (s : State) (t : TxFrame) : Bool := !t.complete && (s.frame t.frameId).isNone

/-- The transmit timestamp record of a frame (R345). -/
def State.txStampRecord (s : State) (k : Nat) (t : TxFrame) (stomped : Bool) : State :=
  if !t.tsReq || t.mirror then s
  else
    let flags := bit t.stampOk + bit stomped * 2
    match t.hostRing with
    | some (ring, cookie) =>
      let n := (List.range 128).find? (fun n => let r := tget (s.slice n).ranges { first := 0, count := 0 } 16
                                               r.first ≤ ring && ring < r.first + r.count)
      let base := match n with | some n => (tget (s.slice n).ranges { first := 0, count := 0 } 16).first | none => 0
      s.counterEvent (sliceMbox (n.getD 128)) 2 k (ring - base) flags t.stamp.toNat cookie.toNat
    | none => s.counterEvent (sliceMbox t.slice) 2 k 0xFFF flags t.stamp.toNat t.flowTag.toNat

/-- The frame in transmission ends. It cannot end while cells of it are still to come. -/
def State.txFrameEnd (s : State) (k : Nat) : State :=
  match (s.port k).sending with
  | none => s
  | some t =>
    let starved := s.txStarved t
    if !t.complete && !starved then s
    else
      let bad := t.stomp || starved || (t.cut && t.limit < t.bytes.length + 4)
      let s := s.modPort k (fun p => { p with sending := none })
      let s := if starved && t.cut then s.xbarCount 2 1 else s
      let s := if bad then s.macCount k 16 1 else (s.macCount k 14 1).macCount k 15 (t.bytes.length + 4)
      let s := if !t.lifeline then s
        else if bad then s.lifelineLoss k t.slice 1
        else s.modPort k (fun p => { p with llOut := p.llOut + 1 })
      let s := match t.queue with
        | some q => if bad then s else (match s.classQueue q with
          | some x => s.setClassQueue q { x with sent := x.sent + 1 }
          | none => s)
        | none => s
      let s := s.perfEvent (spokeBlock (spokeOf k)) 0x0101 1
      ((s.txStampRecord k t bad).txRelease k t).refreshSched k

/-- The gates close: each frame in transmission ends with an error code group (R123). -/
def State.gatesClose (s : State) : State :=
  let s := { s with tandem := { s.tandem with gatesOpen := false } }
  let s := forAll (List.range s.spokes) s (fun n s => s.perfEdge (spokeBlock n) 0x0103)
  forAll s.portsPresent s (fun k s =>
    match (s.port k).sending with
    | some t => (s.modPort k (fun p => { p with sending := none })).txGated k t
    | none => s)

def State.gatesOpened (s : State) : State := { s with tandem := { s.tandem with gatesOpen := true } }

end Sys2Proof.Machine
end

