-- ==== Sys2Proof/Machine/ConsistencyOps.lean ====
section
/-! DEFINITION. Fences and drains, switches of the pipes, and gear changes (chapter 03, with R97–R100). -/
namespace Sys2Proof.Machine
open Sys2Proof

/-! ### Fences (R59–R63) -/

def State.fenceOf (s : State) (mb : Nat) : Option PendingFence := tget s.fences none mb
def State.setFence (s : State) (mb : Nat) (x : Option PendingFence) : State := { s with fences := tset s.fences none mb x }

/-- A stamp is earlier than the fence stamp of its entry point; other entry points stamp nothing. -/
def PendingFence.covers (f : PendingFence) (entry time : Nat) : Bool :=
  match f.stamps.find? (fun p => p.1 == entry) with | some p => time < p.2 | none => false

/-- Entry, ingress stamp and slice of every packet and stored copy in the device. -/
def State.inDevice (s : State) : List (Nat × Nat × Nat) :=
  ((tsome s.sw.packets).filter (fun p => p.2.started && !p.2.decided)).map (fun p => (pipeOf p.2.port, p.2.stamp, p.2.slice)) ++
  (tsome s.sw.frames).map (fun p => (p.2.entry, p.2.ingressTime, p.2.slice)) ++
  s.sw.intakes.flatMap (fun e => e.2.map (fun i => (i.frame.entry, i.frame.ingressTime, i.frame.slice))) ++
  (tsome s.sw.nodes).flatMap (fun n => n.2.queue.far.map (fun f => (f.frame.entry, f.frame.ingressTime, f.frame.slice))) ++
  s.ports.flatMap (fun p => (p.2.staging ++ p.2.sending.toList).map (fun t => (t.entry, t.ingressTime, t.slice)))

/-- Every packet that a fence covers for its mailbox has left. -/
def State.drained (s : State) (mb : Nat) (f : PendingFence) : Bool :=
  s.inDevice.all (fun x => !(f.covers x.1 x.2.1 && (mb == 0 || x.2.2 == mb - 1)))

/-- The response of a fence whose islands have all acknowledged. -/
def State.fenceRespond (s : State) (mb t : Nat) : State :=
  (s.setFence mb none).finish mb rowFence (resultOf [(16, 8, t), (24, 4, t / 1000000)])

/-- A message belongs to the owner of a mailbox: the manager's carries no slice. -/
def ownTag (mb : Nat) (tag : Option (Nat × BitVec 16)) : Bool :=
  match tag with | none => mb == 0 | some x => x.1 + 1 == mb

/-- Periodic snapshots of a mailbox that are being written, as timer and number. -/
def State.snapsRunning (s : State) (mb : Nat) : List (Nat × Nat) :=
  (tsome s.cad.timers).filterMap (fun t => match t.2.use with
    | .snapshot p => if p.mbox = mb && p.running.isSome then some (t.1, p.number) else none
    | _ => none)

/-- Vectors with a merged message of the owner, and tables of the owner whose notification interrupt is held back. -/
def State.mergedOf (s : State) (mb : Nat) : List Nat :=
  (s.host.vectors.filter (fun v => match v.2.merged with | some tag => ownTag mb tag | none => false)).map (·.1)
def State.heldNotices (s : State) (mb : Nat) : List Nat :=
  (tkeys s.tables.learn).filter (fun t => (s.learnCfg t).intPending && ownTag mb (s.learnTag t))

/-- Every event of the owner that was generated before the last acknowledgement has been written to host memory (R60). -/
def State.eventsOut (s : State) (mb : Nat) (f : PendingFence) : Bool :=
  f.vectors.all (fun v => !(s.mergedOf mb).contains v) && f.learns.all (fun t => !(s.heldNotices mb).contains t && !(s.mergedOf mb).contains (s.learnCfg t).vector) &&
    f.snaps.all (fun x => !(s.snapsRunning mb).contains x)

/-- The response is posted once the owner's events are out and, with DRAIN, the drain is complete (R60). -/
def State.fenceCheck (s : State) (mb : Nat) : State :=
  match s.fenceOf mb with
  | none => s
  | some f =>
    match f.done with
    | none => s
    | some t => if (!f.drain || f.empty) && s.eventsOut mb f then s.fenceRespond mb t else s

/-- Every pending fence is looked at again, when an event has been written. -/
def State.fencesCheck (s : State) : State := forAll (tkeys s.fences) s (fun mb s => s.fenceCheck mb)

/-- The islands that a fence awaits are those not left out and not fenced. -/
def State.awaited (s : State) (f : PendingFence) : List Nat := s.liveIslands.filter (fun i => !f.left.contains i)

/-- A fence has the acknowledgement of every island that it awaits: the time is that of the last acknowledgement. -/
def State.fenceSettle (s : State) (mb : Nat) : State :=
  match s.fenceOf mb with
  | none => s
  | some f =>
    if f.done.isSome || !(s.awaited f).all (fun i => f.acked.contains i) then s
    else
      let f := { f with done := some (f.lastAck.getD s.now), vectors := s.mergedOf mb, learns := s.heldNotices mb, snaps := s.snapsRunning mb }
      (s.setFence mb (some f)).fenceCheck mb

/-- A pending fence goes on without the islands that are fenced now (R63). -/
def State.fenceLeave (s : State) (mb : Nat) : State :=
  match s.fenceOf mb with
  | none => s
  | some f => s.setFence mb (some { f with left := f.left ++ (s.downIslands.filter (fun i => !f.left.contains i)) })

/-- An island acknowledges a fence; a pipe and the host port, in the control island, record their fence stamp. -/
def State.fenceAck (s : State) (mb island : Nat) : State :=
  match s.fenceOf mb with
  | none => s
  | some f =>
    if !(s.awaited f).contains island || f.acked.contains island then s
    else
      let now := s.now
      let stamps := if 16 ≤ island && island < 24 then tput f.stamps (island - 16) now
        else if island = 30 then tput f.stamps 8 now else f.stamps
      let s := if 16 ≤ island && island < 24 then s.modPipe (island - 16) (fun p => { p with fenceStamp := now })
        else if island = 30 then { s with hostStamp := now } else if island = 26 then s.trapped none else s
      (s.setFence mb (some { f with acked := f.acked ++ [island], stamps := stamps, lastAck := some now })).fenceSettle mb

/-- The drain of a fence is complete. -/
def State.drainComplete (s : State) (mb : Nat) : State :=
  match s.fenceOf mb with
  | none => s
  | some f =>
    if f.done.isSome && f.drain && s.drained mb f then (s.setFence mb (some { f with empty := true })).fenceCheck mb else s

/-! ### Gears (Table 1-7, Table 9-1) -/

/-- Cells of one pipe's ingress store, and of the near store, by buffer gear. -/
def pipeCells (g : Nat) : Nat := if g = 1 then 32768 else if g = 2 then 24576 else 40960
def State.nearSize (s : State) (g : Nat) : Nat :=
  if s.fuses.part = .bx6120 then (if g = 1 then 131072 else if g = 2 then 163840 else 98304)
  else if g = 1 then 131072 else if g = 2 then 196608 else 65536

def State.storeSize (s : State) (n g : Nat) : Nat := if n = 8 then s.nearSize g else pipeCells g

/-- The on-chip stores of the part. -/
def State.onChip (s : State) : List Nat := s.presentPipes ++ [8]

/-- The stores that lose cells in a change to a buffer gear. -/
def State.losers (s : State) (g : Nat) : List Nat := s.onChip.filter (fun n => s.storeSize n g < (s.store n).total)

/-- A losing store stops allocating the cells being transferred; its free ones are withheld (R71). -/
def Store.shrink (x : Store) (n : Nat) : Store :=
  { x with limit := n, chain := x.chain.filter (· < n), withheld := x.withheld ++ x.chain.filter (n ≤ ·) }

/-- The withheld cells return to the losing store's chain, and the old limit is restored. -/
def Store.unshrink (x : Store) : Store :=
  { x with limit := x.total, chain := x.chain ++ x.withheld, withheld := [] }

/-- The withheld cells leave the losing store. -/
def Store.handOver (x : Store) : Store :=
  { x with total := x.limit, free := x.free - x.withheldCount, withheld := [], fresh := min x.fresh x.limit }

/-- A gaining store takes its cells. -/
def Store.grow (x : Store) (n : Nat) : Store := { x with total := n, limit := n, free := x.free + (n - x.total) }

/-- End a gear change at its target and post the response. -/
def State.gearDone (s : State) (c : GearChange) : State :=
  let g := s.gears
  let g := match c.domain with
    | 1 => { g with table := c.target, change := none }
    | 2 => { g with buffer := c.target, change := none }
    | 3 => { g with matcher := c.target, change := none }
    | _ => { g with latency := c.target, change := none }
  ({ s with gears := g }).finish c.mb rowGearSet 0

/-- A buffer gear change: when every cell being transferred is withheld, hand them over. -/
def State.gearCheck (s : State) : State :=
  match s.gears.change with
  | none => s
  | some c =>
    if c.domain ≠ 2 then s
    else
      let l := s.losers c.target
      let done := l.foldl (fun n i => n + (s.store i).withheldCount) 0
      let s := { s with gears := { s.gears with change := some { c with done := done } } }
      if !l.all (fun i => (s.store i).withheldCount == (s.store i).total - (s.store i).limit) then s
      else
        let s := forAll l s (fun i s => s.setStore i (s.store i).handOver)
        let s := forAll (s.onChip.filter (fun i => !l.contains i)) s (fun i s =>
          s.setStore i ((s.store i).grow (s.storeSize i c.target)))
        s.gearDone { c with done := done }

/-- Undo a buffer gear change (R71, R42). -/
def State.gearUndo (s : State) : State :=
  match s.gears.change with
  | none => s
  | some c =>
    let s := { s with gears := { s.gears with change := none } }
    if c.domain = 2 then forAll (s.losers c.target) s (fun i s => s.setStore i (s.store i).unshrink) else s

/-! ### Activation of a bundle (R98–R100) -/

/-- The activation ends: the other bundle is active, and the inactive half holds the one that was. -/
def State.activated (s : State) (a : Activation) : State :=
  let old := s.fw.active
  let new := if a.revert then s.fw.previous else s.fw.staged
  match new with
  | none => { s with fw := { s.fw with activation := none } }
  | some b =>
    let s := { s with fw := { s.fw with
      active := some b, previous := old, staged := none, activation := none, bank := !s.fw.bank, fwMajor := b.fwMajor,
      fwMinor := b.fwMinor, commandLevel := b.commandLevel } }
    let s := s.fwRecord 4 a.mb 0 (if a.revert then 0x0304 else 0x0302) (if a.revert then 3 else 2) b.id.toNat
    (s.finish a.mb (if a.revert then rowPatchRevert else rowPatchActivate) 0).answerAll

/-! ### Switches of the pipes (R66, R72, R98, R103, R141, R202, R214) -/

/-- Every present, unfenced pipe is told to switch between two packets. -/
def State.pushSwitch (s : State) (l : List Nat) (x : Switch) : State :=
  forAll l s (fun p s => s.modPipe p (fun y => { y with switches := y.switches ++ [x] }))

/-- Some unfenced pipe has a switch of a kind still to make. -/
def State.switching (s : State) (k : Switch → Bool) : Bool := s.livePipes.any (fun p => (s.pipe p).switches.any k)

/-- Every pipe checks against the matrix copy last written: its load, or the SLICE_CREATE that zeroed a row, is answered. -/
def State.matrixFinish (s : State) (mb : Nat) : State :=
  let s := s.finish mb rowIsolationMatrixSet 0
  match (s.mbox mb).inExec with
  | some x => s.finish mb rowSliceCreate (resultOf [(16, 2, (s.slice (x.entry.u8 16)).gen.toNat)])
  | none => s

/-- Post what waits for the pipes and is no longer pending in any. -/
def State.switchSettle (s : State) : State :=
  let s := match s.swap.mb with
    | some mb => if s.switching (· == Switch.ruleBank) then s
        else ({ s with swap := { count := s.swap.count + 1, mb := none } }).finish mb rowRuleBankSwap 0
    | none => s
  let s := match s.gears.change with
    | some c => if c.domain = 3 && !s.switching (fun x => match x with | .matchGear _ => true | _ => false) ||
          c.domain = 4 && !s.switching (fun x => match x with | .latencyGear _ => true | _ => false)
        then s.gearDone c else s
    | none => s
  let s := match s.ctl.graphMb with
    | some mb => if s.switching (· == Switch.graph) then s
        else ({ s with ctl := { s.ctl with graphMb := none } }).finish mb rowParseGraphLoad 0
    | none => s
  let s := match s.ctl.custMb with
    | some mb => if s.switching (· == Switch.customer) then s
        else ({ s with ctl := { s.ctl with custMb := none } }).finish mb rowCustomerStoreLoad 0
    | none => s
  let s := match s.ctl.actMb with
    | some mb => if s.switching (· == Switch.action) then s
        else ({ s with ctl := { s.ctl with actMb := none } }).finish mb rowActionProgramLoad 0
    | none => s
  let s := match s.ctl.matMb with
    | some mb => if s.switching (· == Switch.matrix) then s
        else ({ s with ctl := { s.ctl with matMb := none } }).matrixFinish mb
    | none => s
  match s.fw.activation with
  | some a => if a.started && !a.tablePending && !s.switching (· == Switch.patch) then s.activated a else s
  | none => s

/-- A pipe makes its oldest pending switch. -/
def State.pipeSwitch (s : State) (p : Nat) : State :=
  let x := s.pipe p
  match x.switches with
  | [] => s
  | w :: r =>
    if s.isFenced 2 p then s
    else
      let x := { x with switches := r }
      let x := match w with
        | .ruleBank => { x with ruleBank := !s.ruleBank }
        | .matchGear g => { x with matchGear := g }
        | .latencyGear g => { x with latencyGear := g }
        | .graph => { x with graphBank := s.ctl.graphBank }
        | .customer => { x with custBank := s.ctl.custBank }
        | .action => { x with actBank := s.ctl.actBank }
        | .matrix => { x with matrixCopy := s.ctl.matCopy, matrixLoads := x.matrixLoads + 1 }
        | .patch => { x with patchBank := !s.fw.bank }
      (s.setPipe p x).switchSettle

/-- The switches that a pipe which returns while they are under way still has to make. -/
def State.lateSwitches (s : State) : List Switch :=
  (if s.swap.mb.isSome then [Switch.ruleBank] else []) ++
  (match s.gears.change with
   | some c => if c.domain = 3 then [Switch.matchGear c.target] else if c.domain = 4 then [Switch.latencyGear c.target] else []
   | none => []) ++
  (match s.fw.activation with | some a => if a.started then [Switch.patch] else [] | none => [])

/-- A pipe that returns to service takes the full current configuration (R63). -/
def State.pipeCurrent (s : State) (p : Nat) : State :=
  s.modPipe p (fun x => { x with
    ruleBank := s.ruleBank, graphBank := s.ctl.graphBank, custBank := s.ctl.custBank, actBank := s.ctl.actBank,
    patchBank := s.fw.bank, matrixCopy := s.ctl.matCopy, matchGear := s.gears.matcher, latencyGear := s.gears.latency,
    switches := s.lateSwitches, inFlight := [] })

end Sys2Proof.Machine
end

