-- ==== Sys2Proof/Machine/XbarOps.lean ====
section
/-! DEFINITION. The crossbar's grants, multicast replication and the subscriber intake (R229–R245). -/
namespace Sys2Proof.Machine
open Sys2Proof

/-! ### Transmit staging (R229) -/

/-- What the egress port holds of a stored frame. -/
def TxFrame.ofFrame (x : Frame) (f cls limit cells : Nat) (q : Option Nat) : TxFrame :=
  { bytes := x.bytes, cellsIn := cells, freed := 0, complete := false, cls := cls, lifeline := x.lifeline, slice := x.slice,
    ce := x.ce, tsReq := x.tsReq, cut := x.cut, stomp := false, mirror := x.mirror, ipOffset := x.ipOffset,
    ingressTime := x.ingressTime, entry := x.entry, hostRing := x.hostRing, flowTag := x.flowTag, queue := q, limit := limit,
    frameId := f, stamp := 0, stampOk := false }

/-- A cell is delivered to a sink. -/
def State.cellMoved (s : State) : State := (s.xbarCount 0 1).perfEvent swBlock 0x0100 1

/-- More of a stored frame reaches staging: it joins the frame there, or in transmission. -/
def TxFrame.more (t : TxFrame) (f n : Nat) (last stomp : Bool) : TxFrame :=
  if t.frameId = f && t.queue.isNone then
    { t with cellsIn := t.cellsIn + n, complete := t.complete || last, stomp := t.stomp || (last && stomp) }
  else t

def State.stageCell (s : State) (k f cls n : Nat) (x : Frame) (first last : Bool) : State :=
  s.modPort k (fun p =>
    let p := if first then { p with staging := p.staging ++ [TxFrame.ofFrame x f cls (p.cfg.limit x.bytes) 0 none] } else p
    { p with staging := p.staging.map (fun t => t.more f n last x.stomp), sending := p.sending.map (fun t => t.more f n last x.stomp) })

/-- The next cell of a frame, or the end of a stomped frame whose cells are all delivered, may be requested. -/
def Frame.canGrant (x : Frame) : Bool := x.granted < x.cells.length || x.complete

/-- The frame after the grant of its next cell, the cells delivered, and whether they are its last. -/
def Frame.grant (x : Frame) : Frame × Nat × Bool :=
  let n := if x.granted < x.cells.length then 1 else 0
  let y := { x with granted := x.granted + n, stomp := x.stomp || (x.corrupt && x.cut) }
  (y, n, y.complete && y.granted == y.cells.length)

/-- A frame's first cell is granted: a cut-through frame is counted. -/
def State.countCut (s : State) (x : Frame) : State := if x.granted = 0 && x.cut then s.xbarCount 1 1 else s

/-! ### Bad words of stored frames (R230, R367) -/

/-- The block whose memories hold a store. -/
def storeBlock (n : Nat) : Nat := if n < 8 then pipeBlock n else swBlock

/-- A frame whose descriptor or link word is lost: it leaves every queue, and its cells are left to a chain audit. -/
def State.loseFrame (s : State) (f : Nat) : State :=
  match s.frame f with
  | none => s
  | some x =>
    let s := s.setFrame f (some { x with cells := [], loan := none, refs := 1 })
    let s := forAll ((tsome s.sw.nodes).filter (fun e => e.2.queue.near.contains f)) s (fun e s =>
      s.setNode e.1 (some { e.2 with queue := { e.2.queue with near := e.2.queue.near.filter (· != f) } }))
    (s.unqueue x.queue f).releaseFrame f

/-- The descriptor of a frame in store `n` is read. A lost one counts toward the fence of its pipe (Table 14-7). -/
def State.descriptorLost (s : State) (f n : Nat) : Bool × State :=
  let d := s.dataRead (storeBlock n) .descriptor 2
  if !d.1 then d
  else
    let s := d.2.loseFrame f
    (true, if n < 8 then (s.failureCount (512 + n) (s.failureNext (512 + n)) 100000000 16).2 else s)

/-- The crossbar serves a frame's next cell. Its words are read as its first one is granted, and a cut-through frame's at each: with a
lost descriptor nothing is served; with a bad data word, in the store or in flight, the frame is corrupt (R230). -/
def State.xbarRead (s : State) (f : Nat) (x : Frame) (serve : State → Frame → State) : State :=
  if s.readsQuiet || x.replicated || (x.granted ≠ 0 && !x.cut) then serve s x
  else
    let d := if x.granted = 0 then s.descriptorLost f x.store else (false, s)
    if d.1 then d.2
    else
      let c := d.2.dataRead (storeBlock x.store) .cellData 1
      let c := if c.1 then c else c.2.dataRead swBlock .cellData 1
      if !c.1 then serve c.2 x
      else
        let y := { x with corrupt := true }
        serve (c.2.setFrame f (some y)) y

/-- Grant a cell of the frame that a plain port has chosen. -/
def State.grantPlain (s : State) (k f : Nat) : State :=
  match s.frame f with
  | none => s
  | some x =>
    let p := s.port k
    if p.stagingSize ≤ p.staged || !x.canGrant then s
    else s.xbarRead f x (fun s x =>
      if x.corrupt && !x.cut then (s.modPort k (fun p => { p with chosen := none })).dropFrame f 10 k
      else
        let g := x.grant
        let s := (s.countCut x).setFrame f (some g.1)
        let s := if g.2.1 = 0 then s else s.cellMoved
        let s := s.stageCell k f x.cls g.2.1 g.1 (x.granted == 0) g.2.2
        if g.2.2 then ((s.modPort k (fun p => { p with chosen := none })).unqueue x.queue f).deref f else s)

/-! ### Subscriber intake (R236) -/

def State.intakes (s : State) (pipe : Nat) : List Intake := tget s.sw.intakes [] pipe
def State.setIntakes (s : State) (pipe : Nat) (l : List Intake) : State :=
  { s with sw := { s.sw with intakes := tset s.sw.intakes [] pipe l } }

/-- Intake of an output has begun a frame and not ended it. -/
def State.intakeBusy (s : State) (pipe : Nat) : Option Intake := (s.intakes pipe).find? (fun i => !i.done)

/-- A cell of a frame enters the intake of an output, on loan to INTAKE; none without credit or a free cell. -/
def State.intakeCell (s : State) (pipe f : Nat) (x : Frame) (queues : List (Nat × Nat)) (last : Bool) : Option State :=
  if s.intakeCredit pipe = 0 then none
  else
    match (s.intakes pipe).find? (fun i => !i.done && i.src == f) with
    | none =>
      match (s.store 8).alloc .loaned (s.store 8).nextLoan with
      | none => none
      | some (c, st) =>
        let r := st.lend .intake pipe [c] s.cycles
        let i : Intake := { frame := { x with store := 8, cells := [c], granted := 0, account := none, loan := none },
                            queues := queues, loan := r.1, src := f, done := last }
        some ((s.setStore 8 r.2).setIntakes pipe (s.intakes pipe ++ [i]))
    | some i =>
      match (s.store 8).alloc .loaned i.loan with
      | none => none
      | some (c, st) =>
        let st := match tget st.loans none i.loan with
          | some l => { st with loans := tset st.loans none i.loan (some { l with cells := l.cells ++ [c] }) }
          | none => st
        let j := { i with frame := { i.frame with cells := i.frame.cells ++ [c], corrupt := x.corrupt }, done := last }
        some ((s.setStore 8 st).setIntakes pipe ((s.intakes pipe).map (fun y => if y.loan = i.loan then j else y)))

/-- No class above `c` requests. -/
def topClass (c : Nat) (req : Nat → Bool) : Bool := !((upFrom (c + 1) (7 - c)).any req)

/-- Take a new frame's queue into account in the rotation of a port and class. -/
def State.rotatePast (s : State) (k c q : Nat) : State := s.turnPast (k * 8 + c) 17 (queueSlot q)

/-! ### The outputs without class settings (R260)

Each rotates within a class. Slots of a pipe's intake: its 16 ports, then the multicast VOQs of the pipes. Slots of a fabric output:
the pipes' VOQs of its remote ports, then the multicast VOQs of the pipes. Slots of the host output: the pipes. -/

/-- A slot of a pipe's intake requests a frame of a class. -/
def State.intakeReq (s : State) (pipe c i : Nat) : Bool :=
  if i < 16 then
    let k := 16 * pipe + i
    (s.port k).cfg.width ≠ 0 && (s.port k).cfg.subscriber && (s.classHead k c).isSome
  else (s.mcastHeads (i - 16)).any (fun h => h.1 % 8 == c && h.2.2.targets.any (fun t => match t with | .intake p 0 _ => p == pipe | _ => false))

/-- The slot of a pipe's intake whose turn it is in a class. -/
def State.intakeTurn (s : State) (pipe c : Nat) : Option Nat :=
  (turnOrder 24 (tget s.sw.rotation 0 (1024 + pipe * 8 + c))).find? (s.intakeReq pipe c)

/-- A slot may begin a frame at a pipe's intake. -/
def State.intakeMay (s : State) (pipe c i : Nat) : Bool :=
  (s.intakeBusy pipe).isNone && topClass c (fun d => (s.intakeTurn pipe d).isSome) && s.intakeTurn pipe c == some i

/-- The slot of a fabric VOQ: its pipe and remote port. -/
def fabricSlot (q : Nat) : Nat := q / 8192 * 128 + (q % 8192 - 1024) % 1024 / 8

/-- Grant a cell to the intake of a subscriber-mode port for a frame of its class. -/
def State.grantIntake (s : State) (k c : Nat) (want : Nat → Bool) : State :=
  let pipe := pipeOf k
  let pick : Option (Nat × Nat) := match s.intakeBusy pipe with
    | some i => (s.portQueues k c).findSome? (fun q => if want q && (s.queueOf q).head? == some i.src then some (q, i.src) else none)
    | none =>
      if !s.intakeMay pipe c (k - 16 * pipe) then none
      else match s.classHead k c with | some (q, f) => if want q then some (q, f) else none | none => none
  match pick with
  | none => s
  | some (q, f) =>
    match s.frame f with
    | none => s
    | some x =>
      if !x.complete then s
      else s.xbarRead f x (fun s x =>
        let g := x.grant
        match s.intakeCell pipe f x [(k, x.destQueue)] g.2.2 with
        | none => s
        | some s =>
          let s := (if x.granted = 0 then (s.rotatePast k c q).turnPast (1024 + pipe * 8 + c) 24 (k - 16 * pipe) else s).setFrame f (some g.1)
          let s := s.cellMoved
          if g.2.2 then (s.unqueue q f).deref f else s)

/-! ### Fabric outputs (R426, R427) -/

/-- Cells of credit that a link still gives a class: 64 of its own, and the shared 1,536. -/
def FabricLink.creditFor (l : FabricLink) (c : Nat) : Bool :=
  tget l.used 0 c < 64 || decide (l.used.foldl (fun n e => n + (e.2 - 64)) 0 < 1536)

def State.tandemCount (s : State) (i n : Nat) : State :=
  { s with tandem := { s.tandem with counters := cbump s.tandem.counters i n } }

/-- A cell of a class goes out on the links of a destination; none without credit on each. A gated link discards it. -/
def State.fabricCell (s : State) (d p c : Nat) : Option State :=
  let via := s.fabricVia d p
  if via = [] then none
  else if !s.gateOpen then some (s.tandemCount 9 via.length)
  else if !via.all (fun m => (s.link m).creditFor c) then none
  else some ((forAll via s (fun m s =>
    let l := s.link m
    s.setLink m { l with used := tmod l.used 0 c (· + 1) })).tandemCount 7 via.length)

/-- The queues of a fabric destination and class, of all pipes. -/
def State.fabricQueues (s : State) (d c : Nat) : List (Nat × List Nat) :=
  s.sw.queues.filter (fun e => decide (1024 ≤ e.1 % 8192) && decide (e.1 % 8192 < 4096) && (e.1 % 8192 - 1024) / 1024 == d && e.1 % 8 == c)

/-- The frame at the head of a queue. -/
def State.headFrame (s : State) (l : List Nat) : Option (Nat × Frame) :=
  match l with | f :: _ => (s.frame f).map (fun x => (f, x)) | [] => none

/-- A frame whose cells a fabric output has begun to take and not ended. -/
def State.fabricBusy (s : State) (d : Nat) : Option Nat :=
  let voqs := (List.range 8).flatMap (fun c => (s.fabricQueues d c).filterMap (fun e => s.headFrame e.2))
  let copies := (List.range 8).flatMap (fun p => (s.mcastHeads p).map (·.2))
  match voqs.find? (fun h => decide (0 < h.2.granted)) with
  | some h => some h.1
  | none => (copies.find? (fun h => h.2.targets.any (fun t => match t with
      | .fabric e _ _ n => e == d && decide (0 < n) && decide (n < h.2.cells.length)
      | _ => false))).map (·.1)

/-- The slots of a fabric output that request a frame of a class. -/
def State.fabricReqs (s : State) (d c : Nat) : List Nat :=
  ((s.fabricQueues d c).filter (fun e => match s.headFrame e.2 with | some h => h.2.complete || h.2.cut | none => false)).map (fun e => fabricSlot e.1) ++
  (((List.range 8).filter (fun p => (s.mcastHeads p).any (fun h => h.2.2.targets.any (fun t => match t with
    | .fabric e _ x 0 => e == d && x == c
    | _ => false)))).map (fun p => 1024 + p))

/-- The slot of a fabric output whose turn it is in a class. -/
def State.fabricTurn (s : State) (d c : Nat) : Option Nat :=
  minBy (fun i => (i + 1032 - tget s.sw.rotation 0 (2048 + d * 8 + c)) % 1032) (s.fabricReqs d c)

/-- A slot may send a cell of a frame to a fabric output: the frame has begun there, or it is the slot's turn to begin one. -/
def State.fabricMay (s : State) (d c i f : Nat) : Bool :=
  match s.fabricBusy d with
  | some g => g == f
  | none => topClass c (fun e => (s.fabricTurn d e).isSome) && s.fabricTurn d c == some i

/-- Grant a cell of a fabric VOQ. -/
def State.grantFabric (s : State) (pipe d p c : Nat) : State :=
  let q := qFabric pipe d p c
  match s.headFrame (s.queueOf q) with
  | none => s
  | some (f, x) =>
    if !(x.complete || x.cut) || !x.canGrant || !s.fabricMay d c (fabricSlot q) f then s
    else s.xbarRead f x (fun s x =>
      if x.corrupt && !x.cut then s.dropFrame f 10 x.dropPort
      else
        let g := x.grant
        match (if g.2.1 = 0 then some s else s.fabricCell d p c) with
        | none => s
        | some s =>
          let s := if x.granted = 0 then s.turnPast (2048 + d * 8 + c) 1032 (fabricSlot q) else s
          let s := (s.countCut x).setFrame f (some g.1)
          let s := if g.2.1 = 0 then s else s.cellMoved
          if g.2.2 then (s.unqueue q f).deref f else s)

/-! ### The host output (R229, Table 9-4) -/

/-- Cells of the host port's DMA buffer in use. -/
def State.hostBuffer (s : State) : Nat :=
  (tsome s.sw.frames).foldl (fun n p => if p.2.dest = .host then n + p.2.granted else n) 0

/-- The pipe whose turn it is at the host output in a class. -/
def State.hostTurn (s : State) (c : Nat) : Option Nat :=
  (turnOrder 8 (tget s.sw.rotation 0 (3072 + c))).find? (fun i =>
    match s.headFrame (s.queueOf (qHost i c)) with | some h => h.2.complete | none => false)

/-- A pipe may send a cell of a frame to the host output. -/
def State.hostMay (s : State) (pipe c f : Nat) : Bool :=
  let heads := (List.range 64).filterMap (fun i => s.headFrame (s.queueOf (qHost (i / 8) (i % 8))))
  match heads.find? (fun h => decide (0 < h.2.granted)) with
  | some h => h.1 == f
  | none => topClass c (fun d => (s.hostTurn d).isSome) && s.hostTurn c == some pipe

/-- Grant a cell of a host VOQ. The frame's cells are on loan to HOST from its first grant. -/
def State.grantHost (s : State) (pipe c : Nat) : State :=
  let q := qHost pipe c
  match s.headFrame (s.queueOf q) with
  | none => s
  | some (f, x) =>
    let st := s.store pipe
    let first := x.granted == 0
    if !x.complete || 1024 ≤ s.hostBuffer || !s.hostMay pipe c f || (first && 2048 < st.loanedAll .host + x.cells.length) then s
    else s.xbarRead f x (fun s x =>
      if x.corrupt then s.dropFrame f 10 x.dropPort
      else
        let g := x.grant
        let s := if first then
            let r := (st.rehold .loaned st.nextLoan x.cells).lend .host x.slice x.cells s.cycles
            ((s.turnPast (3072 + c) 8 pipe).setStore pipe r.2).setFrame f (some { g.1 with loan := some r.1 })
          else s.setFrame f (some g.1)
        let s := s.cellMoved
        if g.2.2 then
          let s := s.unqueue q f
          { s with sw := { s.sw with hostQueue := s.sw.hostQueue ++ [f] } }
        else s)

/-- The crossbar grants a cell to a queue. -/
def State.xbarGrant (s : State) (q : XbarQueue) : State :=
  let local_ (k c : Nat) (want : Nat → Bool) : State :=
    if (s.port k).cfg.subscriber then s.grantIntake k c want
    else match (s.port k).chosen with
      | some (n, f) => if want n && n % 8 == c then s.grantPlain k f else s
      | none => s
  match q with
  | .unicast k c => local_ k.val c.val (fun n => n % 8192 < 1024)
  | .hostTx k c => local_ k.val c.val (fun n => 4112 ≤ n % 8192)
  | .fabric p d k c => s.grantFabric p.val d.val k.val c.val
  | .host p c => s.grantHost p.val c.val

/-! ### Credit (R229) -/

/-- A sink drains cells. The credit of intake and of the host buffer follows their contents. -/
def State.creditReturn (s : State) (sink : CreditSink) (n : Nat) : State :=
  match sink with
  | .port k => s.modPort k.val (fun p => { p with sending := p.sending.map (fun t => { t with freed := min t.cellsIn (t.freed + n) }) })
  | .fabric m c =>
    let l := s.link m.val
    s.setLink m.val { l with used := tmod l.used 0 c.val (· - n) }
  | .subscriber => s
  | .host => s

/-! ### Plain ports: the charge of a chosen frame (R258, R272) -/

/-- Charge a chosen frame to its class bucket and to the port shaper. -/
def State.chargePlain (s : State) (k c len : Nat) : State :=
  let n := s.chargedLength k len
  let now := s.now
  let s := s.modPort k (fun p => p.setCls c { p.cls c with bucket := ((p.cls c).bucket.refill now).charge n })
  match s.node (nodeKey 0 k) with
  | some x => s.setNode (nodeKey 0 k) (some { x with pir := (x.pir.refill now).charge n })
  | none => s

/-! ### Multicast (R242–R245) -/

/-- Members of a group. -/
def State.group (s : State) (g : Nat) : List Member := tget s.sw.groups [] g

/-- Put a member's target into the set. -/
def addTarget (l : List Target) (m : Member) : List Target :=
  if m.kind = 3 then l ++ [.fabric m.member m.port m.cls 0]
  else if m.kind = 1 then (if l.any (fun t => t.isPlain m.port) then l else l ++ [.plain m.port m.cls 0])
  else
    let pipe := pipeOf m.port
    if l.any (fun t => match t with | .intake p _ _ => p == pipe | _ => false) then
      l.map (fun t => match t with
        | .intake p n qs => if p = pipe then .intake p n (qs ++ [(m.port, m.queue)]) else t
        | t => t)
    else l ++ [.intake pipe 0 [(m.port, m.queue)]]

/-- A member of a local port does not match the port's mode (R111). -/
def State.memberMismatch (s : State) (m : Member) : Bool := m.kind ≠ 3 && (s.port m.port).cfg.subscriber != (m.kind == 2)

/-- Why a member gets no copy: isolation's part, or a drop reason. -/
def State.memberRefused (s : State) (x : Frame) (m : Member) : Option (Nat ⊕ Nat) :=
  let permitted := if m.kind = 3 then x.permitFabric.getLsbD m.member else x.permitPorts.getLsbD m.port
  if !permitted then some (.inl (if m.kind = 3 then 4 else 2))
  else if (if m.kind = 3 then !s.fabricUp m.member m.port else !s.portOpen m.port || s.memberMismatch m) then some (.inr 6)
  else if m.kind ≠ 3 && (s.port m.port).cfg.limit x.bytes < x.bytes.length + 4 then some (.inr 12)
  else if x.corrupt then some (.inr 10)
  else none

/-- Form the targets of a multicast frame. -/
def State.formTargets (s : State) (f : Nat) (x : Frame) (g : Nat) : State :=
  let r := (s.group g).foldl (fun (a : List Target × State) (m : Member) =>
    let dest : FrameDest := if m.kind = 3 then .fabric m.member m.port else .port m.port
    let y := { x with dest := dest, cls := m.cls }
    match a.2.memberRefused x m with
    | some (.inl part) => (a.1, a.2.isolationDrop x.store x.slice x.ingressPort part)
    | why =>
      let s := if x.lifeline && m.kind ≠ 3 then a.2.lifelineIn m.port x.slice else a.2
      match why with
      | some (.inr n) => (a.1, s.countDrop (if m.kind = 3 then x.ingressPort else m.port) n y)
      | _ => (addTarget a.1 m, s)) ([], s)
  let s := r.2.xbarCount 3 1
  if r.1.isEmpty then (s.unqueue x.queue f).releaseFrame f
  else s.setFrame f (some { x with replicated := true, targets := r.1, refs := r.1.length })

/-- A target takes the frame's next cell, when its sink has credit and, for its first cell, the sink's output takes the frame: a
plain port by its class settings (R258), an intake or a fabric output in its rotation (R260). The target after it, and the state. -/
def State.targetCell (s : State) (f : Nat) (x : Frame) (t : Target) : Option (Target × State) :=
  let size := x.cells.length
  match t with
  | .plain k c n =>
    let p := s.port k
    if p.stagingSize ≤ p.staged || (n = 0 && p.chosen != some (x.queue, f)) then none
    else
      let s := s.stageCell k f c 1 x (n == 0) (n + 1 == size)
      let s := if n + 1 = size then s.modPort k (fun p => { p with chosen := none }) else s
      some (.plain k c (n + 1), s)
  | .intake p n qs =>
    let c := x.queue % 8
    let i := 16 + x.store
    if n = 0 && !s.intakeMay p c i then none
    else (s.intakeCell p f x qs (n + 1 == size)).map (fun s =>
      (.intake p (n + 1) qs, if n = 0 then s.turnPast (1024 + p * 8 + c) 24 i else s))
  | .fabric d p c n =>
    let i := 1024 + x.store
    if !s.fabricMay d c i f then none
    else (s.fabricCell d p c).map (fun s => (.fabric d p c (n + 1), if n = 0 then s.turnPast (2048 + d * 8 + c) 1032 i else s))

/-- Cells that a target has taken. -/
def Target.cells (t : Target) : Nat := match t with | .plain _ _ n => n | .intake _ n _ => n | .fabric _ _ _ n => n

/-- A cell slot of a replicated frame: every target whose sink has credit takes its next cell. -/
def State.serveTargets (s : State) (f : Nat) (x : Frame) : State :=
  let size := x.cells.length
  let r := x.targets.foldl (fun (a : List Target × State) (t : Target) =>
    match a.2.targetCell f x t with
    | some (t', s) => (a.1 ++ [t'], s.cellMoved)
    | none => (a.1 ++ [t], a.2)) ([], s)
  let done := (r.1.filter (fun t => decide (size ≤ t.cells))).length
  let s := r.2.setFrame f (some { x with targets := r.1, granted := max x.granted (r.1.foldl (fun n t => max n t.cells) 0) })
  (s.xbarCount 4 done).endTargets f (fun t => size ≤ t.cells)

/-- The crossbar serves the head of a multicast VOQ. -/
def State.mcastSlot (s : State) (pipe c : Nat) : State :=
  match s.queueOf (qMcast pipe c) with
  | [] => s
  | f :: _ =>
    match s.frame f with
    | none => s
    | some x =>
      match x.dest with
      | .group g =>
        if !x.complete then s
        else s.xbarRead f x (fun s x =>
          let s := if x.replicated then s else s.formTargets f x g
          match s.frame f with
          | some y => s.serveTargets f y
          | none => s)
      | _ => s

/-! ### Subscriber admission (R236, R237, R244, Table 9-10) -/

/-- The copies formed so far of a frame in intake: near copies by slice, whether one has taken the loan, and the far
copies still to place, and the reasons of those refused. -/
structure Copies where
  near : List (Nat × Nat)
  used : Bool
  far  : List (Nat × Frame)
  drops : List Nat
deriving DecidableEq, Repr

/-- Link a stored near frame to the tail of a class queue. -/
def State.linkNear (s : State) (q f : Nat) : State :=
  match s.classQueue q with
  | some x => s.setClassQueue q { x with near := x.near ++ [f] }
  | none => s

/-- A near copy for a class queue: another reference to its slice's copy, the intake cells themselves, or new cells. -/
def State.placeNear (s : State) (pipe : Nat) (i : Intake) (a : Copies) (q slc : Nat) (x : Frame) : Option (Copies × State) :=
  match a.near.find? (fun e => e.1 == slc) with
  | some (_, f) =>
    match s.frame f with
    | some y => some (a, (s.setFrame f (some { y with refs := y.refs + 1, ce := y.ce || x.ce })).linkNear q f)
    | none => none
  | none =>
    let f := s.sw.nextFrame
    let next (s : State) (st : Store) (cells : List Nat) : State :=
      let d := st.describe cells
      let s := { s.setStore 8 d.2 with sw := { (s.setStore 8 d.2).sw with nextFrame := f + 1 } }
      (s.setFrame f (some { x with cells := cells, gen := d.1 })).linkNear q f
    if !a.used then
      let s := s.setIntakes pipe ((s.intakes pipe).filter (fun j => j.loan != i.loan))
      some ({ a with near := a.near ++ [(slc, f)], used := true }, next s ((s.store 8).unlend i.loan) i.frame.cells)
    else match (s.store 8).allocN i.frame.cells.length .queued 0 with
      | none => none
      | some (cells, st) => some ({ a with near := a.near ++ [(slc, f)] }, next s st cells)

/-- Offer a frame in intake to one class queue. -/
def State.admitQueue (s : State) (pipe : Nat) (i : Intake) (a : Copies) (port q : Nat) : Copies × State :=
  let x := { i.frame with dest := .port port, cls := q % 8, complete := true, refs := 1 }
  let n := i.frame.cells.length
  let slc := (s.nodeOwner (nodeKey 4 q)).getD x.slice
  let copied := a.near.any (fun e => e.1 == slc)
  let has := copied || s.nearHas n (if a.used then 0 else n)
  let charged := if copied || (!a.used && i.frame.slice = slc) then n else 0
  let refuse (r : Nat) (s : State) : Copies × State := ({ a with drops := a.drops ++ [r] }, s.queueDrop q r x)
  if i.frame.corrupt then refuse 10 s
  else match s.subscriberRefusal port q slc n charged has with
    | some r => refuse r s
    | none =>
      match s.classQueue q with
      | none => (a, s)
      | some c =>
        let m := s.ecnMark c.ecn (s.nearCells c + c.farCells)
        let s := m.2
        let e := if m.1 then s.ecnApply c.ecn x else .keep
        if e = .drop then refuse 9 s
        else
          let x := { x with slice := slc, ce := x.ce || e = .ce }
          match s.placement c has with
          | .near => (match s.placeNear pipe i a q slc x with
              | some r => r
              | none => refuse 4 s)
          | .far => ({ a with far := a.far ++ [(q, x)] }, s)
          | .nowhere => refuse 4 s

/-- A class queue's near part is empty while its far part is not: it waits for its refill. -/
def State.refillWait (s : State) (q : Nat) : Bool :=
  match s.classQueue q with | some x => x.near.isEmpty && !x.far.isEmpty | none => false

/-- Place a far copy; where no block is found the frame is dropped (step 4 of R237). -/
def State.admitFar (s : State) (i : Intake) (loan : Option (Nat × Nat)) (q : Nat) (x : Frame) : Bool × State :=
  let wait := s.refillWait q
  match s.placeFar q x loan with
  | some t => (true, if t.refillWait q && !wait then t.schedCount 3 else t)
  | none => (false, s.queueDrop q 4 { x with cells := i.frame.cells })

/-- A frame complete in an output's intake is offered to its queues: the reasons for which it was refused. -/
def State.admitIntake (s : State) (pipe : Nat) (i : Intake) : List Nat × State :=
  let r := i.queues.foldl (fun (a : Copies × State) (e : Nat × Nat) => a.2.admitQueue pipe i a.1 e.1 e.2)
    ({ near := [], used := false, far := [], drops := [] }, s)
  let s := r.2.setIntakes pipe ((r.2.intakes pipe).filter (fun j => j.loan != i.loan))
  let loan := if r.1.used then none else some (pipe, i.loan)
  let t := r.1.far.foldl (fun (a : Bool × List Nat × State) (e : Nat × Frame) =>
    let b := a.2.2.admitFar i loan e.1 e.2
    (a.1 || b.1, if b.1 then a.2.1 else a.2.1 ++ [4], b.2)) (false, r.1.drops, s)
  let s := if r.1.used || t.1 then t.2.2 else t.2.2.returnLoan 8 i.loan
  (t.2.1, forAll ((i.queues.map (·.1)).eraseDups) s (fun k s => s.refreshPort k))

/-- The oldest frame complete in an output's intake is admitted or refused. While the far store's ports or SPILL's loans have no
room for its writes it waits (R223, R290). -/
def State.subscriberAdmit (s : State) (pipe : Nat) : State :=
  match (s.intakes pipe).find? (fun i => i.done) with
  | none => s
  | some i => let t := (s.admitIntake pipe i).2; if s.farFits t then t else s

/-! ### Spill writes (R236) -/

/-- A request of some channel still holds a loan. -/
def State.loanWritten (s : State) (loan : Nat × Nat) : Bool :=
  s.far.channels.any (fun e => (e.2.wr ++ e.2.writing).any (fun r => r.loan == some loan))

/-- The oldest block write of a channel completes: the last write of a frame frees its intake cells. -/
def State.spillDone (s : State) (c : Nat) : State :=
  let x := s.channel c
  match x.writing with
  | [] => s
  | r :: l =>
    let s := s.setChannel c { x with writing := l }
    match r.loan with
    | some w => if s.loanWritten w then s else s.returnLoan 8 w.2
    | none => s

end Sys2Proof.Machine
end

