-- ==== Sys2Proof/Machine/DramOps.lean ====
section
/-! DEFINITION. The DRAM channels: requests, codeword errors, training and fencing, low-traffic mode, and the capture
region with its replay (chapter 11). -/
namespace Sys2Proof.Machine
open Sys2Proof

/-! ### The capture region (R301, R302, R385) -/

/-- Withhold up to `n` free blocks of a channel; they leave TOTAL. -/
def Channel.withhold (c : Channel) (n : Nat) : Channel :=
  let a := c.chain.take n
  let m := min (n - a.length) (blocksOf c.density - c.fresh)
  { c with chain := c.chain.drop n, fresh := c.fresh + m, withheld := c.withheld ++ a ++ upFrom c.fresh m,
           free := c.free - (a.length + m), total := c.total - (a.length + m) }

/-- Return a channel's withheld blocks to its chain. -/
def Channel.unwithhold (c : Channel) : Channel :=
  { c with chain := c.withheld ++ c.chain, withheld := [], free := c.free + c.withheld.length, total := c.total + c.withheld.length }

/-- Channels in service. -/
def State.serving (s : State) : List Nat := (tkeys s.far.channels).filter (fun c => (s.channel c).serves)

/-- Begin to reserve a region of `n` blocks, evenly over the channels in service. -/
def State.regionReserve (s : State) (n : Nat) : State :=
  let l := s.serving
  let k := l.length
  (List.range k).foldl (fun (s : State) (i : Nat) =>
    let c := l.getD i 0
    let m := n / k + (if i < n % k then 1 else 0)
    let s := { s with far := { s.far with region := tset s.far.region 0 c m } }
    s.setChannel c ((s.channel c).withhold m))
    { s with far := { s.far with wanted := n, captureBlocks := [], captured := [], captureDrops := 0 } }

/-- Every block of the region is withheld. -/
def State.regionComplete (s : State) : Bool := s.far.region.all (fun e => e.2 ≤ (s.channel e.1).withheld.length)

/-- Blocks that the region holds. -/
def State.regionHeld (s : State) : Nat := s.far.region.foldl (fun n e => n + (s.channel e.1).withheld.length) 0

/-- The region's blocks return to their chains. -/
def State.regionRelease (s : State) : State :=
  let l := tkeys s.far.region
  let s := { s with far := { s.far with region := [], wanted := 0, captureBlocks := [], captured := [], captureDrops := 0, use := .off } }
  forAll l s (fun c s => s.setChannel c (s.channel c).unwithhold)

/-- Blocks of the region are lost, with the copies that have a byte in them. -/
def FarStore.captureLose (f : FarStore) (lost : CaptureBlock → Bool) : FarStore :=
  let gone := (f.captureBlocks.filter lost).map (·.seq)
  let keep (x : FarFrame) : Bool := x.blocks.all (fun b => !gone.contains b)
  { f with captureBlocks := f.captureBlocks.filter (fun b => !lost b), captured := f.captured.filter keep,
           replayLeft := f.replayLeft.filter keep }

/-- The region loses its blocks on a channel, and what they hold (R295). -/
def State.regionShrink (s : State) (c : Nat) : State :=
  let f := s.far.captureLose (·.channel == c)
  { s with far := { f with region := tdel f.region c, wanted := f.wanted - tget f.region 0 c } }

/-- Read the next captured copies into near cells on loan to FIRMWARE, at most 256 cells at a time. -/
def State.replayPump (fuel : Nat) (s : State) : State :=
  match fuel with
  | 0 => s
  | k + 1 =>
    match s.far.replayLeft with
    | [] => s
    | y :: r =>
      let x := y.frame
      let n := cellsFor x.bytes.length
      if 256 < (s.store 8).loanedAll .firmware + n || !s.nearHas n 0 then s
      else match (s.store 8).allocN n .loaned (s.store 8).nextLoan with
        | none => s
        | some (cells, st) =>
          let l := st.lend .firmware s.far.replayQueue cells s.cycles
          let id := s.sw.nextFrame
          let s := s.setStore 8 l.2
          let s := { s with sw := { s.sw with nextFrame := id + 1, hostQueue := s.sw.hostQueue ++ [id] } }
          let s := s.setFrame id (some { x with
            store := 8, cells := cells, refs := 1, dest := .host, slice := 128, destQueue := s.far.replayQueue, ingressPort := 0xFF,
            complete := true, granted := 0, loan := some l.1, mirror := false })
          { s with far := { s.far with replayLeft := r } }.replayPump k

def State.replayRun (s : State) : State := s.replayPump s.far.replayLeft.length

/-- Frames of the replay that wait in the host port. -/
def State.replayWaiting (s : State) : List Nat :=
  s.sw.hostQueue.filter (fun f => match s.frame f with | some x => x.store == 8 | none => false)

/-- A replay stops after the frame in progress: the one at the head of the host port. -/
def State.replayStop (s : State) : State :=
  let keep := s.sw.hostQueue.head?
  let gone := s.replayWaiting.filter (fun f => some f != keep)
  let s := forAll gone s (fun f s => s.releaseFrame f)
  { s with far := { s.far with replayLeft := [], capture := if s.far.capture = .replaying then .capturing else s.far.capture },
           sw := { s.sw with hostQueue := s.sw.hostQueue.filter (fun f => !gone.contains f) } }

/-! ### Requests (R286, R287, R289, R292) -/

/-- A bank row is open: it has been used within IDLE_NS (R292). -/
def State.rowOpen (s : State) (c bank row : Nat) : Bool :=
  match tget (s.channel c).openRows none bank with
  | some (r, t) => r == row && decide (s.now < t + s.far.idleNs)
  | none => false

/-- Access a row of a bank. -/
def State.rowAccess (s : State) (c bank row : Nat) : State :=
  let s := s.channelCount c (if s.rowOpen c bank row then 3 else 4)
  let x := s.channel c
  s.setChannel c { x with openRows := tset x.openRows none bank (some (row, s.now)) }

/-- Access the rows of a block. -/
def State.blockAccess (s : State) (k : Nat) : State :=
  let b := k % 1048576
  forAll (upFrom (blockRow b) (blockLastRow b + 1 - blockRow b)) s (fun r s => s.rowAccess (blockChannel k) (b % 16) r)

/-- A bank's row closes. -/
def State.rowClose (s : State) (c bank : Nat) : State :=
  let x := s.channel c
  s.setChannel c { x with openRows := tset x.openRows none bank none }

/-- Serve the oldest write of a channel; its completion comes later. -/
def State.serveWrite (s : State) (c : Nat) : State :=
  let x := s.channel c
  match x.wr with
  | [] => s
  | r :: l =>
    let s := s.setChannel c { x with wr := l, writing := x.writing ++ [r], panicRun := 0, batch := x.batch - 1, bgGap := min 63 (x.bgGap + 1) }
    (((s.channelCount c 1).blockAccess r.block).perfEvent (channelBlock c) 0x0101 1)

/-- A batch of writes is due: at least 8 wait, or one has waited 2 µs (R289). -/
def State.batchDue (s : State) (c : Nat) : Bool :=
  let x := s.channel c
  decide (8 ≤ x.wr.length) || x.wr.any (fun r => decide (r.since + 2000 ≤ s.now))

/-- Serve a write of the batch in progress, or begin a batch that is due. -/
def State.batchWrite (s : State) (c : Nat) : State :=
  let x := s.channel c
  if 0 < x.batch then s.serveWrite c
  else if s.batchDue c then (s.setChannel c { x with batch := x.wr.length }).serveWrite c
  else s

/-- Serve every waiting write. -/
def State.serveWrites (s : State) (c : Nat) : State :=
  (List.range (s.channel c).wr.length).foldl (fun (s : State) (_ : Nat) => s.serveWrite c) s

/-! ### Loss and fencing of a channel (R240, R295, R379) -/

/-- A refill in progress is given up; its near cells return. -/
def State.endRefill (s : State) (q : Nat) : State :=
  match s.classQueue q with
  | none => s
  | some x => match x.refilling with
    | some l => ((s.endReads q).returnLoan 8 l).setClassQueue q x.endRefill
    | none => s.endReads q

/-- A refill that is under way reads a block of a channel. -/
def ClassQueue.refills (x : ClassQueue) (c : Nat) : Bool :=
  x.refilling.isSome && x.far.any (fun f => f.refilling && f.blocks.any (fun k => blockChannel k == c))

/-- What a channel holds is lost: reads and writes end, and its blocks are lost to their queues. -/
def State.loseChannel (s : State) (c : Nat) : State :=
  let x := s.channel c
  let owners := (((tsome s.far.blocks).filter (fun e => blockChannel e.1 == c)).map (fun e => e.2.queue)).eraseDups
  let refills := owners.filter (fun q => match s.classQueue q with | some y => y.refills c | none => false)
  let s := forAll (x.rt.map (·.queue) ++ refills).eraseDups s (fun q s => s.endRefill q)
  let x := s.channel c
  let loans := ((x.wr ++ x.writing).filterMap (·.loan)).eraseDups
  let s := s.setChannel c { x with rt := [], wr := [], writing := [], panic := false, panicRun := 0, batch := 0 }
  let s := forAll loans s (fun l s => if s.loanWritten l then s else s.returnLoan 8 l.2)
  let s := forAll owners s (fun q s => s.loseBlocks q (fun k => blockChannel k == c))
  let left := (tkeys s.far.blocks).filter (fun k => blockChannel k == c)
  let s := { s with far := { s.far with
    flushed := s.far.flushed.filterMap (fun e =>
      let l := e.2.filter (fun k => blockChannel k != c)
      if l.isEmpty then none else some (e.1, l)) } }
  let s := forAll left s (fun k s => s.freeBlock k)
  forAll (owners.filterMap (fun q => s.rootPort (nodeKey 4 q))).eraseDups s (fun p s => s.refreshPort p)

/-- The DRAM record of the firmware log at the end of a training (Table 2-23). -/
def State.dramRecord (s : State) (c : Nat) : State :=
  let x := s.channel c
  s.fwRecord 7 0xFF 0 0 c (x.cause + x.attempts * 16 + (if x.serves then 256 else 0))

/-- Fence a channel with a cause (R295, Table 14-7): trigger 19, or 0xFF for UNIT_FENCE. -/
def State.fenceChannel (s : State) (c cause trigger : Nat) (inj : Bool) (mb : Nat) : State :=
  let s := s.loseChannel c
  let x := s.channel c
  let s := s.setChannel c { x with
    state := .fenced, cause := cause, training := none, triggered := false, total := 0, free := 0, fresh := 0, chain := [],
    withheld := [], owed := [], openRows := [] }
  let s := (s.regionShrink c).lowCheck
  ((s.raise (channelBlock c) 19 cause inj).unitFenced 6 c trigger inj mb).dramRecord c

/-! ### Training (R285, R293–R296) -/

/-- A channel enters service empty. -/
def State.enterService (s : State) (c : Nat) : State :=
  let x := s.channel c
  let back := x.state = .fenced
  let n := blocksOf x.density
  let s := s.setChannel c { x with
    state := .inService, cause := 0, training := none, triggered := false, total := n, free := n, fresh := 0, chain := [],
    withheld := [], owed := [], openRows := [], lastTrain := s.cycle, mr4Cycle := none,
    trainedMr4 := none, pasr := 0, errors := [] }
  let s := s.lowCheck
  if back then ((s.setFenced 6 c false).event 10 0).fwRecord 3 0xFF 0 0 (6 + c * 256) 1 else s

/-- A retry, or the training that returns a channel, starts (R296). -/
def State.startRetry (s : State) (c : Nat) : State :=
  let x := s.channel c
  (s.setChannel c { x with training := some true, attempts := 0, triggered := false }).channelCount c 9

/-- A retry of some channel runs. -/
def State.retryRuns (s : State) : Bool := s.far.channels.any (fun e => e.2.state = .fenced && e.2.training.isSome)

/-- Retries run one at a time: start, or wait for the one that runs. -/
def State.askRetry (s : State) (c : Nat) : State :=
  if s.retryRuns then s.setChannel c { s.channel c with triggered := true } else s.startRetry c

/-- A retraining starts: allocation stops, and the queued writes complete (R294). -/
def State.startRetrain (s : State) (c : Nat) : State :=
  let s := s.serveWrites c
  let x := s.channel c
  (s.setChannel c { x with state := .retraining, training := some false, attempts := 0, triggered := false }).channelCount c 9

/-- A retrain trigger: it waits under panic, and merges into a retraining in progress. -/
def State.trigger (s : State) (c : Nat) : State :=
  let x := s.channel c
  if !x.serves then s else if x.panic then s.setChannel c { x with triggered := true } else s.startRetrain c

/-- The density that most of the channels that have reported one report; the lower code of equals. -/
def State.commonDensity (s : State) (l : List Nat) : Nat :=
  let n (d : Nat) : Nat := (l.filter (fun c => (s.channel c).density == d)).length
  (minBy (fun d => 100 - n d) [1, 2, 3, 4, 5]).getD 0

/-- Boot training of every channel has ended: those of another density are fenced (R285). -/
def State.densityCheck (s : State) : State :=
  if s.far.channels.any (fun e => e.2.state = .init) then s
  else
    let seen := (tkeys s.far.channels).filter (fun c => (s.channel c).density != 0)
    let d := s.commonDensity seen
    forAll (seen.filter (fun c => (s.channel c).serves && (s.channel c).density != d)) s (fun c s => s.fenceChannel c 2 19 false 0xFF)

/-- Channels of a mask. -/
def maskChannels (m : Nat) : List Nat := (List.range 24).filter (fun c => bitAt m c)

/-- The mask of the listed channels that are in service. -/
def State.serviceMask (s : State) (l : List Nat) : Nat := (l.filter (fun c => (s.channel c).serves)).foldl (fun n c => n + 2 ^ c) 0

/-- A command that waits for trainings is answered when the last has ended. -/
def State.trainSettle (s : State) : State :=
  match s.far.trainMb with
  | none => s
  | some mb =>
    let l := maskChannels s.far.trainMask.toNat
    if l.any (fun c => (s.channel c).training.isSome || (s.channel c).triggered) then s
    else
      let s := { s with far := { s.far with trainMb := none, trainMask := 0, trainWas := none } }
      match (s.mbox mb).inExec with
      | none => s
      | some x =>
        let up := s.serviceMask l
        if x.opcode = 0x0A01 then
          s.finish mb rowDramTrain (resultOf [(16, 3, s.serviceMask (maskChannels (x.entry.f 16 0 24)))])
        else if x.opcode = 0x0A03 then s.finish mb rowDramRetry (resultOf [(16, 1, bit (up != 0))])
        else if up != 0 then s.finish mb rowUnitUnfence 0
        else s.complete mb rowUnitUnfence 0x0A 16 0 0

/-- Boot training goes on with the next channel (R293). -/
def State.nextBoot (s : State) : State :=
  if s.far.channels.any (fun e => e.2.state = .init && e.2.training.isSome) then s
  else match (List.range 24).find? (fun c => (s.channel c).state = .init) with
    | some c => s.setChannel c { s.channel c with training := some true, attempts := 0 }
    | none => s

/-- The next retry that waits starts. -/
def State.nextRetry (s : State) : State :=
  if s.retryRuns then s
  else match (tkeys s.far.channels).find? (fun c => (s.channel c).state = .fenced && (s.channel c).triggered) with
    | some c => s.startRetry c
    | none => s

/-- A training has failed for good. -/
def State.trainFailed (s : State) (c cause : Nat) : State :=
  let x := s.channel c
  if x.state = .init then s.fenceChannel c cause 19 false 0xFF
  else
    let s := s.channelCount c 10
    if x.state = .fenced then (s.setChannel c { s.channel c with training := none, triggered := false }).dramRecord c
    else s.fenceChannel c cause 19 false 0xFF

/-- A training attempt ends (R293, R294, R296). -/
def State.dramTrainingDone (s : State) (c : Nat) (r : TrainResult) : State :=
  let x := s.channel c
  match x.training with
  | none => s
  | some full =>
    let boot := x.state = .init
    let s := if full && r.present then s.setChannel c { x with density := r.density } else s
    let x := s.channel c
    let others := s.serving.filter (· != c)
    let odd := full && !boot && others != [] && s.commonDensity others != r.density
    let s :=
      if full && !r.present then s.trainFailed c 1
      else if !r.passed then
        let s := s.setChannel c { x with attempts := x.attempts + 1 }
        if 3 ≤ x.attempts + 1 then s.trainFailed c 3 else s
      else if odd then s.trainFailed c 2
      else if full then (s.enterService c).dramRecord c
      else (s.setChannel c { x with state := .inService, training := none, lastTrain := s.cycle, trainedMr4 := some x.mr4 }).dramRecord c
    if (s.channel c).training.isSome then s
    else (if boot then s.nextBoot.densityCheck else s.nextRetry).trainSettle

/-! ### Codeword errors (R287) -/

/-- 16 uncorrectable codewords within 100 consecutive cadence cycles fence the channel (Table 14-7). -/
def State.codewordFence (s : State) (c : Nat) : State :=
  let x := s.channel c
  let l := x.errors.filter (fun t => s.cycles < t + 100) ++ [s.cycles]
  let s := s.setChannel c { x with errors := l }
  if 16 ≤ l.length then (s.fenceChannel c 4 19 false 0xFF).trainSettle else s

/-- A correctable error: CW_CORRECTED rises, and more than 1,000 in a cycle trigger a retraining. The word's memory and
address are free values. -/
def State.codewordCorrected (s : State) (c : Nat) : State :=
  let s := s.channelCount c 7
  let d := s.draw
  let s := d.2.raise (channelBlock c) 0 (d.1.toNat % 2 ^ 32) false
  let x := s.channel c
  if 1000 < (tget x.counters 0 7 - x.correctedAt).toNat && x.training.isNone then s.trigger c else s

/-- The frames of a far part with bytes in a block. -/
def ClassQueue.framesIn (x : ClassQueue) (k : Nat) : List FarFrame := x.far.filter (fun f => f.blocks.contains k)

/-- An uncorrectable codeword in a data cell of a block: the frames with a byte in it are read corrupt. Which codeword it is
is a free value: of the block's frames one, two that meet in it, or none. -/
def State.codewordData (s : State) (q k : Nat) : State :=
  let d := s.draw
  let s := d.2
  match s.classQueue q with
  | none => s
  | some x =>
    let n := (x.framesIn k).length
    let i := d.1.toNat / 2 % (n + 1)
    let hit := ((x.framesIn k).drop i).take (1 + d.1.toNat % 2)
    s.setClassQueue q { x with far := x.far.map (fun f => if hit.contains f then { f with frame := { f.frame with corrupt := true } } else f) }

/-- An uncorrectable codeword in a block header: the block is lost, and the queue goes on past it (R240). -/
def State.codewordHeader (s : State) (q k : Nat) : State :=
  let s := (s.endRefill q).loseBlocks q (· == k)
  match s.rootPort (nodeKey 4 q) with
  | some p => s.refreshPort p
  | none => s

/-- What the inline code of a read shows. -/
def State.codeword (s : State) (c : Nat) (r : DramRequest) (o : CodeOutcome) : State :=
  let bad (code : Nat) (s : State) : State :=
    let d := (s.channelCount c 8).draw
    d.2.raise (channelBlock c) code (d.1.toNat % 2 ^ 32) false
  match o with
  | .clean => s
  | .corrected => s.codewordCorrected c
  | .uncorrectableData => ((bad 1 s).codewordData r.queue r.block).codewordFence c
  | .uncorrectableHeader => ((bad 2 s).codewordHeader r.queue r.block).codewordFence c

/-- Serve the oldest refill read of a channel. -/
def State.serveRead (s : State) (c : Nat) (o : CodeOutcome) : State :=
  let x := s.channel c
  match x.rt with
  | [] => s
  | r :: l =>
    let s := s.setChannel c { x with rt := l, panicRun := x.panicRun + 1, bgGap := min 63 (x.bgGap + 1) }
    ((((s.channelCount c 0).blockAccess r.block).perfEvent (channelBlock c) 0x0100 1)).codeword c r o

/-- Work of the BG port: a capture, a replay, a walk of the far store, or a dump. -/
def State.bgWork (s : State) : Bool :=
  (s.far.capture = .capturing && !s.far.captured.isEmpty) || s.far.capture = .replaying || s.bell.dumpState = .writing ||
    (match s.sw.audit with | some a => a.left.contains 9 | none => false)

/-- The bank that owes the first refresh. -/
def Channel.owing (c : Channel) : Option Nat := c.owed.head?.map (·.1)

/-- A block of the region was read with a bad word: in a data cell, one of its copies is dropped CELL_ERROR, a free choice; in the
header, the block is lost (R287, log entry 149). -/
def State.codewordCopy (s : State) (b : CaptureBlock) (header : Bool) : State :=
  if header then { s with far := s.far.captureLose (·.seq == b.seq) }
  else
    let hit := s.far.captured.filter (fun x => x.blocks.contains b.seq)
    let d := s.draw
    match hit.drop (d.1.toNat % hit.length) with
    | [] => d.2
    | x :: _ =>
      let s := { d.2 with far := { d.2.far with captured := d.2.far.captured.erase x, replayLeft := d.2.far.replayLeft.erase x } }
      s.countDrop x.frame.ingressPort 10 { x.frame with dest := .host }

/-- The region's block that a BG request of a replay reads on a channel: the oldest with a copy still to be replayed. -/
def State.replayReads (s : State) (c : Nat) : Option CaptureBlock :=
  s.far.captureBlocks.find? (fun b => b.channel == c && s.far.replayLeft.any (fun x => x.blocks.contains b.seq))

/-- An audit walks the far store. -/
def State.auditsFar (s : State) : Bool := match s.sw.audit with | some a => a.left.contains 9 | none => false

/-- What the inline code of a BG read shows: of a replay, or of the header of a block that an audit walks, a free choice of the
channel's blocks. A capture or a dump writes, and reads nothing. -/
def State.codewordBg (s : State) (c : Nat) (o : CodeOutcome) : State :=
  let bad (code : Nat) (s : State) : State :=
    let d := (s.channelCount c 8).draw
    d.2.raise (channelBlock c) code (d.1.toNat % 2 ^ 32) false
  if o = .clean then s
  else match (if s.far.capture = .replaying then s.replayReads c else none) with
    | some b =>
      (match o with
       | .clean => s
       | .corrected => s.codewordCorrected c
       | .uncorrectableData => ((bad 1 s).codewordCopy b false).codewordFence c
       | .uncorrectableHeader => ((bad 2 s).codewordCopy b true).codewordFence c)
    | none =>
      let l := (tsome s.far.blocks).filter (fun e => blockChannel e.1 == c)
      if !s.auditsFar then s
      else
        let d := s.draw
        match l.drop (d.1.toNat % l.length) with
        | [] => d.2
        | e :: _ => d.2.codeword c { block := e.1, queue := e.2.queue, since := 0, loan := none } o

/-- Serve a BG request: a replay goes on with the copies that it has read. -/
def State.serveBg (s : State) (c : Nat) (o : CodeOutcome) : State :=
  let s := s.setChannel c { s.channel c with bgGap := 0 }
  let s := (s.channelCount c 2).codewordBg c o
  if s.far.capture = .replaying then s.replayRun else s

/-- A channel serves one request of a port (R289, R290, R292). Outside panic RT comes first, then writes in batches; under panic
one WR in 8 is served while more than 192 wait; BG waits for owed refreshes, never runs under panic, and has at most 1 slot in 64
while writes wait. -/
def State.dramRequest (s : State) (c : Nat) (p : DramPort) (o : CodeOutcome) : State :=
  let x := s.channel c
  if x.state ≠ .inService then s
  else match p with
    | .rt => if x.panic && decide (192 < x.wr.length) && decide (7 ≤ x.panicRun) then s else s.serveRead c o
    | .wr =>
      if x.panic then (if 192 < x.wr.length && 7 ≤ x.panicRun then s.serveWrite c else s)
      else if x.rt.isEmpty then s.batchWrite c else s
    | .bg =>
      if !x.panic && x.owing.isNone && x.rt.isEmpty && (x.wr.isEmpty || decide (63 ≤ x.bgGap)) && s.bgWork then s.serveBg c o else s
    | .mt =>
      match x.owing with
      | some b => if x.panic then s
        else (s.setChannel c { x with owed := tmod x.owed 0 b (· - 1), bgGap := min 63 (x.bgGap + 1) }).rowClose c b
      | none => s

/-- MR4 is read, once in a cadence cycle; the first reading after a channel entered service is that of its training. -/
def Channel.readMr4 (x : Channel) (cycle : Nat) (mr4 : BitVec 3) : Channel :=
  if x.mr4Cycle = some cycle then x
  else { x with mr4 := mr4, mr4Cycle := some cycle, trainedMr4 := some (x.trainedMr4.getD mr4) }

/-- MR4 has changed by two steps or more since the last training (R294). -/
def Channel.mr4Moved (x : Channel) : Bool :=
  match x.trainedMr4 with
  | some t => decide (t.toNat + 2 ≤ x.mr4.toNat) || decide (x.mr4.toNat + 2 ≤ t.toNat)
  | none => false

/-- A bank's refresh falls due, with the refresh rate that MR4 shows (R292, R294). -/
def State.refreshDue (s : State) (c b : Nat) (mr4 : BitVec 3) : State :=
  let x := s.channel c
  if x.state = .fenced || x.state = .init || x.state = .selfRefresh then s
  else
    let s := s.setChannel c (x.readMr4 s.cycles mr4)
    let s :=
      if x.panic && tget x.owed 0 b < 8 then
        (s.setChannel c { s.channel c with owed := tmod x.owed 0 b (· + 1) }).channelCount c 5
      else s.rowClose c b
    let y := s.channel c
    if y.mr4Moved && y.training.isNone then s.trigger c else s

end Sys2Proof.Machine
end

