-- ==== Sys2Proof/Machine/FenceOps.lean ====
section
/-! DEFINITION. Fencing units and returning them to service (Table 14-7, R379–R382, R63). -/
namespace Sys2Proof.Machine
open Sys2Proof

/-! ### What a unit loses -/

/-- The ports of a spoke go DOWN and are flushed. -/
def State.spokeDown (s : State) (n : Nat) : State :=
  forAll ((upFrom (8 * n) 8).filter (fun k => (s.port k).cfg.width ≠ 0)) s (fun k s => s.forceDown k)

/-- Frames whose source is gone leave transmit staging, and no port keeps one chosen. -/
def State.stagingClean (s : State) : State :=
  forAll s.portsPresent s (fun k s => s.modPort k (fun p => { p with
    staging := p.staging.filter (fun t => t.complete || (s.frame t.frameId).isSome),
    chosen := match p.chosen with | some c => if (s.frame c.2).isSome then some c else none | none => none }))

/-- The packets and stored frames of a pipe are lost; they count as dropped (R63). -/
def State.pipeLost (s : State) (p : Nat) : State :=
  let pkts := ((tsome s.sw.packets).filter (fun e => pipeOf e.2.port == p)).map (·.1)
  let s := forAll pkts s (fun id s => s.setPacket id none)
  let s := forAll (upFrom (16 * p) 16) s (fun k s => s.modPort k (fun x => { x with waiting := [], receiving := none }))
  let frames := ((tsome s.sw.frames).filter (fun e => e.2.store == p)).map (·.1)
  let s := forAll frames s (fun f s => match s.frame f with
    | some x => (s.unqueue x.queue f).releaseFrame f
    | none => s)
  let s := { s with sw := { s.sw with hostQueue := s.sw.hostQueue.filter (fun f => !frames.contains f) } }
  (s.modPipe p (fun x => { x with heads := [], matching := [], switches := [], inFlight := [], permits := 0 })).intakeClean.stagingClean

/-- What waited for the pipes or islands is looked at again. -/
def State.fenceAftermath (s : State) : State :=
  let s := s.setLoadsSettle
  let s := forAll (tkeys s.fences) s (fun mb s => (s.fenceLeave mb).fenceSettle mb)
  s.switchSettle.gearCheck.stepSettle

/-- Fence a unit of Table 14-7 with the trigger that UNIT_FENCED names. -/
def State.fenceUnit (s : State) (kind index trigger : Nat) (inj : Bool) (mb : Nat) : State :=
  if s.isFenced kind index then s
  else match kind with
    | 1 => ((s.unitFenced 1 index trigger inj mb).spokeDown index).fenceAftermath
    | 2 => ((((s.unitFenced 2 index trigger inj mb).spokeDown (2 * index)).spokeDown (2 * index + 1)).pipeLost index).fenceAftermath
    | 5 => (s.unitFenced 5 index trigger inj mb).queueRoutine 7 index [] none
    | 6 => s.fenceChannel index (if trigger = 0xFF then 5 else 4) trigger inj mb
    | _ => s.unitFenced kind index trigger inj mb

/-! ### Return to service (R382) -/

/-- A unit returns to service: the event and the log record, with the mailbox of the UNIT_UNFENCE that returns it. -/
def State.unitBack (s : State) (kind index : Nat) (mb : Option Nat) : State :=
  ((s.setFenced kind index false).event 10 0).fwRecord 3 (mb.getD 0xFF) 0 (if mb.isSome then 0x0D03 else 0) (kind + index * 256) 1

/-- A spoke returns: its ports qualify again under R108. -/
def State.spokeBack (s : State) (n : Nat) (mb : Option Nat) : State :=
  let s := (s.unitBack 1 n mb).islandSteps n
  forAll ((upFrom (8 * n) 8).filter (fun k => (s.port k).cfg.width ≠ 0)) s (fun k s => s.requalify k)

/-- A pipe returns, with the full configuration of R63. -/
def State.pipeBack (s : State) (p : Nat) (mb : Option Nat) : State :=
  let s := ((s.unitBack 2 p mb).pipeCurrent p).islandSteps (16 + p)
  forAll ((upFrom (16 * p) 16).filter (fun k => (s.port k).cfg.width ≠ 0)) s (fun k s => s.requalify k)

/-- The trigger's cause still holds: a reference clock out of range. -/
def State.causeHolds (s : State) (kind index : Nat) : Bool :=
  match kind with
  | 1 => hasCode (s.block (spokeBlock index)).causes 15
  | _ => false

/-- Routine 0x0010 has reloaded the TCAM of a pipe: the pipe or the TCAM that it was started for returns. -/
def State.tcamReloaded (s : State) (p : Nat) (mb : Option Nat) : State :=
  let s := if s.isFenced 2 p then s.pipeBack p mb else if s.isFenced 3 p then s.unitBack 3 p mb else s
  match mb with
  | some m => s.finish m rowUnitUnfence 0
  | none => s

/-- One step of routine 0x0010: the next entry of the pipe's TCAM is written. True when the routine has ended. -/
def State.reloadStep (s : State) (r : LongRoutine) : Bool × State :=
  match (tkeys (s.pipe r.arg).rules).find? (fun i => r.dest ≤ i) with
  | some i =>
    let s := s.modPipe r.arg (fun x => { x with
      rules := tmod x.rules none i (fun e => e.map (fun y => { y with parityOk := true })), reload := some (i + 1) })
    (false, (s.ruleWrite r.arg).setRoutine (some { r with step := r.step + 1, dest := i + 1 }))
  | none => (true, ((s.setRoutine none).modPipe r.arg (fun x => { x with reload := none })).tcamReloaded r.arg r.mb)

/-! ### Detections that fence (R374, R379) -/

/-- SERDES_REFCLK of a spoke, and HANDSHAKE of an island that can be fenced, fence the unit (Table 14-7). -/
def State.detectFence (s : State) (b code : Nat) (inj : Bool) : State :=
  if 2 ≤ b && b < 18 && (code = 15 || code = 16) then s.fenceUnit 1 (b - 2) code inj 0xFF
  else if 18 ≤ b && b < 26 && code = 16 then s.fenceUnit 2 (b - 18) code inj 0xFF
  else s

end Sys2Proof.Machine
end

