-- ==== Sys2Proof/Machine/Far.lean ====
section
/-! DEFINITION. The commands and events of the far store (chapter 11). -/
namespace Sys2Proof.Machine
open Sys2Proof

/-! ### DRAM_TRAIN (R298) -/

/-- The channel may not be trained by command: fenced with cause UNCORRECTABLE or MANAGER. -/
def State.channelShut (s : State) (c : Nat) : Bool :=
  let x := s.channel c
  x.state = .fenced && 4 ≤ x.cause

/-- Rows that IDLE_NS has closed stay closed when it changes (R292). -/
def State.rowsPrune (s : State) : State :=
  forAll (tkeys s.far.channels) s (fun c s =>
    let x := s.channel c
    s.setChannel c { x with openRows := x.openRows.filter (fun e => match e.2 with
      | some (_, t) => decide (s.now < t + s.far.idleNs)
      | none => false) })

/-- Apply the POLICY fields (R298). -/
def State.dramPolicy (s : State) (e : Entry) : State :=
  let s := s.rowsPrune
  let en := e.bit 19 2
  State.lowCheck { s with far := { s.far with
    idleNs := e.u16 20, panicNs := e.u16 22, retryS := e.u16 24, lowEn := en, lowEnter := e.u8 27, lowExit := e.u8 28,
    lowTraffic := s.far.lowTraffic && en } }

/-- The policy in force. -/
def FarStore.policy (f : FarStore) : DramPolicy :=
  { idleNs := f.idleNs, panicNs := f.panicNs, retryS := f.retryS, speed := f.speed, lowEn := f.lowEn, lowEnter := f.lowEnter,
    lowExit := f.lowExit }

/-- Wait for the trainings of a mask to end. -/
def State.trainWait (s : State) (mb : Nat) (l : List Nat) : State :=
  { s with far := { s.far with trainMb := some mb, trainMask := BitVec.ofNat 24 (l.foldl (fun n c => n + 2 ^ c) 0) } }

/-- Retrain a channel in service, or retry one that is fenced with cause EMPTY, DENSITY or TRAIN. -/
def State.trainChannel (s : State) (c : Nat) : State :=
  if (s.channel c).state = .fenced then (if s.channelShut c then s else s.askRetry c) else s.trigger c

/-- A change of speed: every far block is lost, and every present channel trains again (log entry 61). -/
def State.speedChange (s : State) (speed : Nat) : State :=
  let l := List.range 24
  let s := forAll l s (fun c s => s.loseChannel c)
  { s with far := { s.far with speed := speed } }

/-- The channels that a change of speed trains. -/
def State.speedChannels (s : State) : List Nat :=
  (List.range 24).filter (fun c => let x := s.channel c; x.state ≠ .init && !(x.state = .fenced && x.cause ≠ 2 && x.cause ≠ 3))

def bodyDramTrain : Body := fun s mb e _ =>
  let mask := e.f 16 0 24
  let l := maskChannels mask
  let policy := e.bit 19 0
  let speed := e.bit 19 1
  andThen (firstSome [
    entryCheck rowDramTrain s mb e
      [(16, 0, 24), (19, 0, 3), (20, 0, 16), (22, 0, 16), (24, 0, 16), (26, 0, 8), (27, 0, 8), (28, 0, 8)]
      [(mask = 0 && !policy && !speed, 16), (2000 < e.u16 20, 20), (e.u16 22 < 500 || 4000 < e.u16 22, 22),
       (e.u16 24 ≠ 0 && (e.u16 24 < 10 || 3600 < e.u16 24), 24), (e.u8 26 < 1 || 3 < e.u8 26, 26),
       (e.u8 27 < 1 || 50 < e.u8 27, 27), (e.u8 28 < 2 || 100 < e.u8 28 || e.u8 28 ≤ e.u8 27, 28)],
    failIf (!s.hasFar) 0x09 16,
    failIf (l.any s.channelShut) 0x0A 16,
    failIf (l.any (fun c => (s.channel c).training.isSome)) 0x08 0x0A01]) <|
    let s := { s with far := { s.far with trainWas := some s.far.policy } }
    let s := if policy then s.dramPolicy e else s
    let s := if speed then s.speedChange (e.u8 26) else s
    let l := if speed then s.speedChannels else l
    .hold ((forAll l (s.trainWait mb l) (fun c s => s.trainChannel c)).trainSettle)

def execDramTrain (mb : Fin 129) (e : Entry) (s : State) : Result := runCmd rowDramTrain bodyDramTrain mb e none s

/-! ### DRAM_RETRY (R299) -/

def bodyDramRetry : Body := fun s mb e _ =>
  let c := e.f 16 0 5
  andThen (firstSome [
    entryCheck rowDramRetry s mb e [(16, 0, 5)] [(23 < c, 16)],
    failIf (!s.hasFar) 0x09 16,
    failIf (s.channelShut c) 0x0A 16,
    failIf s.retryRuns 0x08 0x0A03]) <|
    if (s.channel c).state = .fenced then .hold ((s.startRetry c).trainWait mb [c])
    else if (s.channel c).training.isSome then .hold (s.trainWait mb [c])
    else .ok s 0 (resultOf [(16, 1, bit (s.channel c).serves)])

def execDramRetry (mb : Fin 129) (e : Entry) (s : State) : Result := runCmd rowDramRetry bodyDramRetry mb e none s

/-! ### DRAM_STATUS (R300) -/

def CaptureState.num (c : CaptureState) : Nat :=
  match c with | .off => 0 | .reserving => 1 | .capturing => 2 | .replaying => 3

/-- DENSITY of the channels in service; zero when none is. -/
def State.farDensity (s : State) : Nat := match s.serving with | c :: _ => (s.channel c).density | [] => 0

def bodyDramStatus : Body := fun s mb e _ =>
  andThen (firstSome [entryCheck rowDramStatus s mb e [] [], failIf (!s.hasFar) 0x09 0]) <|
    let fenced := ((List.range 24).filter (fun c => (s.channel c).state = .fenced)).foldl (fun n c => n + 2 ^ c) 0
    .ok s 0 (resultOf [(16, 3, fenced), (19, 1, s.far.speed + s.farDensity * 16), (20, 4, s.farTotal), (24, 4, s.regionHeld),
      (28, 4, bit s.far.lowTraffic + s.far.capture.num * 2)])

def execDramStatus (mb : Fin 129) (e : Entry) (s : State) : Result := runCmd rowDramStatus bodyDramStatus mb e none s

/-! ### DRAM_CAPTURE_SET (R301, R302) -/

/-- The region is used by a capture buffer. -/
def State.captureOf (s : State) (n : Nat) : Bool := match s.far.use with | .capture b _ _ => b == n | _ => false

/-- End the capture and release what it holds. -/
def State.captureOff (s : State) : State :=
  let s := s.replayStop.regionRelease
  { s with far := { s.far with capture := .off } }

def bodyDramCaptureSet : Body := fun s mb e _ =>
  let op := e.u8 16
  let n := e.u8 17
  let session := e.u8 18
  let size := e.u16 20
  let on := op = 0
  andThen (firstSome [
    entryCheck rowDramCaptureSet s mb e [(16, 0, 8), (17, 0, 8), (18, 0, 8), (19, 0, 1), (20, 0, 16), (24, 0, 32)]
      [(2 < op, 16), (7 < n, 17), (on && 15 < session, 18), (on && (size % 16 ≠ 0 || size < 16 || 4096 < size), 20)],
    failIf (!s.hasFar) 0x09 0]) <|
    if on && s.claimBusy 5 0 0x0A04 n then s.conflict 5 0
    else if on then
      andThen (firstSome [
        failIf (!bitAt (tget s.currentActions.sessions 0 session).toNat 32) 0x06 0,
        failIf (s.farTotal < 2 * (size * 256)) 0x04 0]) <|
        let s := (s.captureOff.setClaim 5 0 0x0A04 n).regionReserve (size * 256)
        .done { s with far := { s.far with use := .capture n session (e.bit 19 0), capture := .reserving } }
    else andThen (failIf (!s.captureOf n) 0x06 0) <|
      if op = 1 then .done (s.captureOff.release 5 0)
      else andThen (failIf (s.far.capture ≠ .capturing) 0x08 0x0A04) <|
        .done { s with far := { s.far with capture := .replaying, replayQueue := e.u32 24, replayLeft := s.far.captured } }.replayRun

def execDramCaptureSet (mb : Fin 129) (e : Entry) (s : State) : Result := runCmd rowDramCaptureSet bodyDramCaptureSet mb e none s

/-- The region is complete: capture starts. -/
def State.captureStart (s : State) : State :=
  if s.far.capture = .reserving && s.regionComplete then { s with far := { s.far with capture := .capturing } } else s

/-- The replay ends once its last frame has left the host port. -/
def State.replayEnd (s : State) : State :=
  if s.far.capture = .replaying && s.far.replayLeft.isEmpty && s.replayWaiting.isEmpty then
    { s with far := { s.far with capture := .capturing } }
  else s

def execCaptureRegionReserved (s : State) : Result := .next s.captureStart
def execCaptureReplayDone (s : State) : Result := .next s.replayEnd

/-! ### Requests, panic and refresh (R289–R292) -/

/-- One request of a channel's port. -/
def execDramRequest (ch : Fin 24) (cls : DramPort) (outcome : CodeOutcome) (s : State) : Result :=
  .next (s.dramRequest ch.val cls outcome).gearCheck

/-- The oldest RT request has waited PANIC_NS. -/
def State.panicRaise (s : State) (c : Nat) : State :=
  let x := s.channel c
  if x.panic || x.rt.isEmpty || x.state ≠ .inService then s
  else (((s.setChannel c { x with panic := true, panicRun := 0 }).channelCount c 6).perfEvent (channelBlock c) 0x0102 1)

def execDramPanicRaise (ch : Fin 24) (s : State) : Result := .next (s.panicRaise ch.val)

/-- No RT request has waited more than half of PANIC_NS. -/
def State.panicClear (s : State) (c : Nat) : State :=
  s.setChannel c { s.channel c with panic := false, panicRun := 0 }

def execDramPanicClear (ch : Fin 24) (s : State) : Result := .next (s.panicClear ch.val)
def execDramRefreshDue (ch : Fin 24) (bank : Fin 16) (mr4 : BitVec 3) (s : State) : Result :=
  .next (s.refreshDue ch.val bank.val mr4)

/-- The writes of a channel are served as a batch: 8 wait, or the oldest has waited 2 µs, and RT has none. -/
def State.writeBatch (s : State) (c : Nat) : State :=
  let x := s.channel c
  if x.state ≠ .inService || x.panic || !x.rt.isEmpty || !(s.batchDue c || decide (0 < x.batch)) then s
  else (s.serveWrites c).perfEvent (channelBlock c) 0x0103 (if x.wr.isEmpty then 0 else 1)

def execDramWriteBatch (ch : Fin 24) (s : State) : Result := .next (s.writeBatch ch.val)

/-! ### Training (R293–R296) -/

/-- A retrain trigger takes effect: one that waited, or the oscillator drift that only the channel reads (log entry 62). -/
def State.retrainStart (s : State) (c : Nat) : State := if (s.channel c).serves then s.startRetrain c else s

def execRetrainStart (ch : Fin 24) (s : State) : Result := .next (s.retrainStart ch.val)
def execDramTrainingDone (ch : Fin 24) (result : TrainResult) (s : State) : Result := .next (s.dramTrainingDone ch.val result).gearCheck

/-- RETRY_S elapses for a fenced channel. -/
def State.retryTimer (s : State) (c : Nat) : State :=
  let x := s.channel c
  if x.state ≠ .fenced || s.channelShut c || s.far.retryS = 0 || x.training.isSome then s else s.askRetry c

def execDramRetryTimer (ch : Fin 24) (s : State) : Result := .next (s.retryTimer ch.val)

/-! ### Low-traffic operation (R297) -/

def State.lowEntry (s : State) : State :=
  if s.hasFar && s.far.lowEn && s.farUsed * 100 < s.far.lowEnter * s.farTotal then
    { s with far := { s.far with lowTraffic := true } }
  else s

def execLowTrafficEntry (s : State) : Result := .next s.lowEntry

/-- The PASR segments of a channel that a block lies in. -/
def segmentsOf (density b : Nat) : List Nat :=
  (List.range 8).filter (fun i =>
    let n := rowsOf density / 8
    decide (i * n ≤ blockLastRow b) && decide (blockRow b < (i + 1) * n))

/-- The segments that hold no block in use and no capture region block (R297). -/
def State.emptySegments (s : State) (c : Nat) : BitVec 8 :=
  let x := s.channel c
  let used := (((tkeys s.far.blocks).filter (fun k => blockChannel k == c)).map (· % 1048576) ++ x.withheld).flatMap (segmentsOf x.density)
  BitVec.ofNat 8 (((List.range 8).filter (fun i => !used.contains i)).foldl (fun n i => n + 2 ^ i) 0)

/-- A channel without a block in use outside segment 0 and without a request enters self-refresh. -/
def State.selfRefresh (s : State) (c : Nat) : State :=
  let x := s.channel c
  let out := (tkeys s.far.blocks).any (fun k => blockChannel k == c && !inSegment0 x.density (k % 1048576))
  if !s.far.lowTraffic || x.state ≠ .inService || out || !(x.rt ++ x.wr ++ x.writing).isEmpty then s
  else (s.setChannel c { x with state := .selfRefresh, pasr := s.emptySegments c }).channelCount c 11

def execSelfRefreshEntry (ch : Fin 24) (s : State) : Result := .next (s.selfRefresh ch.val)

/-- A request wakes a channel. -/
def State.wake (s : State) (c : Nat) : State :=
  let x := s.channel c
  if x.state = .selfRefresh then s.setChannel c { x with state := .inService, pasr := 0 } else s

def execSelfRefreshWake (ch : Fin 24) (s : State) : Result := .next (s.wake ch.val)

end Sys2Proof.Machine
end

