-- ==== Sys2Proof/Machine/Tables.lean ====
section
/-! DEFINITION. Chapter 07: exact-match and route commands, learning, ageing, scrub and statistics. -/
namespace Sys2Proof.Machine
open Sys2Proof

/-! ### Batch opcodes (R38, R39) -/

/-- What one item does: a new state, or STATUS and DETAIL. -/
abbrev ItemOut := State ⊕ (Nat × Nat)

/-- Apply items in order until one fails: the state, the items applied and the failure. -/
def applyItems (f : State → Nat → Bytes → ItemOut) (s : State) (i : Nat) (l : List Bytes) : State × Nat × Check :=
  match l with
  | [] => (s, i, none)
  | b :: r =>
    match f s i b with
    | .inl t => applyItems f t (i + 1) r
    | .inr c => (s, i, some c)

/-- The items of a batch buffer. -/
def batchItems (b : Bytes) (n size : Nat) : List Bytes := (List.range n).map (fun i => slice b (64 + size * i) size)

/-- The batch in execution on a mailbox: items applied, and items still to apply. -/
def State.setBatch (s : State) (mb : Nat) (b : Option (Nat × List Bytes)) : State :=
  let m := s.mbox mb
  s.setMbox mb { m with inExec := m.inExec.map (fun x => { x with batch := b }) }

/-- What an item answers that cannot be applied before route compaction has run: no STATUS of Table 2-11 (R165). -/
def stall : Nat × Nat := (0x100, 0)

/-- The item waits for another rule item that is in progress. -/
def ruleWait : Nat × Nat := (0x101, 0)

/-- Route compaction runs for a mailbox. -/
def State.compacting (s : State) (mb : Nat) : Bool := (s.te.running.toList ++ s.te.queued).any (fun r => r.id == 5 && r.mb == some mb)

/-- Items of a batch are applied from the one at `i` on: at most `k` of them, until one fails. The batch completes with its last
item or with the status of the one that fails; else it stays in execution, as it does while an item waits for route compaction. -/
def batchGo (s : State) (mb i k : Nat) (l : List Bytes) (f : State → Nat → Bytes → ItemOut) : CmdOut :=
  let r := applyItems f s i (l.take k)
  match r.2.2 with
  | some c =>
    if c = stall then .hold ((r.1.queueRoutine 5 0 [] (some mb)).setBatch mb (some (r.2.1, l.drop (r.2.1 - i))))
    else if c = ruleWait then .hold (r.1.setBatch mb (some (r.2.1, l.drop (r.2.1 - i))))
    else .part r.1 c.1 c.2 r.2.1
  | none => if l.length ≤ k && !r.1.rulePending mb then .ok r.1 r.2.1 0 else .hold (r.1.setBatch mb (some (r.2.1, l.drop k)))

/-- A batch command over its buffer. The firmware applies `fw.pace` items at once, and all of them when it gives none (log entry 118). -/
def runBatch (s : State) (mb : Nat) (e : Entry) (buf : Option Bytes) (maxItems size : Nat) (f : State → Nat → Bytes → ItemOut) : CmdOut :=
  match e.readBuf buf with
  | none => bufFault
  | some b =>
    match batchCount b maxItems size with
    | none => .fail 0x02 24 0
    | some n => batchGo s mb 0 (s.fw.pace.getD n) (batchItems b n size) f

/-- The first failing field of an item whose fields begin at an offset. -/
def itemBad (base : Nat) (l : List (Bool × Nat)) : Check :=
  match leastOff ((l.filter (·.1)).map (·.2)) with
  | some o => some (0x02, base + o)
  | none => none

/-- Run `k` when no check of an item fails. -/
def itemThen (c : Check) (k : ItemOut) : ItemOut := match c with | some x => .inr x | none => k

/-- A command's short routine of the table engine (R94, R165). A command that its checks refuse, or that finds nothing, needs none. When
a fetch of the routine fails, the command completes with TIMEOUT, DETAIL 0 (R377). -/
def teCommand (body : Body) : Body := fun s mb e buf =>
  match body s mb e buf with
  | .fail st d r => .fail st d r
  | _ =>
    let q := s.shortRoutine none
    if q.1 then .part q.2 0x0E 0 0 else body q.2 mb e buf

/-! ### Exact-match items (R160–R163, Table 7-4) -/

/-- The opcodes that take an exact-match item. -/
inductive EmOp where
  | insert | delete | update | lookup
deriving DecidableEq, Repr

/-- The checks of an item before those of its opcode (R160, R161); `base` is 16 for an inline item and 0 in a buffer. -/
def State.emItemCheck (s : State) (mb : Nat) (op : EmOp) (base : Nat) (b : Bytes) : Check :=
  let t := leAt b 0 1
  let fl := leAt b 1 1
  let act := leAt b 8 16
  let d := s.emDesc t
  let w := descWidth d
  let a := widthActBits w
  let byIndex := op = .update && bitAt fl 1
  let noAct := op = .delete || op = .lookup
  let owner := descOwner d
  firstSome [
    itemBad base [(!descValid d || (base = 16 && w = 2 && !byIndex), 0), (4 ≤ fl || (bitAt fl 1 && op ≠ .update) || (bitAt fl 0 && noAct), 1), (leAt b 2 2 ≠ 0, 2),
      ((!byIndex && leAt b 4 4 ≠ 0) || (byIndex && overflowBase + 65536 ≤ leAt b 4 4), 4),
      ((if noAct then act else act / 2 ^ a) ≠ 0, 8), (leAt b 24 48 / (if byIndex then 1 else 2 ^ descKeyLen d) ≠ 0, 24)],
    failIf (mb ≠ 0 && owner ≠ mb - 1) 0x03 base,
    failIf (mb ≠ 0 && !noAct && actCount a act && !(s.rangeOf (mb - 1) 12).has (actStat a act)) 0x03 (base + 8),
    failIf (op ≠ .lookup && s.tableChange.isSome) 0x08 0x0204]

/-- An open move of the key's entry commits first (R167). -/
def State.settleKey (s : State) (t key : Nat) : State :=
  match s.emSearch t key with | some i => s.finishMove i | none => s

/-- The pair that an action names is bound to another holder: EXISTS. -/
def State.pairCheck (s : State) (a act : Nat) (own : Option StatHolder) : Check :=
  if actCount a act then (s.pairTaken (actStat a act) own).map (fun h => (0x07, h.detail)) else none

/-- EM_INSERT of one item: the index and the state. -/
def State.emInsert (s : State) (mb base : Nat) (b : Bytes) : (Nat × State) ⊕ (Nat × Nat) :=
  match s.emItemCheck mb .insert base b with
  | some c => .inr c
  | none =>
    let t := leAt b 0 1
    let key := leAt b 24 48
    let act := leAt b 8 16
    let d := s.emDesc t
    let w := descWidth d
    match firstSome [(s.emSearch t key).map (fun i => (0x07, i)), s.pairCheck (widthActBits w) act none,
        failIf (!s.slotShareOk (descOwner d) (widthSlots w)) 0x04 4] with
    | some c => .inr c
    | none =>
      let e : EmEntry := { table := t, hit := false, static := bitAt (leAt b 1 1) 0, learned := false, gen := 0,
                           key := BitVec.ofNat 384 key, action := BitVec.ofNat 112 act, port := 0, parityOk := true,
                           twin := none, changed := s.now }
      match s.placeEntry e with
      | none => .inr (0x05, 0)
      | some (i, s) => .inl (i, s.teCount 0)

/-- EM_DELETE of one item. -/
def State.emDelete (s : State) (mb base : Nat) (b : Bytes) : ItemOut :=
  itemThen (s.emItemCheck mb .delete base b) <|
    let s := s.settleKey (leAt b 0 1) (leAt b 24 48)
    match s.emSearch (leAt b 0 1) (leAt b 24 48) with
    | none => .inr (0x06, 0)
    | some i => .inl ((s.removeEntry i).teCount 1)

/-- The argument bytes as an inline item. -/
def emItem (e : Entry) : Bytes := e.argBytes ++ List.replicate 24 0

/-- All argument bytes are used. -/
def allArgs : List Field := [(16, 0, 384)]

/-- Item `i` of an EM_INSERT batch: the index is written back to it. -/
def emInsertItem (mb : Nat) (e : Entry) (s : State) (i : Nat) (b : Bytes) : ItemOut :=
  match s.emInsert mb 0 b with
  | .inr c => .inr c
  | .inl (n, t) => .inl (if (t.mbox mb).muted then t else t.dmaFor (mboxSlice mb) (e.bufAddr + 64 + 72 * i + 4) (leBytes 4 n))

def bodyEmInsert : Body := fun s mb e buf =>
  andThen (entryCheck rowEmInsert s mb e (if e.indirect then [] else allArgs) []) <|
    if e.indirect then
      runBatch s mb e buf 233016 72 (emInsertItem mb e)
    else match s.emInsert mb 16 (emItem e) with
      | .inr c => .ofCheck c
      | .inl (n, t) => .ok t 1 (resultOf [(16, 4, n)])

def execEmInsert (mb : Fin 129) (e : Entry) (buf : Option Bytes) (s : State) : Result := runCmd rowEmInsert (teCommand bodyEmInsert) mb e buf s

/-- An inline item's answer. -/
def inlineItem (r : ItemOut) : CmdOut := match r with | .inl t => .ok t 1 0 | .inr c => .ofCheck c

def bodyEmDelete : Body := fun s mb e buf =>
  andThen (entryCheck rowEmDelete s mb e (if e.indirect then [] else allArgs) []) <|
    if e.indirect then runBatch s mb e buf 233016 72 (fun s _ b => s.emDelete mb 0 b)
    else inlineItem (s.emDelete mb 16 (emItem e))

def execEmDelete (mb : Fin 129) (e : Entry) (buf : Option Bytes) (s : State) : Result := runCmd rowEmDelete (teCommand bodyEmDelete) mb e buf s

/-- The entry that an EM_UPDATE names, or STATUS and DETAIL. -/
def State.emTarget (s : State) (b : Bytes) : Nat ⊕ (Nat × Nat) :=
  let t := leAt b 0 1
  if bitAt (leAt b 1 1) 1 then
    match s.entryAt (leAt b 4 4) with
    | none => .inr (0x06, 0)
    | some e => if e.table ≠ t then .inr (0x06, 0) else if e.twin.isSome then .inr (0x10, 0) else .inl (leAt b 4 4)
  else match s.emSearch t (leAt b 24 48) with
    | none => .inr (0x06, 0)
    | some i => .inl i

/-- Replace ACTION and STATIC of an entry and rebind its pair. -/
def State.emRewrite (s : State) (i act : Nat) (static : Bool) : State :=
  match s.entryAt i with
  | none => s
  | some e =>
    let a := s.entryActBits e
    let old := e.action.toNat
    let s := s.setEntry i (some { e with action := BitVec.ofNat 112 act, static := static, learned := false })
    let s := if actCount a old && !(actCount a act && actStat a act = actStat a old) then s.unbindPair (actStat a old) else s
    if actCount a act then s.bindPair (actStat a act) (.em i) e.gen.toNat else s

def bodyEmUpdate : Body := fun s mb e _ =>
  let b := (emItem e)
  andThen (firstSome [entryCheck rowEmUpdate s mb e allArgs [], s.emItemCheck mb .update 16 b]) <|
    let s := if bitAt (leAt b 1 1) 1 then s else s.settleKey (leAt b 0 1) (leAt b 24 48)
    match s.emTarget b with
    | .inr c => .ofCheck c
    | .inl i =>
      let act := leAt b 8 16
      andThen (s.pairCheck (widthActBits (s.emWidth (leAt b 0 1))) act (some (.em i)))
        (.done (s.emRewrite i act (bitAt (leAt b 1 1) 0)))

def execEmUpdate (mb : Fin 129) (e : Entry) (s : State) : Result := runCmd rowEmUpdate (teCommand bodyEmUpdate) mb e none s

def bodyEmLookup : Body := fun s mb e _ =>
  let b := (emItem e)
  andThen (firstSome [entryCheck rowEmLookup s mb e allArgs [], s.emItemCheck mb .lookup 16 b]) <|
    let s := s.readPositions (s.searchReads (leAt b 0 1) (leAt b 24 48))
    match s.emSearch (leAt b 0 1) (leAt b 24 48) with
    | none => .part s 0x06 0 0
    | some i => match s.entryAt i with
      | none => .part s 0x06 0 0
      | some x => .ok s 0 (resultOf [(16, 4, i), (20, 2, { x with hit := s.entryHit i x }.header), (22, 10, x.action.toNat)])

def execEmLookup (mb : Fin 129) (e : Entry) (s : State) : Result := runCmd rowEmLookup (teCommand bodyEmLookup) mb e none s

def bodyEmReadIndex : Body := fun s mb e _ =>
  let i := e.u32 16
  let part := e.f 24 0 2
  andThen (entryCheck rowEmReadIndex s mb e [(16, 0, 32), (24, 0, 2)] [(overflowBase + 65536 ≤ i, 16)]) <|
    match s.entryAt i with
    | none => .fail 0x06 0 0
    | some x =>
      andThen (firstSome [failIf (mb ≠ 0 && descOwner (s.emDesc x.table) ≠ mb - 1) 0x03 16, failIf x.twin.isSome 0x10 0]) <|
        .ok s 0 (if part = 0 then resultOf [(16, 2, { x with hit := s.entryHit i x }.header), (18, 14, x.action.toNat)]
          else resultOf [(16, 16, bitsAt x.key.toNat (128 * (part - 1)) 128)])

def execEmReadIndex (mb : Fin 129) (e : Entry) (s : State) : Result := runCmd rowEmReadIndex (teCommand bodyEmReadIndex) mb e none s

/-! ### Route items (R176, R177, Table 7-8) -/

/-- The checks of a route item; `add` for LPM_ADD. -/
def State.lpmItemCheck (s : State) (mb : Nat) (add : Bool) (base : Nat) (b : Bytes) : Check :=
  let kind := leAt b 0 1
  let fl := leAt b 1 1
  let vrf := leAt b 2 2
  let fam := leAt b 4 1
  let len := leAt b 5 1
  let res := leAt b 8 4
  let data := leAt b 16 16
  let w := if fam = 4 then 32 else 128
  let route := kind = 0
  firstSome [
    itemBad base [(1 < kind, 0), (2 ≤ fl || (fl ≠ 0 && !(add && route)), 1), (if route then 4095 < vrf else vrf ≠ 0, 2),
      (if route then fam ≠ 4 && fam ≠ 6 else fam ≠ 0, 4), (if route then w < len else len ≠ 0, 5), (leAt b 6 2 ≠ 0, 6),
      (65535 < res || (!add && route && res ≠ 0), 8), (leAt b 12 4 ≠ 0, 12),
      (if route then data / 2 ^ w ≠ 0 || data % 2 ^ (w - min len w) ≠ 0
       else if add then data / 2 ^ 64 ≠ 0 || bitsAt data 56 7 ≠ 0 else data ≠ 0, 16)],
    failIf (mb ≠ 0 && route && !(s.rangeOf (mb - 1) 10).has vrf) 0x03 (base + 2),
    failIf (mb ≠ 0 && (!route || add) && !(s.rangeOf (mb - 1) 11).has res) 0x03 (base + 8),
    failIf s.tableChange.isSome 0x08 0x0204]

/-- The route of an item. -/
def routeOf (b : Bytes) : Route :=
  { vrf := leAt b 2 2, v6 := leAt b 4 1 = 6, length := leAt b 5 1, prefix_ := BitVec.ofNat 128 (leAt b 16 16), result := leAt b 8 4,
    parityOk := true }

def State.setRoutes (s : State) (l : List Route) : State := { s with tables := { s.tables with routes := l } }
def State.setResult (s : State) (i : Nat) (v : BitVec 64) : State :=
  { s with tables := { s.tables with results := tset s.tables.results 0 i v } }

/-- The free units of the prefix store lie in pieces: the units after the last one taken are too few, though the store has room
(R165, log entry 126). -/
def State.routeStall (s : State) (need : Nat) : Bool := unitsTotal s.gears.table < s.te.routeTail + need && need ≠ 0

def State.lpmAdd (s : State) (mb base : Nat) (b : Bytes) : ItemOut :=
  itemThen (s.lpmItemCheck mb true base b) <|
    if leAt b 0 1 = 1 then .inl ((s.setResult (leAt b 8 4) (BitVec.ofNat 64 (leAt b 16 8))).teCount 14)
    else
      let r := routeOf b
      let here := s.tables.routes.any (fun x => x.key == r.key)
      let need := if here then 0 else routeUnits r.v6 r.length
      let owner := s.vrfOwner r.vrf
      itemThen (firstSome [failIf (here && !bitAt (leAt b 1 1) 0) 0x07 0,
        failIf (unitsTotal s.gears.table < s.unitsUsed + need) 0x05 0,
        failIf (owner < 128 && need ≠ 0 && tget (s.slice owner).counts 0 (5 * 16) < s.unitsOf owner + need) 0x04 5,
        if s.routeStall need then some stall else none]) <|
        let s := s.setTe { s.te with routeTail := s.te.routeTail + need, badKeys := s.te.badKeys.filter (·.2 != r.key) }
        .inl ((s.setRoutes (routeInsert s.tables.routes r)).teCount 14)

/-- LPM_DELETE of one item. A route's item names its prefix in DATA, as Table 7-8 has it; R176's list of nonzero fields that make an
item BAD_ARG names DATA without that exception (DESIGN CHOICE, log entry 127). -/
def State.lpmDelete (s : State) (mb base : Nat) (b : Bytes) : ItemOut :=
  itemThen (s.lpmItemCheck mb false base b) <|
    if leAt b 0 1 = 1 then
      let i := leAt b 8 4
      .inl ((s.setResult i (tget s.tables.results 0 i &&& BitVec.ofNat 64 (2 ^ 63 - 1))).teCount 14)
    else
      let r := routeOf b
      if s.tables.routes.any (fun x => x.key == r.key) then
        .inl ((s.setRoutes (s.tables.routes.filter (fun x => x.key != r.key))).teCount 14)
      else .inr (0x06, 0)

/-- Fields of an inline route item. -/
def lpmFields (e : Entry) : List Field := if e.indirect then [] else [(16, 0, 256)]

def bodyLpmAdd : Body := fun s mb e buf =>
  andThen (entryCheck rowLpmAdd s mb e (lpmFields e) []) <|
    if e.indirect then runBatch s mb e buf 524286 32 (fun s _ b => s.lpmAdd mb 0 b)
    else match s.lpmAdd mb 16 e.argBytes with
      | .inr c => if c = stall then .hold ((s.queueRoutine 5 0 [] (some mb)).setBatch mb (some (0, [e.argBytes]))) else .ofCheck c
      | .inl t => .ok t 1 0

def bodyLpmDelete : Body := fun s mb e buf =>
  andThen (entryCheck rowLpmDelete s mb e (lpmFields e) []) <|
    if e.indirect then runBatch s mb e buf 524286 32 (fun s _ b => s.lpmDelete mb 0 b) else inlineItem (s.lpmDelete mb 16 e.argBytes)

def execLpmAdd (mb : Fin 129) (e : Entry) (buf : Option Bytes) (s : State) : Result := runCmd rowLpmAdd (teCommand bodyLpmAdd) mb e buf s
def execLpmDelete (mb : Fin 129) (e : Entry) (buf : Option Bytes) (s : State) : Result := runCmd rowLpmDelete (teCommand bodyLpmDelete) mb e buf s

/-! ### LEARN_CONFIG and AGEING_CONFIG (R168, R173, R180) -/

/-- A slice may configure only the tables that it owns. -/
def State.tableOwned (s : State) (mb t off : Nat) : Check := failIf (mb ≠ 0 && descOwner (s.emDesc t) ≠ mb - 1) 0x03 off

def bodyLearnConfig : Body := fun s mb e _ =>
  let t := e.u8 16
  let fl := e.u8 17
  let v := e.u16 22
  andThen (firstSome [
    entryCheck rowLearnConfig s mb e [(16, 0, 8), (17, 0, 6), (18, 0, 8), (19, 0, 8), (20, 0, 16), (22, 0, 16), (24, 0, 32), (28, 0, 32),
        (32, 0, 64), (40, 0, 8)]
      [(!descValid (s.emDesc t), 16), (bitAt fl 0 && s.emWidth t ≠ 0, 17), (e.u8 19 < 1 || 21 < e.u8 19, 19),
       (1536 < e.u16 20 + e.u8 19, 20), (v ≠ 0xFFFF && (2047 < v || (mb ≠ 0 && !s.ownsVector mb v)), 22), (e.u64 32 % 4096 ≠ 0, 32),
       (e.u8 40 < 4 || 16 < e.u8 40, 40)],
    s.tableOwned mb t 16]) <|
    let c := s.learnCfg t
    .done (State.fencesCheck <| s.setLearn t { c with
      flags := BitVec.ofNat 8 fl, program := e.u8 18, argLen := e.u8 19, argStart := e.u16 20, vector := v, tableLimit := e.u32 24,
      portLimit := e.u32 28, ringBase := e.u64 32, ringLog2 := e.u8 40, seq := 1, lastInt := none, intPending := false })

def execLearnConfig (mb : Fin 129) (e : Entry) (s : State) : Result := runCmd rowLearnConfig bodyLearnConfig mb e none s

/-- The ageing interval of a table. -/
def LearnCfg.withInterval (c : LearnCfg) (n now : Nat) : LearnCfg :=
  { c with interval := n, joined := c.joined && n != 0, swept := c.swept && c.interval != 0,
           lastSweep := if c.interval = 0 || !c.swept then now else c.lastSweep }

def bodyAgeingConfig : Body := fun s mb e _ =>
  let sweep := e.u8 16
  let t := e.u8 17
  let n := e.u16 18
  let base := e.u64 24
  andThen (firstSome [
    entryCheck rowAgeingConfig s mb e [(16, 0, 8), (17, 0, 8), (18, 0, 16), (24, 0, 64)]
      [(1 < sweep, 16), (if sweep = 0 then !descValid (s.emDesc t) else t ≠ 0, 17), (sweep = 1 && (n < 1 || 3600 < n), 18),
       (if sweep = 0 then base ≠ 0 else base % 2097152 ≠ 0, 24)],
    if sweep = 1 then failIf (mb ≠ 0) 0x03 16 else s.tableOwned mb t 17]) <|
    if sweep = 0 then .done (s.setLearn t ((s.learnCfg t).withInterval n s.now))
    else .done (s.setTe { s.te with scrubPeriod := n, shadowBase := base, shadowValid := false }).shadowCopy

def execAgeingConfig (mb : Fin 129) (e : Entry) (s : State) : Result := runCmd rowAgeingConfig bodyAgeingConfig mb e none s

def bodyParityLogRead : Body := fun s mb e _ =>
  andThen (entryCheck rowParityLogRead s mb e [] []) <|
    match s.te.parityLog with
    | [] => .fail 0x06 0 0
    | x :: r =>
      let s' := s.setTe { s.te with parityLog := r, parityDropped := false }
      .ok s' 0 (resultOf [(16, 4, x.address), (20, 1, x.memory), (21, 1, x.outcome + 128 * bit s.te.parityDropped), (22, 2, r.length),
        (24, 8, x.time)])

def execParityLogRead (mb : Fin 129) (e : Entry) (s : State) : Result := runCmd rowParityLogRead bodyParityLogRead mb e none s

/-! ### Events of the table engine -/

/-- The table engine takes the oldest request of the learn queue. -/
def State.learnNext (s : State) : State :=
  match s.te.learnQ with
  | [] => s
  | r :: q => (s.setTe { s.te with learnQ := q }).learnHandle r

def execLearnRequest (s : State) : Result := .next s.learnNext

/-- A trap for the oldest learn request; one whose short routine a failed fetch abandons is lost (R377). -/
def State.learnTrap (s : State) (target : Option Nat) : State :=
  let q := s.shortRoutine target
  if q.1 then q.2.setTe { q.2.te with learnQ := q.2.te.learnQ.tail } else q.2.learnNext

/-- The next move of overflow compaction or of gear relocation. -/
def State.routineMove (s : State) (id : Nat) : Option (Nat × Nat) :=
  if id = 3 then s.nextMove s.placeQuarters false s.overflowKeys
  else s.nextMove s.placeQuarters true (s.misplaced s.placeQuarters)

/-- The object of the step that a long routine has open: the position that a move writes, or the bucket of a sweep or scrub. -/
def State.openObject (s : State) (r : LongRoutine) : Option Nat :=
  if r.id = 3 || r.id = 4 then (match r.target with | some i => some i | none => (s.routineMove r.id).map (·.2))
  else if (r.id = 1 || r.id = 2) && r.step < s.bucketCount then some (s.kthBucket r.step)
  else none

/-- The oldest learn request writes the object of the open step: its key, or one of its candidate buckets. -/
def State.learnMeets (s : State) (o : Nat) : Bool :=
  match s.te.learnQ with
  | [] => false
  | q :: _ =>
    let c := s.candidates q.table q.key.toNat s.placeQuarters
    o - o % 4 == c.1 || o - o % 4 == c.2 || s.emSearch q.table q.key.toNat == some o

/-- A micro-trap of the long routine in progress, for the oldest learn request when one waits, while the step that the routine commits
next is open (R94, Table 4-13, log entry 128). A request for the object of that step stays queued until the step has committed
(R96). -/
def State.microTrap (s : State) : State :=
  match s.te.running with
  | none => s
  | some r =>
    let o := s.openObject r
    if o.any s.learnMeets then let s := s.trapped o; s.setTe { s.te with deferred := true } else s.learnTrap o

def execTeMicroTrap (s : State) : Result := .next s.microTrap

/-- Tables that an ageing sweep which begins now serves: they have joined it. -/
def State.joinedTables (s : State) : List Nat := (tkeys s.tables.learn).filter (fun t => (s.learnCfg t).joined)

/-- A sweep that a gear change has stopped goes on at the bucket, in the order of the physical places, that it had not reached: its
STEP is that bucket's number in the new geometry (log entry 129). -/
def State.sweepResume (s : State) (r : LongRoutine) : LongRoutine :=
  let old := 2048 * r.arg
  let new := 2048 * s.quarters
  { r with arg := s.quarters, step :=
      if r.step < 128 * old then r.step / old * new + min new (r.step % old) else 128 * new + (r.step - 128 * old) }

/-- The next queued long routine starts, under the bank in force; ageing sweeps wait for the end of a table gear change (R97,
R173). -/
def State.longStart (s : State) : State :=
  if s.te.running.isSome then s
  else match s.te.queued.find? (fun r => !(r.id = 1 && s.tableChange.isSome)) with
    | none => s
    | some r =>
      let l := s.te.queued.erase r
      let run (s : State) (r : LongRoutine) : State := s.setTe { s.te with queued := l, running := some { r with bank := s.te.bank } }
      if r.id = 16 then (run s r).modPipe r.arg (fun x => { x with reload := some 0 })
      else if r.id ≠ 1 then run s r
      else if r.arg ≠ 0 then run s (s.sweepResume r)
      else
        let now := s.now
        let tables := s.joinedTables
        run (forAll tables s (fun t s => s.setLearn t { s.learnCfg t with joined := false, swept := true, lastSweep := now }))
          { r with tables := tables, arg := s.quarters }

def execTeLongRoutineStart (s : State) : Result := .next s.longStart

/-- A routine of this number runs or waits. -/
def State.hasRoutine (s : State) (id : Nat) : Bool :=
  (match s.te.running with | some r => r.id == id | none => false) || s.te.queued.any (fun r => r.id == id)

/-- Tables whose interval has elapsed join the next sweep. -/
def State.sweepDue (s : State) : State :=
  let due := (tkeys s.tables.learn).filter (fun t =>
    let c := s.learnCfg t
    c.interval ≠ 0 && !c.joined && c.lastSweep + c.interval * 1000000000 ≤ s.now)
  let s := forAll due s (fun t s => s.setLearn t { s.learnCfg t with joined := true })
  if due = [] || s.te.queued.any (fun r => r.id == 1 && r.arg == 0) then s else s.queueRoutine 1 0 [] none

def execAgeingSweepStart (s : State) : Result := .next s.sweepDue

def State.scrubStart (s : State) : State :=
  if s.hasRoutine 2 then s else s.queueRoutine 2 0 [] none

def execScrubPassStart (s : State) : Result := .next s.scrubStart

/-- At most once per 100 ms, while the overflow store holds entries. -/
def State.compactionStart (s : State) : State :=
  if s.overflowKeys = [] || s.hasRoutine 3 || s.now < s.te.lastCompaction + 100000000 then s
  else (s.queueRoutine 3 0 [] none).setTe { (s.queueRoutine 3 0 [] none).te with lastCompaction := s.now }

def execOverflowCompactionStart (s : State) : Result := .next s.compactionStart

def execShadowCopyDone (s : State) : Result :=
  .next (if s.te.shadowBase = 0 then s else s.setTe { s.te with shadowValid := true })

/-- A repair of the oldest reported position. -/
def State.repairNext (s : State) : State :=
  match s.te.repairs with
  | [] => s
  | (a, m, inj) :: r =>
    let s := s.setTe { s.te with repairs := r }
    if m = 4 then s.repairRule a inj else s.repairTable a m inj

def execParityRepair (s : State) : Result := .next s.repairNext

/-! ### Statistics (R164, R347) -/

/-- The mailbox whose range holds a pair. -/
def State.pairMbox (s : State) (p : Nat) : Nat :=
  match (List.range 128).find? (fun n => (s.rangeOf n 12).has p) with | some n => n + 1 | none => 0

/-- Credit a pair; a count that passes 2^64 writes a WRAP record. -/
def State.creditPair (s : State) (p n : Nat) : State :=
  let s := s.pairRead p
  let x := s.pair p
  let wrapP := decide (2 ^ 64 ≤ x.packets.toNat + 1)
  let wrapB := decide (2 ^ 64 ≤ x.bytes.toNat + n)
  let s := s.setPair p { x with packets := x.packets + 1, bytes := x.bytes + BitVec.ofNat 64 n }
  if wrapP || wrapB then s.counterEvent (s.pairMbox p) 1 0 0 (bit wrapB + 2 * bit wrapP) p (x.packets + 1).toNat else s

/-- The oldest counting update arrives. -/
def State.statNext (s : State) : State :=
  match s.te.stats with
  | [] => s
  | u :: r =>
    let s := s.setTe { s.te with stats := r }
    match u.gen with
    | none => s.creditPair u.pair u.bytes
    | some g => if (s.pair u.pair).holder.isSome && (s.pair u.pair).gen = g then s.creditPair u.pair u.bytes
      else s.creditStale u.slice

def execStatUpdate (s : State) : Result := .next s.statNext

/-! ### Steps of the long routines (Table 7-5) -/

/-- A counted step of a routine of `n` steps; the last one ends it. -/
def State.stepped (s : State) (r : LongRoutine) (n : Nat) : State :=
  s.setRoutine (if r.step + 1 < n then some { r with step := r.step + 1 } else none)

/-- One step of a sweep: a bucket or 4 overflow units. A gear change puts the sweep back in the queue. -/
def State.sweepStep (s : State) (r : LongRoutine) : State :=
  if s.tableChange.isSome then (s.setRoutine none).setTe { s.te with running := none, queued := s.te.queued ++ [r] }
  else
    let l := s.kthEntries r.step
    (forAll l (s.readPositions l) (fun i s => s.sweepEntry r.tables i)).stepped r s.sweepSteps

/-- The bad words among the 64 route words of a step of the scrub. -/
def State.scrubRoutes (s : State) (k : Nat) : State :=
  let l := s.te.badKeys.map (·.1) ++ s.te.badRoutes.map (·.1)
  forAll (l.filter (fun a => a / 64 == k)) s (fun a s => s.parityFound 2 a false)

/-- Where the k-th step of a sweep or scrub begins. -/
def State.kthBase (s : State) (k : Nat) : Nat := if k < s.bucketCount then s.kthBucket k else overflowBase + (k - s.bucketCount) * 4

/-- What the scrub finds in the hit array, and by an armed parity injection at a position that holds no entry. -/
def State.scrubArmed (s : State) (k : Nat) : State :=
  let b := s.kthBase k
  let s := forAll (s.te.badHits.filter (fun a => b ≤ a && a < b + 4)) s (fun a s => s.parityFound 3 a false)
  match tget (s.block swBlock).armed none 2 with
  | some (m, a, _) => if b ≤ a && a < b + 4 && m ≤ 1 && (s.entryAt a).isNone then s.parityFound m a false else s
  | none => s

/-- The scrub compares each entry of a step with its shadow, HIT left out; one that differs is rewritten from it (R180). -/
def State.scrubCompare (s : State) (k : Nat) : State :=
  if !s.te.shadowValid then s
  else forAll (s.kthEntries k) s (fun i s =>
    match s.entryAt i with
    | some e =>
      if e.parityOk && (s.shadowBytes i (s.entrySlots e)).any (· != s.shadowImage (s.entrySlots e) (some e)) then
        s.parityFound (memoryOf i) i true else s
    | none => s)

/-- The scrub reads the pattern automata of a pipe: an armed injection is found, and repaired from a valid shadow. -/
def State.scrubPatterns (s : State) (p : Nat) : State :=
  match tget (s.block (pipeBlock p)).armed none 2 with
  | some (5, a, _) => s.patternsBad p a
  | _ => s

/-- One step of a scrub pass. The last one scrubs the rule TCAMs and ends the pass. -/
def State.scrubStep (s : State) (r : LongRoutine) : State :=
  let n := s.scrubSteps
  let s := if r.step < s.sweepSteps then ((s.readPositions (s.kthEntries r.step)).scrubArmed r.step).scrubCompare r.step else s.scrubRoutes (r.step - s.sweepSteps)
  let s := s.stepped r n
  if s.te.running.isSome then s
  else
    let s := forAll s.livePipes s (fun p s => (s.ruleRead p).scrubPatterns p)
    s.setTe { s.te with passCount := s.te.passCount + 1, lastPass := s.cycle }

/-- Completed moves of a table gear change. -/
def State.gearProgress (s : State) (before : Nat) : State :=
  match s.gears.change with
  | some c => if c.domain = 1 then
      { s with gears := { s.gears with change := some { c with done := c.done + (before - (s.misplaced (5 - c.target)).length) } } } else s
  | none => s

/-- Steps of a route compaction: three for each directory word that names routes (log entry 126). -/
def State.routeSteps (s : State) : Nat := 3 * (s.tables.routes.map Route.directory).eraseDups.length

/-- One step of a route compaction: a rebuilt bucket is written, its directory word switched, or the old bucket freed. The last one
leaves the free units in one piece. True when it has ended. -/
def State.routeStep (s : State) (r : LongRoutine) : Bool × State :=
  let s := s.stepped r s.routeSteps
  if s.te.running.isSome then (false, s) else (true, s.setTe { s.te with routeTail := s.unitsUsed })

/-- One step of a routine of Table 7-5. -/
def State.longStep (s : State) (r : LongRoutine) : State :=
  match r.id with
  | 1 => s.sweepStep r
  | 2 => s.scrubStep r
  | 3 => (s.moveStep r (s.routineMove 3)).2
  | 4 =>
    let before := (s.misplaced s.placeQuarters).length
    (s.moveStep r (s.routineMove 4)).2.gearProgress before
  | 5 => (s.routeStep r).2
  | 6 =>
    let q := s.routeStep r
    if !q.1 then q.2
    else (match q.2.gears.change with | some c => if c.domain = 1 then q.2.gearDone c else q.2 | none => q.2)
  | 7 => (s.evacuateStep r).2
  | _ => s.setRoutine none

end Sys2Proof.Machine
end

