-- ==== Sys2Proof/Machine/TandemOps.lean ====
section
/-! DEFINITION. The Tandem pair: claims and gates, roles, takeover, the Tandem link, mirrored changes, the comparison of
digest blocks and the referee (chapter 15). -/
namespace Sys2Proof.Machine
open Sys2Proof

def State.setTandem (s : State) (t : Tandem) : State := { s with tandem := t }

/-- TANDEM is recorded with a cause, a verdict, and a port or opcode (R431), in the block and in the firmware log. -/
def State.tandemRecord (s : State) (cause verdict n : Nat) : State :=
  let detail := cause + verdict * 256 + min 0xFFFF n * 65536
  (s.raise tandemBlock 31 detail false).fwRecord 6 0xFF 0 0 s.tandem.role.num detail

/-! ### Claims (R403, R404) -/

/-- The rank in force (Table 15-1). -/
def State.rankNow (s : State) : Nat :=
  match s.tandem.role with
  | .stoker => 0
  | .captain => if s.tandem.raised then 63 else s.tandem.rank
  | .standalone => s.tandem.rank

def State.ownClaim (s : State) : Nat := s.rankNow * 4 + s.boot.unitId.toNat

/-- CRC-8 with polynomial 0x07 over `n` bits, most significant first. -/
def claimCrc (n v crc : Nat) : Nat :=
  match n with
  | 0 => crc
  | k + 1 =>
    let fb := (crc / 128 + v / 2 ^ k) % 2
    claimCrc k v ((crc * 2 % 256) ^^^ (if fb = 1 then 7 else 0))

/-- A claim frame is good: SYNC, zero bits and CRC (Table 15-2). -/
def claimGood (f : BitVec 32) : Bool :=
  let v := f.toNat
  bitsAt v 24 8 == 0xA5 && bitsAt v 8 3 == 0 && claimCrc 24 (v / 256) 0 == v % 256

def claimNo (f : BitVec 32) : Nat := bitsAt f.toNat 16 8
def claimRole (f : BitVec 32) : Nat := bitsAt f.toNat 14 2
def claimGated (f : BitVec 32) : Bool := f.getLsbD 13
def claimBellOk (f : BitVec 32) : Bool := f.getLsbD 12
def claimEligible (f : BitVec 32) : Bool := f.getLsbD 11

/-- The accepted claims of the paths that are present. -/
def State.claims2 (s : State) : List (BitVec 32) := s.tandem.link.accepted.toList ++ s.tandem.pins.accepted.toList

/-- The partner claim in use: of two that disagree the higher. -/
def partnerOf (l : List (BitVec 32)) : Option (BitVec 32) := minBy (fun f => 255 - claimNo f) l
def State.partner (s : State) : Option (BitVec 32) := partnerOf s.claims2

/-- An eligible Stoker (R401, R410, R412, R418). -/
def State.eligible (s : State) : Bool :=
  s.tandem.role == .stoker && s.tandem.sync == .synced && !s.tandem.barred && !s.tandem.lagging && !s.tandem.linkLost && s.bellRuns

/-! ### Gates (R405, R406) -/

/-- The claim condition of the gates. -/
def State.gateCondition (s : State) : Bool :=
  s.tandem.role != .stoker && !s.tandem.holdoff && s.claims2.all (fun f => decide (claimNo f < s.ownClaim))

/-- The unit leaves the Captain role without a partner's consent: it is deposed. -/
def State.depose (s : State) : State :=
  let s := { s with fw := { s.fw with journal := [] } }
  ((s.setTandem { s.tandem with role := .stoker, sync := .unsynced, raised := false, changing := false, mustApply := false,
                                handover := none, joining := false, records := [], mirrors := [], loading := none }).answerAll).tandemRecord 9 0 0

/-- Re-evaluate the gates. -/
def State.gateReview (s : State) : State :=
  let want := s.gateCondition
  if want then (if s.tandem.gatesOpen then s else s.gatesOpened)
  else if !s.tandem.gatesOpen then s
  else
    let s := s.gatesClose
    if s.tandem.role = .captain && s.claims2.any (fun f => decide (s.ownClaim < claimNo f)) then s.depose else s

/-! ### Roles (R401, R407, R420, R421) -/

/-- The bell rate of a member is 10,000 Hz; the rate held before returns with the standalone role. -/
def State.memberBell (s : State) (on : Bool) : State :=
  { s with bell := if on then { s.bell with soloRate := s.bell.rateHz, rateHz := 10000 } else { s.bell with rateHz := s.bell.soloRate } }

/-- The unit becomes standalone. A Stoker keeps its configuration at rank 0. -/
def State.goStandalone (s : State) : State :=
  let t := s.tandem
  let s := { s with fw := { s.fw with journal := [] } }
  let s := s.setTandem { t with
    role := .standalone, sync := .none, epoch := t.epoch + 1, rank := if t.role = .stoker then 0 else t.rank, raised := false,
    strict := false, noTakeover := false, barred := false, lagging := false, linkLost := false, holdoff := false, changing := false,
    records := [], mirrors := [], loading := none, mustApply := false, handover := none, joining := false }
  (s.answerAll.memberBell false).gateReview

/-- The unit takes the Captain role: by takeover at rank 63, or in a handover at its configured rank. The hold-off starts. -/
def State.becomeCaptain (s : State) (raised : Bool) (epoch : BitVec 16) : State :=
  let t := s.tandem
  (s.setTandem { t with
    role := .captain, sync := .none, epoch := epoch, raised := raised, holdoff := true, barred := false, lagging := false,
    linkLost := false, changing := false, mustApply := !t.records.isEmpty, handover := none, joining := false, mirrors := [], loading := none,
    serialOut := t.serialIn }).tandemCount 6 1

/-- A takeover, steps 1 to 3 of R420. -/
def State.takeover (s : State) : State :=
  (((s.becomeCaptain true (s.tandem.epoch + 1)).tandemRecord 8 1 0).event 12 0).gateReview

/-- An eligible Stoker takes over when BELL_IN is silent and the partner does not claim a running bell (R419). -/
def State.bellTakeover (s : State) : State :=
  if s.eligible && !s.tandem.noTakeover && !s.tandem.bellInOk &&
      (match s.partner with | some f => !claimBellOk f | none => true) then s.takeover
  else s

/-! ### Accepting claims (R404, R405, R420) -/

/-- The raised rank is lowered once the held records are applied and the partner claims the Stoker role (step 5 of R420). -/
def State.lowerRank (s : State) : State :=
  if s.tandem.role = .captain && s.tandem.raised && !s.tandem.mustApply &&
      (match s.partner with | some f => claimRole f == 2 | none => false) then
    s.setTandem { s.tandem with raised := false }
  else s

/-- What a change of the accepted claims shows, given those before it: the straps, the end of the raise, a
partner that joins, is joined or is lost. -/
def State.claimChanged (s : State) (before : List (BitVec 32)) : State :=
  let own := s.ownClaim
  let old := partnerOf before
  let new := s.partner
  let s := if s.claims2.any (fun f => claimNo f == own) && !before.any (fun f => claimNo f == own) then s.tandemRecord 4 0 0 else s
  if new = old then s
  else
    let s := s.lowerRank
    if s.tandem.role ≠ .captain then s
    else
      let was := match old with | some f => claimRole f | none => 3
      let is := match new with | some f => claimRole f | none => 3
      let s := if was = 2 && is ≠ 2 then s.tandemRecord 10 0 0 else s
      let s := if was = 0 && is = 2 then s.setTandem { s.tandem with joining := true } else s
      let s := if (was = 0 && is = 2) || (was = 2 && is = 0) then s.setTandem { s.tandem with epoch := s.tandem.epoch + 1 } else s
      if s.tandem.joining && (match new with | some f => claimEligible f | none => false) then
        (s.setTandem { s.tandem with joining := false }).event 12 0
      else s

/-- A path's state. -/
def State.path (s : State) (p : ClaimPath) : PathState := match p with | .pins => s.tandem.pins | .link => s.tandem.link
def State.setPath (s : State) (p : ClaimPath) (x : PathState) : State :=
  match p with
  | .pins => s.setTandem { s.tandem with pins := x }
  | .link => s.setTandem { s.tandem with link := x }

/-- A claim frame, or a link control word with the same fields, arrives. One accepted with GATED = 1 ends a hold-off (R405). -/
def State.claimFrame (s : State) (p : ClaimPath) (f : BitVec 32) : State :=
  if p = .link && !s.tandem.linkUp then s
  else
    let x := s.path p
    if !claimGood f then s.setPath p { x with last := none }
    else if x.last = some f then
      let old := s.claims2
      let s := s.setPath p { last := some f, accepted := some f }
      let s := if s.tandem.holdoff && claimGated f then s.setTandem { s.tandem with holdoff := false } else s
      ((s.claimChanged old).gateReview).bellTakeover
    else s.setPath p { x with last := some f }

/-- A path delivers nothing for 50 µs. -/
def State.claimTimeout (s : State) (p : ClaimPath) : State :=
  let old := s.claims2
  ((((s.setPath p { last := none, accepted := none }).tandemRecord 2 0 0).claimChanged old).gateReview).bellTakeover

/-- BELL_IN has shown no edge for 150 µs. -/
def State.bellInSilent (s : State) : State :=
  let s := s.setTandem { s.tandem with bellInOk := false }
  match s.partner with
  | some f => if claimBellOk f then s.tandemRecord 3 0 0 else s.bellTakeover
  | none => s.bellTakeover

/-! ### The Tandem link (R408, R412) -/

/-- The Tandem link goes down. -/
def State.tandemLinkDown (s : State) : State :=
  if !s.hasTandem then s
  else
    let t := s.tandem
    let s := s.setTandem { t with
      linkUp := false, sync := if t.sync = .syncing then .unsynced else t.sync,
      records := if t.sync = .syncing then [] else t.records, mirrors := if t.sync = .syncing then [] else t.mirrors, loading := none }
    if t.role = .standalone then s else s.tandemRecord 1 0 0

/-- The Stoker must be joined again before it can take over. -/
def State.unsync (s : State) : State := s.setTandem { s.tandem with sync := .unsynced, records := [], mirrors := [], loading := none }

/-- A message with another role epoch than this unit's is completed with ROLE_CHANGED and has no effect (R76). -/
def State.roleChanged (s : State) : State :=
  s.setTandem { s.tandem with
    rejected := s.tandem.rejected + 1,
    rejectRole := match s.tandem.role with | .standalone => 0 | .captain => 1 | .stoker => 2 }

/-! ### Mirrored changes (R411) -/

/-- The Stoker applies a mirrored change under R169 and R171. A change whose result is already present has no effect. -/
def State.mirrorEffect (s : State) (m : MirrorMessage) : State :=
  let t := m.table
  let k := m.key.toNat
  let s := match s.emSearch t k with | some i => s.finishMove i | none => s
  if !descValid (s.emDesc t) then s
  else match m.kind, s.emSearch t k with
  | .learn, none => (s.learnPlace t k m.program m.arg.toNat m.port).getD s
  | .move, some i => match s.entryAt i with
    | some e =>
      let a := s.entryActBits e
      if e.learned && !e.static && !(actArg a e.action.toNat = m.arg.toNat && e.port = m.port) then s.learnMove i m.arg.toNat m.port else s
    | none => s
  | .ageOut, some i => s.ageOut i
  | .lost, some i => s.loseEntry i true
  | _, _ => s

def State.mirrorApply (s : State) (m : MirrorMessage) : State := (s.tandemCount 5 1).mirrorEffect m

/-! ### Comparing digest blocks (R417) -/

/-- A decision of the block is still to settle: a packet with a frame number of it is in the device. -/
def State.blockOpen (s : State) (k : Nat) (c : DigestState) : Bool :=
  (tsome s.sw.packets).any (fun p => p.2.port == k && c.covers p.2.frameNo.toNat)

/-- The two blocks are not compared: MIXED, UNALIGNED, or formed under different conditions. -/
def State.blockSkip (s : State) (c : DigestState) (b : DigestBlock) : Bool :=
  let stamp : Bool := match c.stamp, b.stamp with
    | some none, _ => true
    | _, none => true
    | none, some _ => false
    | some (some x), some y => x != y
  stamp || c.unaligned || b.unaligned || c.rxErrors != b.rxErrors ||
    (match s.fw.active with | some x => x.id != b.bundleId | none => b.bundleId != 0)

/-- Compare an own closed block with the partner's of the same number; two consecutive mismatches make a divergence. -/
def State.blockCompare (s : State) (k : Nat) (c : DigestState) (b : DigestBlock) : State :=
  let s := s.modPort k (fun p => { p with digest := { p.digest with closed := p.digest.closed.erase c, partner := p.digest.partner.erase b } })
  if s.blockSkip c b then s.tandemCount 2 1
  else
    let bad := c.digest != b.digest || c.settled != b.settled
    let s := (s.tandemCount 0 1).perfEvent tandemBlock 0x0100 1
    let s := if bad then s.tandemCount 1 1 else s
    let run := (s.port k).digest.run
    let s := s.modPort k (fun p => { p with digest := { p.digest with
      compared := some { number := c.number, mismatch := bad, digest := c.digest, partner := b.digest, settled := c.settled,
                         partnerSettled := b.settled },
      run := if bad then run + 1 else 0,
      windowFrom := if bad && run = 0 then c.firstTime else p.digest.windowFrom,
      windowTo := if bad && run = 1 then s.now else p.digest.windowTo } })
    if bad && run = 1 then s.tandemCount 3 1 else s

/-- The first partner block of a port whose own block is closed and settled. -/
def State.comparable (s : State) (k : Nat) : Option (DigestState × DigestBlock) :=
  let d := (s.port k).digest
  d.partner.findSome? (fun b => match d.closed.find? (fun c => c.number == b.number) with
    | some c => if s.blockOpen k c then none else some (c, b)
    | none => none)

/-- Compare what can be compared. -/
def State.digestSettle (fuel : Nat) (s : State) (k : Nat) : State :=
  match fuel with
  | 0 => s
  | n + 1 => match s.comparable k with
    | some x => (s.blockCompare k x.1 x.2).digestSettle n k
    | none => s

/-- Compare the blocks that a port waits for. -/
def State.digests (s : State) (k : Nat) : State := s.digestSettle (s.port k).digest.partner.length k

/-- Compare the blocks that the ports of a pipe wait for. -/
def State.pipeDigests (s : State) (p : Nat) : State :=
  forAll ((upFrom (16 * p) 16).filter (fun k => !(s.port k).digest.partner.isEmpty)) s (fun k s => s.digests k)

/-! ### Divergence and the referee (R418) -/

/-- Table 15-5: the codes that the referee attributes. -/
def attributed (b c : Nat) : Bool := [1, 2, 3, 5, 6, 7, 15, 16, 22].contains c || severity b c == 2

/-- This unit has an attributed code, unmasked, in a history entry of the window of a port. -/
def State.ownCode (s : State) (k : Nat) : Bool :=
  s.blocks.any (fun b => b.2.history.any (fun e => match e.2 with
    | some h => attributed b.1 h.code && !hasCode b.2.mask h.code && decide ((s.port k).digest.windowFrom ≤ h.time) &&
      decide (h.time ≤ (s.port k).digest.windowTo)
    | none => false))

/-- The verdict of Table 15-6 for a port: 0 neither, 1 Captain, 2 Stoker. -/
def State.referee (s : State) (k : Nat) (theirs : List (Nat × Nat)) : State :=
  if !s.paired || (s.port k).digest.run < 2 then s
  else
    let other := theirs.any (fun x => attributed x.1 x.2)
    let captain := if s.tandem.role = .captain then s.ownCode k else other
    let stoker := if s.tandem.role = .captain then other else s.ownCode k
    let verdict := if stoker then 2 else if captain then 1 else 0
    let s := (s.tandemRecord 5 verdict k).event 12 0
    let s := s.modPort k (fun p => { p with digest := { p.digest with run := 0 } })
    if s.tandem.role ≠ .stoker then s
    else if verdict = 2 then s.setTandem { s.tandem with barred := true }
    else if verdict = 1 && s.eligible && !s.tandem.noTakeover then s.takeover
    else s

end Sys2Proof.Machine
end

