-- ==== Sys2Proof/Machine/Faults.lean ====
section
/-! DEFINITION. Chapter 14: fault status, fencing commands, the bell, clearing, injection, the monitors and the steps of the
table engine's long routines. -/
namespace Sys2Proof.Machine
open Sys2Proof

/-! ### FAULT_STATUS_READ (R398) -/

/-- ERR_STATUS of a block (Table 14-2). -/
def State.errStatus (s : State) (b : Nat) : Nat :=
  let x := s.block b
  let some_ (n : Nat) : Bool := (List.range 48).any (fun c => hasCode x.codes c && severity b c == n)
  x.codes.toNat + bit (some_ 2) * 2 ^ 63 + bit (some_ 1) * 2 ^ 62 + bit (x.codes ≠ 0 && x.real = 0) * 2 ^ 61

/-- The bitmap of the fenced units of a kind. -/
def State.fencedMap (s : State) (kind n : Nat) : Nat :=
  ((List.range n).filter (fun i => s.isFenced kind i)).foldl (fun m i => m + 2 ^ i) 0

/-- The pairs of a port in the over-budget state (R393). The watches are keyed by port × 256 + slice. -/
def State.overBudget (s : State) (port : Nat) : Nat :=
  ((List.range 128).filter (fun n => (tget s.sw.watches LifelineWatch.reset (port * 256 + n)).overBudget)).foldl (fun m i => m + 2 ^ i) 0

def bodyFaultStatusRead : Body := fun s mb e _ =>
  let part := e.u8 16
  let arg := e.u16 18
  let top := if part = 1 then 52 else if part = 3 then 127 else 0
  andThen (firstSome [
    entryCheck rowFaultStatusRead s mb e [(16, 0, 8), (18, 0, 16)] [(3 < part, 16), (part ≤ 3 && top < arg, 18)],
    failIf ((part = 1 && !s.blockPresent arg) || (part = 3 && s.portCount ≤ arg)) 0x09 18]) <|
    .ok s 0 (match part with
      | 0 => BitVec.ofNat 128 ((List.range 53).foldl (fun n b =>
          n + (if s.blockPresent b then blockSeverity b (s.block b).codes else 3) * 4 ^ b) 0)
      | 1 => resultOf [(16, 8, s.errStatus arg), (24, 8, (s.block arg).mask.toNat)]
      | 2 => resultOf [(16, 2, s.fencedMap 1 16), (18, 1, s.fencedMap 2 8), (19, 1, s.fencedMap 3 8), (20, 1, s.fencedMap 4 8),
          (21, 3, s.fencedMap 6 24), (24, 1, ((List.range 128).filter (fun i => s.isFenced 5 i)).length)]
      | _ => BitVec.ofNat 128 (s.overBudget arg))

def execFaultStatusRead (mb : Fin 129) (e : Entry) (s : State) : Result := runCmd rowFaultStatusRead bodyFaultStatusRead mb e none s

/-! ### UNIT_FENCE and UNIT_UNFENCE (R380–R382) -/

/-- INDEXes of a KIND (Table 14-7). -/
def unitCount (kind : Nat) : Nat := match kind with | 1 => 16 | 5 => 128 | 6 => 24 | _ => 8

/-- A unit is present on the part. -/
def State.unitPresent (s : State) (kind index : Nat) : Bool :=
  match kind with
  | 1 => index < s.spokes
  | 4 => s.hasMatcher
  | 5 => true
  | 6 => s.hasFar
  | _ => index < s.pipeCount

/-- The checks that both commands share. -/
def unitCheck (r : OpRow) (s : State) (mb : Nat) (e : Entry) : Check :=
  let k := e.u8 16
  let i := e.u8 17
  firstSome [
    entryCheck r s mb e [(16, 0, 8), (17, 0, 8)] [(k < 1 || 6 < k, 16), (1 ≤ k && k ≤ 6 && unitCount k ≤ i, 17)],
    failIf (!s.unitPresent k i) 0x09 17]

def bodyUnitFence : Body := fun s mb e _ =>
  andThen (firstSome [unitCheck rowUnitFence s mb e, failIf (s.isFenced (e.u8 16) (e.u8 17)) 0x0A 17]) <|
    .done ((s.fenceUnit (e.u8 16) (e.u8 17) 0xFF false mb).trainSettle.gearCheck)

def execUnitFence (mb : Fin 129) (e : Entry) (s : State) : Result := runCmd rowUnitFence bodyUnitFence mb e none s

/-- A return begins: a TCAM is reloaded and a channel trained before the response; every other unit returns at once. -/
def State.unfence (s : State) (mb kind index : Nat) : CmdOut :=
  match kind with
  | 1 => .done (s.spokeBack index (some mb))
  | 2 => .hold (s.queueRoutine 16 index [] (some mb))
  | 3 => .hold (s.queueRoutine 16 index [] (some mb))
  | 5 => .done ((s.bankEmptied index).unitBack kind index (some mb))
  | 6 => .hold ((s.askRetry index).trainWait mb [index])
  | _ => .done (s.unitBack kind index (some mb))

/-- `checkOk` says that the unit's memories pass the check of R382. -/
def bodyUnitUnfence (checkOk : Bool) : Body := fun s mb e _ =>
  let k := e.u8 16
  let i := e.u8 17
  andThen (unitCheck rowUnitUnfence s mb e) <|
    if !s.isFenced k i then .done s
    else andThen (failIf (!checkOk || s.causeHolds k i || ((k = 3 || k = 4) && s.isFenced 2 i)) 0x0A 16) (s.unfence mb k i)

def execUnitUnfence (mb : Fin 129) (e : Entry) (checkOk : Bool) (s : State) : Result :=
  runCmd rowUnitUnfence (bodyUnitUnfence checkOk) mb e none s

/-! ### FAULT_INJECT (R389) -/

/-- ADDRESSes of a memory that R181 names. -/
def State.parityAddress (s : State) (memory a : Nat) : Bool :=
  match memory with
  | 0 => a < overflowBase
  | 1 => overflowBase ≤ a && a < overflowBase + 65536
  | 2 => a < (4 + 16 * s.gears.table) * 131072
  | 3 => a < overflowBase + 65536
  | _ => a < 2 ^ 28

/-- The block holds a memory that R181 names. -/
def parityBlock (b memory : Nat) : Bool :=
  if memory ≤ 3 then b == swBlock else memory ≤ 5 && 18 ≤ b && b < 26

/-- The parity of the entry at an address is inverted. -/
def State.parityInvert (s : State) (b memory a : Nat) : State :=
  if memory ≤ 1 then (match s.entryAt a with | some e => s.setEntry a (some { e with parityOk := false }) | none => s)
  else if memory = 2 then
    (match Config.routeWordAt (s.tables.routes.map Route.key) a with
     | (none, k) =>
       { s with tables := { s.tables with
           routes := s.tables.routes.map (fun r => if r.key = k then { r with parityOk := false } else r),
           te := { s.te with badKeys := s.te.badKeys ++ [(a, k)] } } }
     | (some d, n) => s.setTe { s.te with badRoutes := s.te.badRoutes ++ [(a, d, n)] })
  else if memory = 3 then s.setTe { s.te with badHits := s.te.badHits ++ [a] }
  else if memory = 4 && a / 16384 = b - 18 then
    s.modPipe (b - 18) (fun p => { p with
      rules := tmod p.rules none (a % 16384) (fun x => x.map (fun y => { y with parityOk := false })) })
  else s

def bodyFaultInject : Body := fun s mb e _ =>
  let k := e.u8 16
  let b := e.u8 18
  let m := e.u8 19
  let a := e.u64 24
  let badAddress :=
    (k = 1 && 2 ^ 28 ≤ a) || (k = 2 && m ≤ 5 && !s.parityAddress m a) || (k = 4 && 1 < a) || (k = 5 && 3 < a)
  andThen (firstSome [
    entryCheck rowFaultInject s mb e [(16, 0, 8), (17, 0, 8), (18, 0, 8), (19, 0, 8), (24, 0, 64)]
      [(k < 1 || 5 < k, 16), (k = 1 && (e.u8 17 < 1 || 3 < e.u8 17), 17), (52 < b, 18),
       ((k = 1 && 15 < m) || (k = 2 && !parityBlock b m), 19), (badAddress, 24)],
    failIf (!s.blockPresent b) 0x09 18,
    failIf ((k = 3 || k = 4) && !s.bell.hostStop && !(s.block 0).fatalOk) 0x08 0x0D05,
    failIf (tget (s.block b).armed none k).isSome 0x08 0x0D04]) <|
    let x := s.block b
    let s := s.setBlock b { x with armed := tset x.armed none k (some (m, a, if k = 1 then e.u8 17 else 0)) }
    .done (if k = 2 then s.parityInvert b m a else if k = 1 then s.romFlip b else s)

def execFaultInject (mb : Fin 129) (e : Entry) (s : State) : Result := runCmd rowFaultInject bodyFaultInject mb e none s

/-! ### BELL_CONFIG and the dump (R385, R386) -/

/-- The dump's claim and blocks are released. -/
def State.dumpRelease (s : State) : State :=
  let s := if s.far.use = .dump then s.regionRelease.release 5 0 else s
  { s with bell := { s.bell with dumpOn := false, dumpState := .off, dump := none } }

/-- The dump claims the region and begins to reserve its 2,048 blocks. -/
def State.dumpReserve (s : State) : State :=
  let s := (s.setClaim 5 0 0x0D05 0).regionReserve 2048
  { s with far := { s.far with use := .dump }, bell := { s.bell with dumpOn := true } }

def bodyBellConfig : Body := fun s mb e _ =>
  let rate := e.u16 16
  let dump := e.u8 18
  andThen (firstSome [
    entryCheck rowBellConfig s mb e [(16, 0, 16), (18, 0, 8)] [(rate ≠ 0 && (rate < 100 || 10000 < rate), 16), (2 < dump, 18)],
    failIf (dump = 1 && !s.hasFar) 0x09 18]) <|
    if dump = 1 && s.claimBusy 5 0 0x0D05 0 then s.conflict 5 0
    else andThen (firstSome [failIf (s.paired && rate ≠ 0 && rate ≠ 10000) 0x08 0x0E01,
        failIf (dump = 1 && !s.bell.dumpOn && s.farTotal < 4096) 0x04 0]) <|
      let s := if rate = 0 then s else { s with bell := { s.bell with rateHz := BitVec.ofNat 16 rate } }
      .done (if dump = 1 && !s.bell.dumpOn then s.dumpReserve else if dump = 2 then s.dumpRelease else s)

def execBellConfig (mb : Fin 129) (e : Entry) (s : State) : Result := runCmd rowBellConfig bodyBellConfig mb e none s

/-- The dump's blocks are withheld: DUMP_STATE reads armed. -/
def execDumpReserved (s : State) : Result :=
  .next (if s.bell.dumpOn && s.bell.dumpState = .off && s.far.use = .dump && s.regionComplete then
    { s with bell := { s.bell with dumpState := .armed } } else s)

/-- The dump engine has finished. -/
def execDumpComplete (s : State) : Result :=
  .next (if s.bell.dumpState = .writing then { s with bell := { s.bell with dumpState := .done } } else s)

/-- A write of DUMP_REARM. -/
def execDumpRearm (s : State) : Result :=
  .next (if s.bell.dumpState = .done then { s with bell := { s.bell with dumpState := .armed, dump := none } } else s)

/-- A write of HOST_STOP. -/
def execHostStop (value : Bool) (s : State) : Result := .next { s with bell := { s.bell with hostStop := value } }

/-! ### WEAR_READ (R397) -/

/-- The equivalent hours in units of 0.01 h. -/
def Wear.hours (w : Wear) : Nat := w.equivalent / 36000000000000

/-- Which island holds a sensor is not given: its block number is a free value. -/
def bodyWearRead : Body := fun s mb e _ =>
  let part := e.u8 16
  andThen (entryCheck rowWearRead s mb e [(16, 0, 8), (17, 0, 8)] [(1 < part, 16), (63 < e.u8 17, 17)]) <|
    let w := s.wear
    if part = 0 then
      .ok s 0 (resultOf [(16, 8, w.hours), (24, 2, w.demandMv), (26, 1, (w.hottest % 256).toNat), (28, 4, w.slowdown.foldl max 0)])
    else
      let d := s.draw
      .ok d.2 0 (resultOf [(16, 1, d.1.toNat % 53), (20, 4, w.slowdown.getD (e.u8 17) 0)])

def execWearRead (mb : Fin 129) (e : Entry) (s : State) : Result := runCmd rowWearRead bodyWearRead mb e none s

/-! ### Clearing (R387) -/

/-- A code clears: it is no longer set by any detection. -/
def State.clearCode (s : State) (b code : Nat) : State :=
  let x := s.block b
  let gone := match clearRule code with
    | .w1c => true
    | .cause => !hasCode x.causes code
    | .reset => false
  if !hasCode x.codes code || !gone then s
  else
    let s := s.setBlock b { x with codes := setCode x.codes code false, real := setCode x.real code false }
    if 26 ≤ code && code ≤ 29 then s.event 11 0 else s

def execErrStatusClear (block : Fin 53) (mask : BitVec 64) (s : State) : Result :=
  .next (if s.blockPresent block.val then
    forAll ((List.range 48).filter (fun c => mask.getLsbD c)) s (fun c s => s.clearCode block.val c) else s)

/-! ### Reactions and injection (R374, R376, R379, R388) -/

/-- A detection with the reaction of Table 14-5 that belongs to the block as a whole. DETAIL as given. -/
def State.detect (s : State) (b code detail : Nat) (inj : Bool) : State :=
  if code = 19 && 26 ≤ b && b < 50 then
    let d := s.draw
    if s.isFenced 6 (b - 26) then d.2.raise b 19 (1 + d.1.toNat % 4) inj
    else d.2.fenceChannel (b - 26) (1 + d.1.toNat % 4) 19 inj 0xFF
  else if code = 22 && 2 ≤ b && b < 18 && !s.isFenced 1 (b - 2) then s.fenceUnit 1 (b - 2) 22 inj 0xFF
  else if code = 22 && 18 ≤ b && b < 26 && !s.isFenced 2 (b - 18) then s.fenceUnit 2 (b - 18) 22 inj 0xFF
  else if code = 22 && 26 ≤ b && b < 50 && !s.isFenced 6 (b - 26) then s.fenceUnit 6 (b - 26) 22 inj 0xFF
  else
    let s := (s.raise b code detail inj).detectFence b code inj
    if code = 21 && b = swBlock then s.setTe { s.te with shadowValid := false }
    else if code = 15 && b = tandemBlock then s.tandemLinkDown
    else if (code = 6 || code = 7) && inj && 18 ≤ b && b < 26 then
      s.modPipe (b - 18) (fun p => { p with injected := p.injected ++ [code] })
    else s

/-- A write of ERR_INJECT. The DETAIL of an injected code is not given: a free value. -/
def State.errInject (s : State) (b : Nat) (v : BitVec 64) : State :=
  let code := bitsAt v.toNat 0 6
  let ok := v.getLsbD 8
  let arm := v.getLsbD 63
  if !s.blockPresent b || (arm && (!codeDefined code || (severity b code = 2 && !ok))) then s
  else
    let s := s.setBlock b { s.block b with injCode := BitVec.ofNat 6 code, fatalOk := ok }
    if !arm then s
    else
      let d := s.draw
      (d.2.detect b code (d.1.toNat % 2 ^ 32) true).trainSettle.gearCheck

def execErrInjectArm (block : Fin 53) (value : BitVec 64) (s : State) : Result := .next (s.errInject block.val value)

/-- An island answers no handshake within 10 µs. -/
def State.handshake (s : State) (b : Nat) : State :=
  if s.blockPresent b && !s.blockFenced b then s.detect b 16 b false else s

def execHandshakeTimeout (block : Fin 53) (s : State) : Result := .next (s.handshake block.val).gearCheck

/-! ### The heartbeat and the lockstep pairs (R376, R383, R84) -/

/-- The heartbeat is withheld by an injection (KIND 3 of R389). -/
def State.beatHeld (s : State) : Option Nat := (s.blocks.find? (fun b => (tget b.2.armed none 3).isSome)).map (·.1)

/-- Lockstep pair 1 sends a heartbeat; none while a missed class limit holds (R43). -/
def State.beat (s : State) : State :=
  if s.fw.halted || s.beatHeld.isSome || hasCode (s.block 1).causes 11 then s
  else ({ s with bell := { s.bell with heartbeat := true, lastBeat := s.now } }).setCause 0 10 false

/-- The firmware that beats reads the Tsuska SRAM: a word that cannot be corrected halts both pairs (R376). -/
def execHeartbeat (s : State) : Result := .next (s.dataRead 1 .sram 8).2.beat

/-- No heartbeat for 50 µs. After an injection the heartbeat resumes at once. -/
def State.beatExpired (s : State) : State :=
  let last := s.bell.lastBeat % 2 ^ 32
  match s.beatHeld with
  | some b =>
    let s := (s.disarm b 3).raise 0 10 last true
    s.beat
  | none =>
    if !s.bell.started then s
    else ({ s with bell := { s.bell with heartbeat := false } }).raiseCause 0 10 last false

def execHeartbeatExpiry (s : State) : Result := .next s.beatExpired

/-- The boot ROM runs: no image has started. -/
def State.inBootRom (s : State) : Bool := s.boot.phase = .romBoot || s.boot.phase = .authenticating

/-- A lockstep pair miscompares. In the boot ROM that leads to FAILED. -/
def State.lockstep (s : State) (pair : Nat) : State :=
  let arm := s.armedAt 4 pair
  let s := match arm with | some b => s.disarm b 4 | none => s
  let s := s.raise 1 9 pair arm.isSome
  if s.inBootRom then ({ s with boot := { s.boot with phase := .failed } }).spi false else s

def execLockstepMismatch (pair : Fin 2) (s : State) : Result := .next (s.lockstep pair.val)

/-! ### Monitors (R391, R395, R396) -/

/-- A Cause code of the global page follows its condition. -/
def State.monitor (s : State) (b code detail : Nat) (bad : Bool) : State :=
  if bad then s.raiseCause b code detail false else s.setCause b code false

def execSysclkMonitor (bad : Bool) (kHz : BitVec 32) (s : State) : Result := .next (s.monitor 0 14 kHz.toNat bad)

/-- The block that watches a SerDes reference. -/
def refBlock (t : CalTarget) : Nat := match t with | .spoke n => spokeBlock n.val | _ => tandemBlock

/-- A SerDes reference leaves or regains its range: its spoke is fenced, and the Tandem block's reference takes the Tandem
link down (R412). -/
def State.refclk (s : State) (t : CalTarget) (bad : Bool) (ppm : Nat) : State :=
  let b := refBlock t
  if !s.blockPresent b then s
  else
    let s := s.monitor b 15 ppm bad
    if !bad then s
    else match t with
      | .spoke n => s.fenceUnit 1 n.val 15 false 0xFF
      | _ => if s.tandem.linkUp then s.tandemLinkDown else s

def execSerdesRefclkMonitor (target : CalTarget) (bad : Bool) (ppm : BitVec 32) (s : State) : Result :=
  .next (s.refclk target bad ppm.toNat).gearCheck

/-- The cause of a temperature code: set above one limit, ended below another. -/
def State.thermal (s : State) (code : Nat) (on off t : Int) : State :=
  if on < t then s.raiseCause 0 code (t % 2 ^ 32).toNat false
  else if t < off then s.setCause 0 code false
  else s

/-- The sensors are read, with the slowdown and the demand that the adaptive loop shows. -/
def State.thermalSample (s : State) (temps : List Int) (slowdown : List Nat) (demand : Nat) : State :=
  let s := { s with wear := { s.wear with slowdown := slowdown, demandMv := demand } }
  let s := if demand < 780 then s.setCause 0 28 false else s
  let s := if demand < 800 then s.setCause 0 29 false else s
  match temps with
  | [] => s
  | t :: r =>
    let hot := r.foldl max t
    (({ s with wear := { s.wear with hottest := hot } }).thermal 26 105 103 hot).thermal 27 115 110 hot

def execThermalSample (temps : List Int) (slowdown : List Nat) (demandMv : Nat) (s : State) : Result :=
  .next (s.thermalSample temps slowdown demandMv)
def execWearMargin (mV : Nat) (s : State) : Result := .next (s.raiseCause 0 28 mV false)
def execVoltageLimit (shortfallPs : BitVec 32) (s : State) : Result := .next (s.raiseCause 0 29 shortfallPs.toNat false)

/-! ### Steps of the long routines (R95, R97, R98) -/

/-- The table engine switches banks at a step boundary of its long routine. -/
def State.stepBoundary (s : State) : State :=
  match s.fw.activation with
  | some a =>
    if a.started && a.tablePending then
      let s := s.setTe { s.te with bank := !s.fw.bank, running := s.te.running.map (fun r => { r with bank := !s.fw.bank }) }
      ({ s with fw := { s.fw with activation := some { a with tablePending := false } } }).switchSettle
    else s
  | none => s

/-- The long routine in progress commits one step, unless a fetch of it fails (R378): then it stays at the step before. A request that
its open step has kept waiting is served at a trap after the commit (R96). A halted firmware's sweeps and scrubs do not run
(R376). -/
def State.routineStep (s : State) : State :=
  match s.te.running with
  | none => s
  | some r =>
    if s.fw.halted && (r.id = 1 || r.id = 2) then s
    else
      let q := s.microRun 2 swBlock r.bank
      if q.1 then q.2
      else
        let s := (if r.id = 16 then (q.2.reloadStep r).2 else q.2.longStep r).stepBoundary
        if s.te.deferred then (s.setTe { s.te with deferred := false }).learnTrap none else s

def execTeLongStep (s : State) : Result := .next s.routineStep

end Sys2Proof.Machine
end

