-- ==== Sys2Proof/Machine/HostOps.lean ====
section
/-! DEFINITION. Ring pairs and the frames that the host port moves between cells and host memory (R317–R331). -/
namespace Sys2Proof.Machine
open Sys2Proof

/-! ### Rings and slices (R317) -/

/-- The slice of a ring pair; 128 is the manager's. -/
def State.ringSlice (s : State) (g : Nat) : Option Nat :=
  if g < 256 then some 128 else (tkeys s.slices).find? (fun n => (s.rangeOf n 16).has g)

/-- The generation under which work for a ring pair begins; the manager has none. -/
def State.ringGen (s : State) (g : Nat) : BitVec 16 :=
  match s.ringSlice g with | some n => if n < 128 then (s.slice n).gen else 0 | none => 0

/-- The ring pair that a slice's local index names. -/
def State.globalRing (s : State) (slc q : Nat) : Option Nat :=
  if 128 ≤ slc then (if q < 256 then some q else none)
  else if q < (s.rangeOf slc 16).count then some ((s.rangeOf slc 16).first + q) else none

/-- The ring pair that a mailbox's RING field names. -/
def State.mboxRing (s : State) (mb r : Nat) : Option Nat := s.globalRing (mboxSlice mb) r

def State.modRx (s : State) (g : Nat) (f : RxRing → RxRing) : State := let x := s.ring g; s.setRing g { x with rx := f x.rx }
def State.modTx (s : State) (g : Nat) (f : TxRing → TxRing) : State := let x := s.ring g; s.setRing g { x with tx := f x.tx }

/-- Discarded work of an old generation of a slice (R331). -/
def State.genDiscard (s : State) (slc n : Nat) : State :=
  if slc < 128 then let x := s.slice slc; s.setSlice slc { x with genDiscards := x.genDiscards + BitVec.ofNat 64 n } else s

/-- Discarded work of the slice of a ring pair. -/
def State.ringDiscard (s : State) (g : Nat) : State :=
  match s.ringSlice g with | some n => s.genDiscard n 1 | none => s

/-- A DMA write for the slice of a ring pair. -/
def State.ringDma (s : State) (g a : Nat) (b : Bytes) : State := s.dmaFor ((s.ringSlice g).getD 128) a b

/-- PHASE of the completion of a slot (R319). -/
def phaseByte (count : BitVec 16) (log2 : Nat) : Bytes := [if bitAt count.toNat log2 then 0 else 0x80]

/-- The address of a ring's slot. -/
def ringSlot (base log2 : Nat) (count : BitVec 16) : Nat := base + count.toNat % 2 ^ log2 * 32

/-! ### Receive (R322–R325) -/

/-- Begin to fetch the descriptors that are posted and not fetched. -/
def State.rxFetch (s : State) (g : Nat) : State :=
  let r := (s.ring g).rx
  let n := (r.tail - r.head).toNat - r.posted.length - bit r.writing.isSome
  if r.state ≠ .running || r.fetching.isSome || n = 0 then s
  else
    let gen := s.ringGen g
    s.modRx g (fun r => { r with fetching := some (n, gen) })

/-- A receive descriptor (Table 12-7). -/
def rxDescOf (w : BitVec 256) : RxDesc := { addr := bitsAt w.toNat 0 64, cookie := BitVec.ofNat 64 (bitsAt w.toNat 64 64) }

/-- A receive completion (Table 12-8). -/
def rxCompletion (x : Frame) (len : Nat) (first last incomplete : Bool) (d : RxDesc) (phase : Bytes) : Bytes :=
  leBytes 2 len ++ leBytes 1 (bit first + bit last * 2 + bit incomplete * 4 + bit x.tsValid * 8) ++ leBytes 1 x.slowReason ++
    leBytes 1 x.ingressPort ++ leBytes 1 (x.cls + x.colour.toNat * 8) ++ leBytes 2 x.bytes.length ++ leBytes 8 d.cookie.toNat ++
    leBytes 8 x.rxStamp.toNat ++ leBytes 4 x.flowTag.toNat ++ leBytes 3 0 ++ phase

/-- The part of a frame that its buffer `i` takes. -/
def rxPart (x : Frame) (size i : Nat) : Bytes := Sys2Proof.Machine.slice x.bytes (i * size) size

/-- Write the completion that a ring owes for the buffer just written, and advance RX_HEAD; under an old generation it is discarded. -/
def State.rxComplete (s : State) (g : Nat) (x : Frame) (w : RxFrame) (last incomplete : Bool) : State :=
  let r := (s.ring g).rx
  let s := s.modRx g (fun r => { r with writing := none })
  if w.gen ≠ s.ringGen g then s.ringDiscard g
  else (s.ringDma g (ringSlot r.base r.log2 r.head)
      (rxCompletion x (rxPart x (r.bufUnits * 64) w.index).length (w.index == 0) last incomplete w.desc (phaseByte r.head r.log2))).modRx g
    (fun r => { r with head := r.head + 1 })

/-- Write the frame's buffer `i` into the next posted one. -/
def State.rxPut (s : State) (g : Nat) (x : Frame) (f i : Nat) (fault : Bool) : State :=
  let r := (s.ring g).rx
  match r.posted with
  | [] => s
  | d :: l => (s.ringDma g d.addr (rxPart x (r.bufUnits * 64) i)).modRx g (fun r => { r with
      posted := l, writing := some { frameId := f, index := i, desc := d, gen := s.ringGen g, fault := fault } })

/-- A frame has left the host port. -/
def State.hostDone (s : State) (f : Nat) : State :=
  ({ s with sw := { s.sw with hostQueue := s.sw.hostQueue.filter (· != f) } }.releaseFrame f).replayRun

/-- The frame that a ring is writing ends: its last completion is written; `short` when bytes of it are discarded (R325, R326). -/
def State.rxEndFrame (s : State) (g : Nat) (short : Bool) : State :=
  match (s.ring g).rx.writing with
  | none => s
  | some w =>
    match s.frame w.frameId with
    | none => s.modRx g (fun r => { r with writing := none })
    | some x =>
      let s := s.rxComplete g x w true (short || w.fault)
      let s := s.modRx g (fun r => { r with
        frames := r.frames + 1, bytes := r.bytes + BitVec.ofNat 64 (min x.bytes.length ((w.index + 1) * (r.bufUnits * 64))),
        truncated := if short then r.truncated + 1 else r.truncated })
      (if w.gen = s.ringGen g then s.event 1 g else s).hostDone w.frameId

/-- The frame that a ring is writing leaves with nothing further written. -/
def State.rxAbandon (s : State) (g : Nat) (cut : Bool) : State :=
  match (s.ring g).rx.writing with
  | none => s
  | some w => (s.modRx g (fun r => { r with
      writing := none, truncated := if cut then r.truncated + 1 else r.truncated })).hostDone w.frameId

/-- A ring fails: ERROR with a cause, and its kind 3 event (R317, R318). -/
def State.rxFail (s : State) (g : Nat) (c : RingCause) : State :=
  ((s.rxAbandon g false).modRx g (fun r => { r with state := .error, cause := c })).event 3 g
def State.txFail (s : State) (g : Nat) (c : RingCause) : State := (s.modTx g (fun r => { r with state := .error, cause := c })).event 3 g

/-- A ring goes on with the frame that it is writing, as far as descriptors have been fetched; where no more are posted, the frame
is truncated. -/
def State.rxGoOn (fuel : Nat) (s : State) (g : Nat) : State :=
  match fuel with
  | 0 => s
  | k + 1 =>
    let r := (s.ring g).rx
    match r.writing with
    | none => s
    | some w =>
      match s.frame w.frameId with
      | none => s.modRx g (fun r => { r with writing := none })
      | some x =>
        if x.bytes.length ≤ (w.index + 1) * (r.bufUnits * 64) then s.rxEndFrame g false
        else if !r.posted.isEmpty then ((s.rxComplete g x w false false).rxPut g x w.frameId (w.index + 1) w.fault).rxGoOn k g
        else if (r.tail - r.head).toNat ≤ 1 then s.rxEndFrame g true
        else s

/-- A frame finds a running ring with tokens. It waits for the first descriptor when one is posted and not yet fetched. -/
def State.rxDeliver (s : State) (g f : Nat) (x : Frame) : State :=
  let r := (s.ring g).rx
  let charged := s.modRx g (fun r => { r with bucket := r.bucket.charge x.bytes.length })
  if r.tail = r.head then (charged.modRx g (fun r => { r with noBuffer := r.noBuffer + 1 })).hostDone f
  else if r.posted.isEmpty then s
  else ((charged.rxPut g x f 0 false).rxGoOn 512 g).rxFetch g

/-- The ring that is writing a frame. -/
def State.rxWriter (s : State) (f : Nat) : Option Nat :=
  (tkeys s.rings).find? (fun g => match (s.ring g).rx.writing with | some w => w.frameId == f | none => false)

/-- A frame at the host port finds no running ring: it is dropped and counted for its slice. -/
def State.rxNoRing (s : State) (f slc : Nat) : State :=
  let s := if slc < 128 then let n := s.slice slc; s.setSlice slc { n with rxNoRing := n.rxNoRing + 1 } else s
  s.hostDone f

/-- The oldest frame that waits in the host port is written to its ring, or dropped. A frame of a slice that is destroyed goes on
to the slice's rings, which are stopped (R316). -/
def State.hostRx (s : State) : State :=
  match s.sw.hostQueue with
  | [] => s
  | f :: _ =>
    match s.frame f, s.rxWriter f with
    | none, _ => { s with sw := { s.sw with hostQueue := s.sw.hostQueue.filter (· != f) } }
    | some _, some g => (s.rxGoOn 512 g).rxFetch g
    | some x, none =>
      let d := s.dataRead 1 .cellData 1
      let s := d.2
      if d.1 then (s.countDrop x.dropPort 10 x).hostDone f
      else match x.was, (s.globalRing x.slice x.destQueue).filter (fun g => (s.ring g).rx.state = .running) with
      | some n, _ => s.rxNoRing f n
      | none, none => s.rxNoRing f x.slice
      | none, some g =>
        let now := s.now
        let s := s.modRx g (fun r => { r with bucket := r.bucket.refill now })
        if (s.ring g).rx.bucket.positive then
          s.rxDeliver g f x
        else (s.modRx g (fun r => { r with rateDrops := r.rateDrops + 1 })).hostDone f

/-- Descriptors of a fetch arrive; those of an old generation are discarded. A frame that the ring is writing goes on. -/
def State.rxFetched (s : State) (g : Nat) (l : List (BitVec 256)) : State :=
  match (s.ring g).rx.fetching with
  | none => s
  | some (n, gen) =>
    let s := s.modRx g (fun r => { r with fetching := none })
    if gen ≠ s.ringGen g then (s.ringDiscard g).rxFetch g
    else if (s.ring g).rx.state ≠ .running then s
    else ((s.modRx g (fun r => { r with posted := r.posted ++ (l.take n).map rxDescOf })).rxGoOn 512 g).rxFetch g

/-! ### Transmit (R327–R330) -/

/-- A transmit descriptor (Table 12-9); `first` descriptors carry the destination. -/
def txDescOf (w : BitVec 256) : TxDesc :=
  let v := w.toNat
  { addr := bitsAt v 0 64, cookie := BitVec.ofNat 64 (bitsAt v 64 64), length := bitsAt v 128 16, last := bitAt v 144, tsReq := bitAt v 145,
    destKind := bitsAt v 152 8, dest := bitsAt v 160 32, reserved := bitsAt v 146 6 != 0 || bitsAt v 192 56 != 0 || bitsAt v 248 7 != 0 }

/-- The descriptors of the next frame: up to LAST, and at most 16; none while its LAST is not posted. -/
def txFrameDescs (l : List TxDesc) : Option (List TxDesc) :=
  match (l.take 16).findIdx? (·.last) with
  | some i => some (l.take (i + 1))
  | none => if 16 ≤ l.length then some (l.take 16) else none

/-- STATUS 1 (Table 12-10). -/
def txMalformed (l : List TxDesc) : Bool :=
  match l with
  | [] => true
  | d :: r =>
    l.any (fun x => x.reserved || x.length == 0) || r.any (fun x => x.tsReq || x.destKind != 0) ||
      !(l.any (·.last)) || !(d.destKind == 1 || d.destKind == 2) ||
      (if d.destKind = 1 then bitsAt d.dest 7 1 != 0 || bitsAt d.dest 11 21 != 0 else bitsAt d.dest 20 12 != 0)

/-- The port of a transmit frame. -/
def State.txPort (s : State) (d : TxDesc) : Option Nat :=
  if d.destKind = 1 then
    let k := bitsAt d.dest 0 7
    let p := s.port k
    if p.cfg.width ≠ 0 && !p.cfg.subscriber then some k else none
  else
    match s.rootPort (nodeKey 4 d.dest) with
    | some k => if (s.classQueue d.dest).isSome && s.attachedFor d.dest k && (s.port k).cfg.width ≠ 0 && (s.port k).cfg.subscriber then some k
                else none
    | none => none

/-- STATUS 1 to 5 of a frame, with the port; `start` shows its tags. -/
def State.txStatus (s : State) (slc : Nat) (l : List TxDesc) (start : Bytes) : Nat × Nat :=
  let len := l.foldl (fun n d => n + d.length) 0
  match l with
  | [] => (1, 0)
  | d :: _ =>
    if txMalformed l then (1, 0)
    else match s.txPort d with
      | none => (2, 0)
      | some k =>
        if d.destKind = 2 && slc < 128 && s.nodeOwner (nodeKey 4 d.dest) != some slc then (3, k)
        else if (s.port k).cfg.limit start < len + 4 then (4, k)
        else if !(s.matrixRow (pipeOf k) slc).dest.getLsbD k then (5, k)
        else (0, k)

/-- The write-back of a descriptor (Table 12-11). -/
def txCompletion (d : TxDesc) (status reason : Nat) (phase : Bytes) : Bytes :=
  leBytes 8 0 ++ leBytes 8 d.cookie.toNat ++ leBytes 1 status ++ leBytes 1 reason ++ leBytes 13 0 ++ phase

/-- A frame's STATUS is known: its descriptors are written back, unless its generation has passed. -/
def State.txComplete (s : State) (g : Nat) (gen : BitVec 16) (l : List TxDesc) (status reason len : Nat) : State :=
  let s := s.modTx g (fun r => { r with work := .idle })
  if gen ≠ s.ringGen g then s.ringDiscard g
  else
    let s := l.foldl (fun (s : State) (d : TxDesc) =>
      let r := (s.ring g).tx
      (s.ringDma g (ringSlot r.base r.log2 r.done) (txCompletion d status reason (phaseByte r.done r.log2))).modTx g
        (fun r => { r with done := r.done + 1 })) s
    (s.modTx g (fun r =>
      if status = 0 then { r with frames := r.frames + 1, bytes := r.bytes + BitVec.ofNat 64 len } else { r with errors := r.errors + 1 })).event 2 g

/-- A transmit ring can take a turn: it runs, has descriptors to fetch and tokens, and reads no frame. -/
def State.txReady (s : State) (g : Nat) : Bool :=
  let r := (s.ring g).tx
  r.state = .running && r.work = .idle && r.tail ≠ r.head && (r.bucket.refill s.now).positive

/-- The ring whose turn it is in the rotation (R327). -/
def State.txTurnOf (s : State) : Option Nat :=
  let l := (tkeys s.rings).filter s.txReady
  (l.find? (fun g => decide (s.host.txTurn ≤ g))).or l.head?

/-- A transmit ring takes its turn, when it is its turn. -/
def State.txFetch (s : State) (g : Nat) : State :=
  if s.txTurnOf ≠ some g then s
  else
    let now := s.now
    let gen := s.ringGen g
    let s := s.modTx g (fun r => { r with bucket := r.bucket.refill now, work := .fetching gen })
    { s with host := { s.host with txTurn := g + 1 } }

/-- The length of a transmit frame. -/
def txLength (l : List TxDesc) : Nat := l.foldl (fun n d => n + d.length) 0

/-- The descriptors of a turn arrive: the checks of Table 12-10 that need no buffer, then the loan of the frame's cells. While
the loan is not to be had, the frame waits. -/
def State.txDescs (s : State) (g : Nat) (ws : List (BitVec 256)) (start : Bytes) : State :=
  let r := (s.ring g).tx
  match r.work with
  | .fetching gen =>
    if gen ≠ s.ringGen g then (s.modTx g (fun r => { r with work := .idle })).ringDiscard g
    else if r.state ≠ .running then s.modTx g (fun r => { r with work := .idle })
    else match txFrameDescs ((ws.take (r.tail - r.head).toNat).map txDescOf) with
      | none => s.modTx g (fun r => { r with work := .idle })
      | some l =>
        let slc := (s.ringSlice g).getD 128
        let len := txLength l
        let (st, k) := s.txStatus slc l start
        let p := pipeOf k
        let q := if st = 0 || st = 5 then s.rowFault p slc 1 else (false, s)
        let s := q.2
        let st := if q.1 then 5 else st
        let take (s : State) : State := s.modTx g (fun r => { r with
          head := r.head + BitVec.ofNat 16 l.length, bucket := r.bucket.charge len })
        if st ≠ 0 then
          let s := if st = 5 && !q.1 then s.isolationDrop p slc 0xFF 2 else s
          (take s).txComplete g gen l st 0 len
        else
          let n := cellsFor (max 60 len)
          let x := s.store p
          if 2048 < x.loanedAll .host + n || s.admissionCells p < n then s
          else match x.allocN n .loaned x.nextLoan with
            | none => s
            | some (cells, y) =>
              let r := y.lend .host slc cells s.cycles
              (take (s.setStore p r.2)).modTx g (fun t => { t with work := .reading gen l p r.1 })
  | _ => s

/-- A host transmit frame (R329). -/
def State.txFrame (s : State) (g slc : Nat) (d : TxDesc) (port : Nat) (data : Bytes) : Frame :=
  { Frame.blank with
    bytes := padFrame data, slice := slc, cls := if d.destKind = 1 then bitsAt d.dest 8 3 else d.dest % 8, tsReq := d.tsReq,
    entry := 8, ingressPort := 0xFF, ingressTime := s.now, dest := .port port, destQueue := if d.destKind = 2 then d.dest else 0,
    hostRing := some (g, d.cookie) }

/-- Admission of a plain-port frame to its host transmit queue, under steps 1, 3 and 6 of Table 9-5: the drop reason. -/
def State.hostAdmit (s : State) (pipe : Nat) (x : Frame) : Option Nat × State :=
  let q := qHostTx pipe x.cls
  let st := s.store pipe
  let above : Bool := match s.share x.slice 1 pipe with | some n => decide (n ≤ s.sliceCells pipe x.slice) | none => false
  let refuse (r : Nat) (s : State) : Option Nat × State := (some r, s.countDrop x.dropPort r x)
  if s.destDown x then refuse 6 s
  else if above || (st.limit < st.total && st.limit ≤ st.queued + st.loaned) then refuse 0 s
  else
    let s := s.pushOut 4 pipe (s.queueCfg q).rank
    if s.admissionCells pipe = 0 then refuse 4 s
    else match s.storeFirst pipe q { x with store := pipe } with
      | none => refuse 4 s
      | some (f, s) =>
        let s := s.writeCells 64 f
        match s.frame f with
        | some y => (none, s.setFrame f (some { y with complete := true }))
        | none => (some 4, s)

/-- Admission of a class queue's frame through the intake of its output; none while the intake has no credit for it. -/
def State.hostIntake (s : State) (pipe port : Nat) (x : Frame) : Option (Option Nat × State) :=
  let n := cellsFor x.bytes.length
  if s.intakeCredit pipe < n then none
  else match (s.store 8).allocN n .loaned (s.store 8).nextLoan with
    | none => none
    | some (cells, st) =>
      let r := st.lend .intake pipe cells s.cycles
      let i : Intake := { frame := { x with store := 8, cells := cells, complete := true }, queues := [(port, x.destQueue)], loan := r.1,
                          src := 0, done := true }
      let s := s.setStore 8 r.2
      let t := (s.setIntakes pipe (s.intakes pipe ++ [i])).admitIntake pipe i
      if s.farFits t.2 then some (t.1.head?, t.2) else none

/-- The port of a frame that was accepted, as its descriptors name it now. -/
def State.txTarget (s : State) (d : TxDesc) : Nat :=
  if d.destKind = 1 then bitsAt d.dest 0 7 else (s.rootPort (nodeKey 4 d.dest)).getD 0

/-- The buffers of a frame have been read: it is offered to admission (R329). -/
def State.txRead (s : State) (g : Nat) (data : Bytes) : State :=
  match (s.ring g).tx.work with
  | .fetching gen => if gen ≠ s.ringGen g then (s.modTx g (fun r => { r with work := .idle })).ringDiscard g else s
  | .reading gen l held loan =>
    match l with
    | [] => s
    | d :: _ =>
      let slc := (s.ringSlice g).getD 128
      let len := txLength l
      let port := s.txTarget d
      let pipe := pipeOf port
      let b := s.dataRead 1 .cellData 1
      let s := b.2
      let x := { s.txFrame g slc d port (data.take len) with corrupt := b.1 }
      if d.destKind = 1 then
        let r := (s.returnLoan held loan).hostAdmit pipe x
        match r.1 with
        | none => r.2.txComplete g gen l 0 0 len
        | some reason => r.2.txComplete g gen l 6 reason len
      else match s.hostIntake pipe port x with
        | none => s
        | some (none, s) => (s.returnLoan held loan).txComplete g gen l 0 0 len
        | some (some reason, s) => (s.returnLoan held loan).txComplete g gen l 6 reason len
  | .idle => s

/-! ### Reads that fail (R307, R317) -/

def State.readFailed (s : State) (r : DmaRead) : State :=
  match r with
  | .rxDescriptors g =>
    (match (s.ring g.val).rx.fetching with
     | none => s
     | some (_, gen) =>
       let s := s.modRx g.val (fun r => { r with fetching := none })
       if gen ≠ s.ringGen g.val then (s.ringDiscard g.val).rxFetch g.val
       else if (s.ring g.val).rx.state = .running then s.dmaReadError.rxFail g.val .fetchFault else s.dmaReadError)
  | .txDescriptors g =>
    (match (s.ring g.val).tx.work with
     | .fetching gen =>
       let s := s.modTx g.val (fun r => { r with work := .idle })
       if gen ≠ s.ringGen g.val then s.ringDiscard g.val
       else if (s.ring g.val).tx.state = .running then s.dmaReadError.txFail g.val .fetchFault else s.dmaReadError
     | _ => s)
  | .txBuffer g =>
    (match (s.ring g.val).tx.work with
     | .fetching gen => if gen ≠ s.ringGen g.val then (s.modTx g.val (fun r => { r with work := .idle })).ringDiscard g.val else s
     | .reading gen l held loan =>
       (match l with
        | [] => s
        | _ :: _ => ((s.returnLoan held loan).dmaReadError).txComplete g.val gen l 7 0 (txLength l))
     | .idle => s)

/-! ### Stopping rings (R320, R326, R331, R332) -/

/-- No DMA that a ring pair's stopping rings issued is outstanding: they are DISABLED, and the command that waits is answered. -/
def State.ringSettle (s : State) (g : Nat) : State :=
  let x := s.ring g
  let rx := if x.rx.state = .stopping && x.rx.fetching.isNone then { RxRing.reset with
      frames := x.rx.frames, bytes := x.rx.bytes, noBuffer := x.rx.noBuffer, truncated := x.rx.truncated, rateDrops := x.rx.rateDrops } else x.rx
  let tx := if x.tx.state = .stopping && x.tx.work = .idle then { TxRing.reset with
      frames := x.tx.frames, bytes := x.tx.bytes, errors := x.tx.errors } else x.tx
  let wait := rx.state = .stopping || tx.state = .stopping
  let s := s.setRing g { rx := rx, tx := tx, stopMb := if wait then x.stopMb else none }
  match x.stopMb with
  | some mb => if wait then s else s.finish mb rowRingPairSet 0
  | none => s

/-- A ring pair stops at once under a new generation: a read outstanding is left to be discarded, a frame being read is
abandoned, and a frame being written ends as R326 states. `keep` says that the work of the ring carries a generation. -/
def State.ringKill (s : State) (g : Nat) (keep : Bool) : State :=
  let s := if keep then s.rxEndFrame g true else s.rxAbandon g true
  let x := s.ring g
  let s := match x.tx.work with
    | .reading _ _ held loan => s.returnLoan held loan
    | _ => s
  let work : TxWork := match x.tx.work with
    | .idle => .idle
    | .fetching gen => if keep then .fetching gen else .idle
    | .reading gen _ _ _ => if keep then .fetching gen else .idle
  let rx := { RxRing.reset with
      frames := x.rx.frames, bytes := x.rx.bytes, noBuffer := x.rx.noBuffer, truncated := x.rx.truncated, rateDrops := x.rx.rateDrops,
      fetching := if keep then x.rx.fetching else none }
  let tx := { TxRing.reset with frames := x.tx.frames, bytes := x.tx.bytes, errors := x.tx.errors, work := work }
  let s := s.setRing g { rx := rx, tx := tx, stopMb := none }
  match x.stopMb with
  | some mb => s.finish mb rowRingPairSet 0
  | none => s

/-- The ring pairs of a slice that have state. -/
def State.ringsOf (s : State) (slc : Nat) : List Nat := (tkeys s.rings).filter (fun g => s.ringSlice g == some slc)

/-- Reads of an old generation are outstanding for a slice. -/
def State.oldReads (s : State) (slc : Nat) : Bool :=
  let gen := (s.slice slc).gen
  (s.ringsOf slc).any (fun g =>
    (match (s.ring g).rx.fetching with | some (_, x) => x != gen | none => false) ||
    (match (s.ring g).tx.work with | .idle => false | .fetching x => x != gen | .reading x _ _ _ => x != gen))

/-- The next generation (R75). -/
def nextGen (g : BitVec 16) : BitVec 16 := if g = 0xFFFF then 1 else g + 1

/-- Learn notification rings of the tables of some owners are removed (Table 7-6). -/
def State.learnRingsGone (s : State) (who : Nat → Bool) : State :=
  forAll ((tkeys s.tables.learn).filter (fun t => who (descOwner (s.emDesc t)))) s (fun t s =>
    s.setLearn t { s.learnCfg t with ringBase := 0, ringLog2 := 0, intPending := false })

/-- The periodic snapshots of a mailbox stop and release their timers (R346). -/
def State.snapshotsGone (s : State) (mb : Nat) : State :=
  State.fencesCheck <| forAll (tsome s.cad.timers) s (fun t s => match t.2.use with
    | .snapshot p => if p.mbox = mb then { s with cad := { s.cad with timers := tset s.cad.timers none t.1 none } }.release 2 t.1 else s
    | _ => s)

/-- The counter event ring of a mailbox is removed (R346). -/
def State.counterRingGone (s : State) (mb : Nat) : State :=
  { s with host := { s.host with rings := tset s.host.rings EventRing.none mb EventRing.none } }

/-- A slice's host work ends under a new generation (R331, R332 steps 1 and 2). -/
def State.sliceStop (s : State) (slc : Nat) : State :=
  let rings := s.ringsOf slc
  let x := s.slice slc
  let s := s.setSlice slc { x with gen := nextGen x.gen }
  let s := forAll rings s (fun g s => s.ringKill g true)
  (s.learnRingsGone (· == slc)).counterRingGone (slc + 1)

/-- A slice's frames that wait in the host port are dropped and counted (R332 step 3). -/
def State.hostAbandon (s : State) (slc : Nat) : State :=
  let gone := s.sw.hostQueue.filter (fun f => match s.frame f with | some y => y.slice == slc | none => false)
  let s := { s with sw := { s.sw with hostQueue := s.sw.hostQueue.filter (fun f => !gone.contains f) } }
  (forAll gone s (fun f s => s.releaseFrame f)).genDiscard slc gone.length

end Sys2Proof.Machine
end

