-- ==== Sys2Proof/Machine/FabricOps.lean ====
section
/-! DEFINITION. The Peloton's fabric links: their states, the frames that arrive on them, and the flush of destinations that
go down (R425–R428). -/
namespace Sys2Proof.Machine
open Sys2Proof

/-! ### Links (R425, R426) -/

/-- FABRIC_LINK is recorded for a lane. -/
def State.fabricRecord (s : State) (lane : Nat) : State := s.raise tandemBlock 30 lane false

/-- The member at the far end of link m by the cabling rule. -/
def State.farMember (s : State) (m : Nat) : Nat := (s.boot.unitId.toNat + m + 1) % 4

/-- The partner's MODE and member number are those that this member and the cabling give. -/
def State.fabricMatch (s : State) (m : Nat) (w : FabricControl) : Bool :=
  w.mode.val == bit s.peloton.paired && w.member.val == s.farMember m

/-- A fabric destination with its port is down. -/
def State.fabricLost (s : State) (t : Target) : Bool := match t with | .fabric d p _ _ => !s.fabricUp d p | _ => false

/-- Frames that wait for a destination that is down are flushed PORT_DOWN (R246, R426). -/
def State.fabricFlush (s : State) : State :=
  let gone := ((tsome s.sw.frames).filter (fun e => match e.2.dest with | .fabric d p => !s.fabricUp d p | _ => false)).map (·.1)
  let multi := ((tsome s.sw.frames).filter (fun e => e.2.targets.any s.fabricLost)).map (·.1)
  let s := forAll gone s (fun f s => match s.frame f with | some x => s.dropFrame f 6 x.dropPort | none => s)
  forAll multi s (fun f s => match s.frame f with
    | some x => (s.endTargets f s.fabricLost).countDrop x.ingressPort 6 x
    | none => s)

/-- A link's spares return to the pool. -/
def State.freeSpares (s : State) (m : Nat) : State :=
  { s with peloton := { s.peloton with spareUsed := s.peloton.spareUsed &&& ~~~ (s.link m).spares } }

/-- A link completes training: UP, or held down as MISMATCH. -/
def State.fabricTrained (s : State) (m : Nat) (w : FabricControl) : State :=
  let l := s.link m
  let l := { l with used := [], lanesUp := 0xFF, farMember := BitVec.ofNat 2 w.member.val, portsDown := w.portsDown }
  if !s.peloton.joined || s.boot.failed.contains { kind := 8, index := m } then s
  else if s.fabricMatch m w then s.setLink m { l with state := .up }
  else ((s.setLink m { l with state := .mismatch }).fabricRecord (8 * m)).fabricFlush

/-- A whole link goes down. -/
def State.fabricDown (s : State) (m : Nat) : State :=
  ((s.freeSpares m).setLink m { s.link m with state := .down, used := [], lanesUp := 0, spares := 0, portsDown := 0 }).fabricFlush

/-- A link control word: a partner that no longer matches is held down, and one that matches again comes up. -/
def State.fabricWord (s : State) (m : Nat) (w : FabricControl) : State :=
  let l := s.link m
  if l.state ≠ .up && l.state ≠ .mismatch then s
  else
    let l' := { l with farMember := BitVec.ofNat 2 w.member.val, portsDown := w.portsDown }
    if s.fabricMatch m w then (s.setLink m { l' with state := .up }).fabricFlush
    else
      let s := s.setLink m { l' with state := .mismatch }
      (if l.state = .up then s.fabricRecord (8 * m) else s).fabricFlush

/-- A lane loses lock: the link carries on the 4 lanes of the other half while a free spare trains. A second loss among those
takes the link down. -/
def State.laneLost (s : State) (m lane : Nat) : State :=
  let l := s.link m
  if l.state ≠ .up || !l.lanesUp.getLsbD lane then s
  else
    let s := s.fabricRecord (8 * m + lane)
    if l.lanesUp ≠ 0xFF then s.fabricDown m
    else
      let half : BitVec 8 := if lane < 4 then 0xF0 else 0x0F
      match (List.range 4).find? (fun i => !s.peloton.spareUsed.getLsbD i) with
      | none => s.setLink m { l with lanesUp := half }
      | some i =>
        let b := BitVec.ofNat 4 (2 ^ i)
        ({ s with peloton := { s.peloton with spareUsed := s.peloton.spareUsed ||| b } }).setLink m
          { l with lanesUp := half, spares := l.spares ||| b }

/-- The spare is trained: the link returns to 8 lanes. -/
def State.spareTrained (s : State) (m : Nat) : State :=
  let l := s.link m
  if l.state = .up && l.spares ≠ 0 then s.setLink m { l with lanesUp := 0xFF } else s

/-! ### Frames that arrive (R427, R428) -/

/-- The row of a slice in the Tandem block's copy of the isolation matrix. -/
def State.fabricRow (s : State) (slc : Nat) : MatrixRow :=
  tget (if s.ctl.matCopy then s.ctl.matB else s.ctl.matA) MatrixRow.zero slc

/-- The frame as a stored frame of this member, whose first cell arrived at `time`; no local drain covers it (R221). -/
def fabricStored (x : FabricFrame) (time : Nat) : Frame :=
  { Frame.blank with
    bytes := x.bytes, slice := x.slice.val, cls := x.cls.val, colour := x.colour, lifeline := x.lifeline, ce := x.ce,
    tsReq := x.tsReq, ipOffset := x.ipOffset, flowTag := x.flowTag, ingressPort := x.ingressPort.val, destQueue := x.queue,
    entry := 0xFF, ingressTime := time, dest := .port x.port.val, corrupt := x.corrupt, stomp := x.stomp }

/-- The member passes a frame on from its first cell: gear L1, a plain-mode port, and a rate of at most 800 Gb/s. -/
def State.fabricCut (s : State) (k : Nat) : Bool :=
  s.gears.latency == 1 && !(s.port k).cfg.subscriber && decide (rateGb (s.port k).cfg.rate ≤ 800)

/-- A frame joins the staging of a plain port. -/
def State.fabricStage (s : State) (k : Nat) (x : Frame) (cut : Bool) : State :=
  let id := s.sw.nextFrame
  let t := { TxFrame.ofFrame x id x.cls ((s.port k).cfg.limit x.bytes) (cellsFor x.bytes.length) none with
    complete := true, cut := cut, stomp := x.stomp || x.corrupt }
  ({ s with sw := { s.sw with nextFrame := id + 1 } }).modPort k (fun p => { p with staging := p.staging ++ [t] })

/-- Pass a frame of a link on to its port; none while the port's staging or the intake has no room for it. -/
def State.fabricPass (s : State) (x : Frame) (k : Nat) : Option State :=
  let n := cellsFor x.bytes.length
  let cut := s.fabricCut k
  if !s.portOpen k then some (s.countDrop k 6 x)
  else if x.corrupt && !cut then some (s.countDrop k 10 x)
  else if x.stomp && !cut then some (s.countDrop k 8 x)
  else if (s.port k).cfg.limit x.bytes < x.bytes.length + 4 && !cut then some (s.countDrop k 12 x)
  else if (s.port k).cfg.subscriber then (s.hostIntake (pipeOf k) k x).map (·.2)
  else if (s.port k).stagingSize < (s.port k).staged + n then none
  else some (s.fabricStage k x cut)

/-- Cells that a link's receiver holds. -/
def receivedCells (l : List (Nat × FabricFrame)) : Nat := l.foldl (fun n x => n + cellsFor x.2.bytes.length) 0

/-- Pass on the received frames of a link, in order; a frame that waits holds back those for its port. -/
def State.fabricDrain (s : State) (m : Nat) : State :=
  let r := (s.link m).received.foldl (fun (a : List (Nat × FabricFrame) × State) (x : Nat × FabricFrame) =>
    if a.1.any (fun y => y.2.port == x.2.port) then (a.1 ++ [x], a.2)
    else match a.2.fabricPass (fabricStored x.2 x.1) x.2.port.val with
      | some t => (a.1, t)
      | none => (a.1 ++ [x], a.2)) ([], s)
  r.2.setLink m { r.2.link m with received := r.1, cells := receivedCells r.1 }

/-- The received frames of every link are offered again. -/
def State.fabricRetry (s : State) : State :=
  forAll ((tkeys s.peloton.links).filter (fun m => !(s.link m).received.isEmpty)) s (fun m s => s.fabricDrain m)

/-- A frame arrives on a link: it is checked against its slice's row and passed on, or waits in the receiver. -/
def State.fabricArrive (s : State) (m : Nat) (x : FabricFrame) : State :=
  let l := s.link m
  if l.state ≠ .up then s
  else
    let n := cellsFor x.bytes.length
    let k := x.port.val
    let s := s.tandemCount 8 n
    let s := if x.corrupt then
        let d := s.draw
        d.2.raise tandemBlock 1 (d.1.toNat % 2 ^ 32) false
      else s
    let d := s.dataRead tandemBlock .cellData 1
    let s := d.2
    let x := if d.1 then { x with corrupt := true } else x
    if !(s.fabricRow x.slice.val).dest.getLsbD k then
      (s.tandemCount 10 1).modPipe (pipeOf k) (fun p => { p with isoDrop := cbump p.isoDrop x.slice.val 1 })
    else
      let s := if x.lifeline then s.lifelineIn k x.slice.val else s
      (s.setLink m { l with received := l.received ++ [(s.now, x)], cells := l.cells + n }).fabricDrain m

end Sys2Proof.Machine
end

