-- ==== Sys2Proof/Machine/Spokes.lean ====
section
/-! DEFINITION. Chapter 05: port commands, link events, reception, pause and transmission. -/
namespace Sys2Proof.Machine
open Sys2Proof

/-! ### Register images (Tables 5-8, 5-9) -/

/-- Bits of a predicate over the priorities 0–7. -/
def prioBits (f : Nat → Bool) : Nat := (List.range 8).foldl (fun n c => n + bit (f c) * 2 ^ c) 0

/-- PORT_CFG_k. -/
def PortCfg.word (c : PortCfg) : Nat :=
  c.maxFrame * 2 ^ 48 + c.extraTpid.toNat * 2 ^ 32 + c.untaggedPri * 2 ^ 24 + c.tagAllow * 2 ^ 20 + c.rate * 2 ^ 16 +
    c.width * 2 ^ 12 + bit c.linkTrain * 2 ^ 11 + bit c.subscriber * 2 ^ 10 + bit c.admin * 2 ^ 9

def LinkState.num (l : LinkState) : Nat := match l with | .down => 0 | .up => 1 | .holdUp => 2 | .holdDown => 3

/-- Link training is in progress on a port. -/
def State.trainingNow (s : State) (k : Nat) : Bool :=
  let p := s.port k
  p.cfg.linkTrain && p.cfg.admin && !p.link.trained && !s.portFenced k

/-- PORT_STATE_k. In MODE 1 bit 0 stands for the whole port. -/
def State.portStateWord (s : State) (k : Nat) : Nat :=
  let p := s.port k
  if p.cfg.width = 0 then 0
  else
    let paused (c : Nat) : Bool := p.pause.mode ≠ 0 && (p.pause.mode = 2 || c = 0) && p.paused c s.now
    p.link.changeCount.toNat * 2 ^ 56 + prioBits (fun c => (p.prio c).storm) * 2 ^ 48 + prioBits paused * 2 ^ 40 +
      prioBits (fun c => (p.prio c).xoffOut) * 2 ^ 32 + bit p.link.tsValid * 128 + bit p.link.fecDegrade * 64 +
      bit p.link.remoteFault * 32 + bit p.link.localFault * 16 + bit (s.trainingNow k) * 8 + p.link.link.num

/-! ### PORT_CONFIG (R104–R107) -/

/-- The port's unit is missing, or its spoke is fenced (steps 6 and 7). -/
def State.portUnit (s : State) (k : Nat) : Check :=
  firstSome [failIf (s.portCount ≤ k) 0x09 16, failIf (s.isFenced 1 (spokeOf k)) 0x0A 16]

/-- The port names no configured port. -/
def State.noPort (s : State) (k : Nat) : Check := failIf ((s.port k).cfg.width = 0) 0x06 0

/-- The port holds queued frames: in a store, in staging, in transmission, or as a multicast target. -/
def State.portHolds (s : State) (k : Nat) : Bool :=
  let p := s.port k
  s.framesFor k != [] || s.targetsFor k != [] || p.staging != [] || p.sending.isSome ||
    (s.queuesUnder k).any (fun q => match s.classQueue q with | some x => !x.near.isEmpty || !x.far.isEmpty | none => false)

/-- The port is in subscriber mode with hierarchy nodes attached. -/
def State.hasNodes (s : State) (k : Nat) : Bool := (s.port k).cfg.subscriber && s.children (nodeKey 0 k) != []

/-- The fields of PORT_CONFIG that a removal leaves zero, with their values. -/
def cfgFields (e : Entry) : List (Nat × Nat) :=
  [(18, e.u8 18), (19, e.u8 19), (20, e.u16 20), (22, e.u8 22), (23, e.u8 23), (24, e.u16 24), (26, e.u16 26), (28, e.u16 28),
    (30, e.u16 30), (32, e.u16 32)]

/-- The values of PORT_CONFIG outside their range. PORT is tested against any WIDTH from 1 to 8, and so is named before a WIDTH that
Table 5-2 does not give (log entry 139). -/
def cfgBad (e : Entry) : List (Bool × Nat) :=
  let k := e.u8 16
  let w := e.u8 17
  let r := e.u8 18
  if w = 0 then (127 < k, 16) :: (cfgFields e).map (fun f => (f.2 ≠ 0, f.1))
  else
    [(127 < k || (w ≤ 8 && k % 8 % w ≠ 0), 16), (!([1, 2, 4, 8].contains w), 17), (rateLanes r ≠ w, 18), (4 < e.u8 19, 19),
     (e.u16 20 < 1518 || 12288 < e.u16 20, 20), (1 < e.u8 22 || (e.u8 22 = 1 && r < 4), 22), (7 < e.u8 23, 23),
     (10000 < e.u16 28, 28), (10000 < e.u16 30, 30)]

/-- The settings of a PORT_CONFIG. -/
def cfgOf (e : Entry) : PortCfg :=
  { width := e.u8 17, rate := e.u8 18, tagAllow := e.u8 19, maxFrame := e.u16 20, linkTrain := e.u8 22 = 1,
    untaggedPri := e.u8 23, tsRx := BitVec.ofNat 16 (e.u16 24), tsTx := BitVec.ofNat 16 (e.u16 26), upHold := e.u16 28,
    downHold := e.u16 30, extraTpid := BitVec.ofNat 16 (e.u16 32), subscriber := false, admin := false }

/-- Existing ports whose lanes a port of width `w` at `k` touches. -/
def State.touched (s : State) (k w : Nat) : List Nat :=
  s.portsPresent.filter (fun j => j < k + max w 1 && k < j + (s.port j).cfg.width)

/-- A port vanishes: flushed, its claims released, its probes gone, its lanes powered down (R105, R107, R246, R342, R351). -/
def State.removePort (s : State) (k : Nat) : State :=
  let s := s.flushPort k
  let s := forAll [0, 1] s (fun o s =>
    if (s.synceOut o).enable && (s.synceOut o).port = k then (s.setSynce o SyncE.reset).release 3 o else s)
  let s := s.probesGone (fun t => match t with | .portClass p _ => p == k | .queue _ => false)
  let s := forAll (upFrom k (s.port k).cfg.width) s (fun l s => s.setLane l Lane.reset)
  (s.setPort k { Port.reset with flushing := true }).setNode (nodeKey 0 k) none

/-- A new port: plain, administratively down, pause off, with its port node. -/
def State.createPort (s : State) (k : Nat) (c : PortCfg) : State :=
  let p := s.port k
  (s.setPort k { Port.reset with cfg := c, flushing := p.flushing }).setNode (nodeKey 0 k) (some Node.reset)

def bodyPortConfig : Body := fun s mb e _ =>
  let k := e.u8 16
  let w := e.u8 17
  let old := (s.port k).cfg
  let c := cfgOf e
  let l := s.touched k w
  andThen (firstSome [
    entryCheck rowPortConfig s mb e
      ((16, 0, 8) :: (17, 0, 8) :: [(18, 0, 8), (19, 0, 8), (20, 0, 16), (22, 0, 8), (23, 0, 8), (24, 0, 16), (26, 0, 16),
        (28, 0, 16), (30, 0, 16), (32, 0, 16)]) (cfgBad e),
    s.portUnit k, failIf (w = 0 && old.width = 0) 0x06 0]) <|
  if w ≠ 0 && old.width = w && old.rate = c.rate && old.linkTrain = c.linkTrain then
    .done (s.modPort k (fun p => { p with cfg := { c with subscriber := p.cfg.subscriber, admin := p.cfg.admin } }))
  else
    let l := if w = 0 then [k] else l
    andThen (firstSome (l.flatMap (fun j => [failIf ((s.port j).cfg.admin || s.portHolds j) 0x08 0x0402,
      failIf (s.hasNodes j) 0x08 0x0901]))) <|
      let s := forAll l s (fun j s => s.removePort j)
      .done (if w = 0 then s else s.createPort k c).gearCheck

def execPortConfig (mb : Fin 129) (e : Entry) (s : State) : Result := runCmd rowPortConfig bodyPortConfig mb e none s

/-! ### PORT_ENABLE and PORT_MODE_SET (R110, R111) -/

def bodyPortEnable : Body := fun s mb e _ =>
  let k := e.u8 16
  let up := e.u8 17 = 1
  andThen (firstSome [entryCheck rowPortEnable s mb e [(16, 0, 8), (17, 0, 8)] [(127 < k, 16), (1 < e.u8 17, 17)],
    s.portUnit k, s.noPort k]) <|
    if (s.port k).cfg.admin = up then .done s
    else
      let s := s.modPort k (fun p => { p with cfg := { p.cfg with admin := up },
                                              link := { p.link with trained := p.link.trained && !up } })
      .done (if up then s.requalify k else (s.forceDown k).gearCheck)

def execPortEnable (mb : Fin 129) (e : Entry) (s : State) : Result := runCmd rowPortEnable bodyPortEnable mb e none s

def bodyPortModeSet : Body := fun s mb e _ =>
  let k := e.u8 16
  let sub := e.u8 17 = 1
  andThen (firstSome [entryCheck rowPortModeSet s mb e [(16, 0, 8), (17, 0, 8)] [(127 < k, 16), (1 < e.u8 17, 17)],
    s.portUnit k, s.noPort k]) <|
    if (s.port k).cfg.subscriber = sub then .done s
    else andThen (firstSome [failIf ((s.port k).cfg.admin || s.portHolds k) 0x08 0x0402,
        failIf (!sub && s.hasNodes k) 0x08 0x0901]) <|
      let s := s.modPort k (fun p => { p with cfg := { p.cfg with subscriber := sub } })
      let s := match s.node (nodeKey 0 k) with
        | some n => s.setNode (nodeKey 0 k) (some { n with pir := Bucket.full n.pir.rate n.pir.size s.now })
        | none => s
      .done (s.refreshSched k)

def execPortModeSet (mb : Fin 129) (e : Entry) (s : State) : Result := runCmd rowPortModeSet bodyPortModeSet mb e none s

/-! ### PORT_PAUSE_SET (R116–R121) -/

/-- The priorities whose received pause a port obeys. -/
def PortPause.obeyed (p : PortPause) (c : Nat) : Bool :=
  (p.mode = 1 && c = 0 && p.rxMask.getLsbD 0) || (p.mode = 2 && p.rxMask.getLsbD c)

/-- A priority of TX_MASK that the command does not set keeps watermarks that R121 refuses. -/
def State.heldMarksBad (s : State) (e : Entry) : Bool :=
  (List.range 8).any (fun c => bitAt (e.u8 19) c && c ≠ e.u8 26 &&
    (let x := (s.port (e.u8 16)).prio c; x.xon < 1 || x.xoff ≤ x.xon || x.headroom < 1))

/-- The values of PORT_PAUSE_SET outside their range. A bit other than bit 0 of a mask in MODE 1 is one (log entry 136); the
watermarks that a priority of TX_MASK keeps fail under TX_MASK (log entry 137). -/
def State.pauseBad (s : State) (e : Entry) : List (Bool × Nat) :=
  let m := e.u8 17
  let pr := e.u8 26
  let sends := pr ≤ 7 && bitAt (e.u8 19) pr
  [(127 < e.u8 16, 16), (2 < m, 17), (m = 1 && e.u8 18 / 2 ≠ 0, 18), ((m = 1 && e.u8 19 / 2 ≠ 0) || s.heldMarksBad e, 19),
   (m ≠ 0 && e.u16 20 = 0, 20),
   (m ≠ 0 && e.u16 22 = 0, 22), (10000 < e.u16 24, 24), (pr ≠ 0xFF && (7 < pr || (m = 1 && pr ≠ 0)), 26),
   (327680 < e.u32 28 || (sends && e.u32 28 ≤ e.u32 32), 28), (327680 < e.u32 32 || (sends && e.u32 32 < 1), 32),
   (327680 < e.u32 36 || (sends && e.u32 36 < 1), 36)]

/-- The port with the settings of a PORT_PAUSE_SET; a priority no longer obeyed is released, and one that no longer
generates flow control has no XOFF outstanding. -/
def pauseApply (p : Port) (e : Entry) : Port :=
  let q : PortPause := { p.pause with
    mode := e.u8 17, rxMask := BitVec.ofNat 8 (e.u8 18), txMask := BitVec.ofNat 8 (e.u8 19), txQuanta := e.u16 20,
    rxQuantaMax := e.u16 22, watchdogMs := e.u16 24 }
  let p' := { p with pause := q }
  let p' := if e.u8 26 = 0xFF then p'
    else p'.setPrio (e.u8 26) { p'.prio (e.u8 26) with xoff := e.u32 28, xon := e.u32 32, headroom := e.u32 36 }
  (List.range 8).foldl (fun (r : Port) (c : Nat) =>
    let x := r.prio c
    let x := if q.obeyed c && q.mode = p.pause.mode then x else { x with until_ := none }
    let x := if r.flowPrios.contains c && q.mode = p.pause.mode then x else { x with txXoff := false, txFifo := false }
    r.setPrio c x) p'

def bodyPortPauseSet : Body := fun s mb e _ =>
  let k := e.u8 16
  let t := s.setPort k (pauseApply (s.port k) e)
  let want := t.reservedHeadroom (pipeOf k)
  andThen (firstSome [
    entryCheck rowPortPauseSet s mb e [(16, 0, 8), (17, 0, 8), (18, 0, 8), (19, 0, 8), (20, 0, 16), (22, 0, 16), (24, 0, 16),
      (26, 0, 8), (28, 0, 32), (32, 0, 32), (36, 0, 32)] (s.pauseBad e),
    s.portUnit k, s.noPort k, failIf (8192 < want && s.reservedHeadroom (pipeOf k) < want) 0x05 0]) <|
    let p := s.port k
    let ends := (List.range 8).filter (fun c => (p.prio c).xoffOut && !((pauseApply p e).prio c).xoffOut)
    let s := s.sendPause k (ends.map (fun c => (c, 0)))
    let s := s.setPort k (pauseApply p e)
    .done ((s.flowCheck k).refreshSched k)

def execPortPauseSet (mb : Fin 129) (e : Entry) (s : State) : Result := runCmd rowPortPauseSet bodyPortPauseSet mb e none s

/-! ### PORT_STATUS and PORT_STATS_READ (R126) -/

/-- A slice may read only the ports of its share. -/
def State.portShare (s : State) (mb k : Nat) : Check := failIf (!s.ownsPort mb k) 0x03 16

def bodyPortStatus : Body := fun s mb e _ =>
  let k := e.u8 16
  andThen (firstSome [entryCheck rowPortStatus s mb e [(16, 0, 8)] [(127 < k, 16)], s.portUnit k, s.portShare mb k, s.noPort k]) <|
    .ok s 0 (resultOf [(16, 8, s.portStateWord k), (24, 8, (s.port k).cfg.word)])

def execPortStatus (mb : Fin 129) (e : Entry) (s : State) : Result := runCmd rowPortStatus bodyPortStatus mb e none s

def bodyPortStatsRead : Body := fun s mb e _ =>
  let k := e.u8 16
  let i := e.u8 17
  andThen (firstSome [entryCheck rowPortStatsRead s mb e [(16, 0, 8), (17, 0, 8)] [(127 < k, 16), (30 < i, 17)],
    s.portUnit k, s.portShare mb k, s.noPort k]) <|
    let c := (s.port k).counters
    .ok s 0 (resultOf [(16, 8, (tget c 0 i).toNat), (24, 8, (tget c 0 (i + 1)).toNat)])

def execPortStatsRead (mb : Fin 129) (e : Entry) (s : State) : Result := runCmd rowPortStatsRead bodyPortStatsRead mb e none s

/-! ### Link events (R108, R109, R122, R246) -/

/-- A lane of a port changes; the receiver's signal-to-noise estimate is a free value (log entry 138). A lane that belongs to no
port is powered down (R105): it detects nothing. -/
def State.changeLane (s : State) (l : Nat) (f : Lane → Lane) : State :=
  match s.portOfLane l with
  | none => s
  | some _ =>
    let d := s.draw
    (d.2.setLane l { f (s.lane l) with snrCb := d.1.setWidth 16 }).laneChanged l

def execLaneSignalDetect (lane : Fin 128) (value : Bool) (s : State) : Result :=
  .next (s.changeLane lane.val (fun x => { x with sd := value })).gearCheck

def execLaneLockChange (lane : Fin 128) (cdr lock : Bool) (s : State) : Result :=
  .next (s.changeLane lane.val (fun x => { x with cdr := cdr, lock := lock })).gearCheck

/-- Link training of a port ends. -/
def State.trainingDone (s : State) (k : Nat) : State :=
  if !s.trainingNow k then s
  else (s.modPort k (fun p => { p with link := { p.link with trained := true } })).requalify k

def execLinkTrainingComplete (port : Fin 128) (s : State) : Result := .next (s.trainingDone port.val)

/-- Local fault, or received remote fault, changes. -/
def State.faultChange (s : State) (k : Nat) (loc rem_ : Bool) : State :=
  if (s.port k).cfg.width = 0 then s
  else ((if loc || rem_ then s.faultCut k else s).modPort k (fun p => { p with link := { p.link with localFault := loc, remoteFault := rem_ } })).requalify k

def execLinkFaultChange (port : Fin 128) (localFault remoteFault : Bool) (s : State) : Result :=
  .next (s.faultChange port.val localFault remoteFault).gearCheck

def execLinkUpHoldExpiry (port : Fin 128) (s : State) : Result :=
  .next (if (s.port port.val).link.link = .holdUp then s.reportUp port.val else s)

def execLinkDownHoldExpiry (port : Fin 128) (s : State) : Result :=
  .next (if (s.port port.val).link.link = .holdDown then (s.reportDown port.val).gearCheck else s)

def execFlushComplete (port : Fin 128) (s : State) : Result :=
  .next (if (s.port port.val).flushing then s.flushDone port.val else s)

/-- Lane skew has been measured after a link up. -/
def State.skewMeasured (s : State) (k : Nat) : State :=
  let l := (s.port k).link.link
  if l = .up || l = .holdDown then s.modPort k (fun p => { p with link := { p.link with tsValid := true } }) else s

def execLaneSkewMeasured (port : Fin 128) (s : State) : Result := .next (s.skewMeasured port.val)

/-! ### Reception (R112–R116) -/

def execRxFrameStart (port : Fin 128) (bytes : Bytes) (start : RxStart) (s : State) : Result :=
  .next ((s.rxFrameStart port.val bytes start.preambleOk start.symbolAt).digests port.val)
def execPipeHeadTaken (port : Fin 128) (s : State) : Result := .next (s.headTaken port.val)
def execIngressCellWrite (port : Fin 128) (s : State) : Result := .next (s.cellArrived port.val).gearCheck
def execRxFrameEnd (port : Fin 128) (fcs : FcsOutcome) (symbols : Nat) (fec : FecCounts) (s : State) : Result :=
  .next ((s.rxFrameEnd port.val fcs symbols fec).digests port.val).gearCheck

/-! ### Transmission (R115, R117) -/

def execTxFrameStart (port : Fin 128) (s : State) : Result := .next (s.txFrameStart port.val).fabricRetry
def execTxFrameEnd (port : Fin 128) (s : State) : Result := .next (s.txFrameEnd port.val).fabricRetry.gearCheck

/-! ### Pause (R117–R119) -/

/-- The pause time of a priority runs out. -/
def State.pauseExpire (s : State) (k c : Nat) : State :=
  match ((s.port k).prio c).until_ with
  | none => s
  | some _ => (s.modPort k (fun p => p.setPrio c { p.prio c with until_ := none })).refreshSched k

def execPauseTimerExpiry (port : Fin 128) (prio : Fin 8) (s : State) : Result := .next (s.pauseExpire port.val prio.val)

/-- A priority has been held paused for WATCHDOG_MS. -/
def State.watchdogTrip (s : State) (k c : Nat) : State :=
  let p := s.port k
  if p.pause.watchdogMs = 0 || !p.paused c s.now || (p.pause.mode = 1 && c ≠ 0) then s
  else
    let s := (s.macCount k 24 1).modPort k (fun p => p.setPrio c { p.prio c with until_ := none, storm := true })
    (s.raise (spokeBlock (spokeOf k)) 18 (k + c * 256) false).refreshSched k

def execPauseWatchdogTrip (port : Fin 128) (prio : Fin 8) (s : State) : Result := .next (s.watchdogTrip port.val prio.val)

/-- The ignore period of a priority ends. -/
def State.watchdogEnd (s : State) (k c : Nat) : State :=
  if ((s.port k).prio c).storm then s.modPort k (fun p => p.setPrio c { p.prio c with storm := false }) else s

def execPauseWatchdogEnd (port : Fin 128) (prio : Fin 8) (s : State) : Result := .next (s.watchdogEnd port.val prio.val)

/-- While occupancy stays above XON the pause time is repeated. -/
def State.xoffRefresh (s : State) (k c : Nat) : State :=
  let p := s.port k
  if p.flowPrios.contains c && (p.prio c).txXoff then s.sendPause k [(c, p.pause.txQuanta)] else s

def execXoffRefresh (port : Fin 128) (prio : Fin 8) (s : State) : Result := .next (s.xoffRefresh port.val prio.val)

end Sys2Proof.Machine
end

