-- ==== Sys2Proof/Machine/BootOps.lean ====
section
/-! DEFINITION. Bundles and their authentication, the fuses' values, the default configuration, and the resets of the device and
of its host interface (chapter 04, R306, R444). -/
namespace Sys2Proof.Machine
open Sys2Proof

/-! ### Fuses (R85) -/

/-- The anti-rollback counter: one more than the highest burned position. -/
def Fuses.rollbackValue (f : Fuses) : Nat := (List.range 127).foldl (fun n i => if f.rollback.getLsbD i then i + 1 else n) 0

/-- A slot holds a hash and is not revoked. -/
def Fuses.keyUsable (f : Fuses) (slot : Nat) : Bool := f.provisioned.getLsbD slot && !f.revoked.getLsbD slot

/-- The bit of PART_MASK that stands for a part. -/
def partMaskBit (p : Part) : Nat := match p with | .bx6400 => 0 | .bx6240 => 1 | .bx6120 => 2

/-! ### The payload (R88, R92, R93, R96) -/

/-- The parity of `n` bits of a word from `lo`. -/
def oddBits (w : BitVec 256) (lo n : Nat) : Bool := (List.range n).foldl (fun p i => p != w.getLsbD (lo + i)) false

/-- A NEXT or BRANCH address in ROM or in the patch half being written. -/
def microIn (half : Bool) (a : Nat) : Bool := a < 0x4000 || a / 128 == (if half then 0x81 else 0x80)

/-- A control word has even parity in each quarter, zero reserved fields and addresses in range (Table 4-9). -/
def controlWordOk (half : Bool) (w : BitVec 256) : Bool :=
  let v := w.toNat
  (List.range 3).all (fun q => oddBits w (64 * q) 64 == w.getLsbD (252 + q)) && !oddBits w 192 64 && bitsAt v 248 4 == 0 &&
    bitsAt v 200 2 == 0 && bitsAt v 204 2 != 3 && microIn half (bitsAt v 232 16) && microIn half (bitsAt v 216 16)

/-- A match entry: a 14-bit ROM address and a patch index. -/
def matchEntryOk (v : Nat) : Bool := bitsAt v 14 2 == 0 && bitsAt v 23 9 == 0

/-- The elements differ pairwise. -/
def distinctNats (l : List Nat) : Bool :=
  match l with
  | [] => true
  | a :: r => !r.contains a && distinctNats r

/-- The patch words to which a word without STEP_END goes on, by index; a path into ROM is followed no further. -/
def stepNext (half : Bool) (words : List (BitVec 256)) (i : Nat) : List Nat :=
  let w := words.getD i 0
  let v := w.toNat
  let here (a : Nat) : List Nat := if a / 128 == (if half then 0x81 else 0x80) && a % 128 < words.length then [a % 128] else []
  if w.getLsbD 207 then [] else here (bitsAt v 232 16) ++ (if bitsAt v 208 8 = 0 && bitsAt v 204 2 ≠ 2 then [] else here (bitsAt v 216 16))

/-- The words that can be the `n + 1`-th of a step that begins in any patch word. -/
def stepReach (half : Bool) (words : List (BitVec 256)) (n : Nat) : List Nat :=
  (List.range n).foldl (fun l _ => (l.flatMap (stepNext half words)).eraseDups) (List.range words.length)

/-- No step is longer than 64 words, and every commit word ends a step (R96). -/
def stepsOk (half : Bool) (words : List (BitVec 256)) : Bool :=
  (stepReach half words 63).all (fun i => (words.getD i 0).getLsbD 207) &&
    words.all (fun w => !Config.commitWord (BitVec.ofNat 8 (bitsAt w.toNat 192 8)) (w.setWidth 192) || w.getLsbD 207)

/-- A patch section, if it obeys R88 and R96. -/
def patchOf (half table : Bool) (b : Bytes) : Option SeqPatch :=
  let n := leAt b 0 2
  let m := leAt b 2 2
  let words := (List.range n).map (fun i => BitVec.ofNat 256 (leAt b (4 + 32 * i) 32))
  let es := (List.range m).map (fun i => leAt b (4 + 32 * n + 4 * i) 4)
  if n ≤ 128 && m ≤ 64 && 4 + 32 * n + 4 * m ≤ b.length && words.all (controlWordOk half) && es.all matchEntryOk &&
      distinctNats (es.map (fun v => bitsAt v 0 14)) && (!table || stepsOk half words) then
    some { words := words, entries := es.map (fun v => (BitVec.ofNat 14 v, BitVec.ofNat 7 (v / 65536))) }
  else none

/-- A descriptor of the section table: TYPE, OFFSET, LENGTH and the reserved bytes. -/
def sectionAt (p : Bytes) (i : Nat) : Nat × Nat × Nat × Nat :=
  (leAt p (4 + 16 * i) 4, leAt p (8 + 16 * i) 4, leAt p (12 + 16 * i) 4, leAt p (16 + 16 * i) 4)

/-- The patch of a section type: empty without a section, none if it fails. -/
def sectionPatch (half : Bool) (p : Bytes) (l : List (Nat × Nat × Nat × Nat)) (ty : Nat) : Option SeqPatch :=
  match l.find? (fun x => x.1 == ty) with
  | none => some SeqPatch.empty
  | some x => patchOf half (ty == 4) (slice p x.2.1 x.2.2.1)

/-- The three patches of a payload whose section table obeys R88. -/
def payloadOf (half : Bool) (p : Bytes) : Option (SeqPatch × SeqPatch × SeqPatch) :=
  let n := leAt p 0 4
  let l := (List.range (min n 8)).map (sectionAt p)
  let has (ty : Nat) : Nat := (l.filter (fun x => x.1 == ty)).length
  if 1 ≤ n && n ≤ 8 && 4 + 16 * n ≤ p.length && l.all (fun x => 1 ≤ x.1 && x.1 ≤ 4 && x.2.1 + x.2.2.1 ≤ p.length && x.2.2.2 == 0) &&
      has 1 == 1 && has 2 ≤ 1 && has 3 ≤ 1 && has 4 ≤ 1 && l.all (fun x => x.1 != 1 || x.2.2.1 ≤ 786432) then
    match sectionPatch half p l 2, sectionPatch half p l 3, sectionPatch half p l 4 with
    | some a, some b, some c => some (a, b, c)
    | _, _, _ => none
  else none

/-! ### Authentication (R87, R89) -/

/-- Step 1: the header is as stated and the ciphertext is there. -/
def headerOk (b : Bytes) : Bool :=
  let n := leAt b 36 4
  512 ≤ b.length && leAt b 0 4 == 0x594C5541 && leAt b 4 2 == 1 && leAt b 6 2 == 512 && leAt b 16 1 < 128 && leAt b 18 1 < 16 &&
    leAt b 19 1 == 0 && leAt b 30 2 < 8 && allZero (slice b 164 252) && n % 16 == 0 && 64 ≤ n && n ≤ 1048576

/-- The bundle in a byte string: its header and ciphertext. -/
def bundleBytes (b : Bytes) : Bytes := b.take (512 + leAt b 36 4)

/-- The steps of Table 4-6 under the fuses, for patches that go into a half: the failing step, or the bundle. -/
def Fuses.authenticate (f : Fuses) (half : Bool) (b : Bytes) : Nat ⊕ Bundle :=
  let cipher := slice b 512 (leAt b 36 4)
  let key := slice b 68 96
  let slot := leAt b 17 1
  if !headerOk b || b.length < 512 + leAt b 36 4 then .inl 1
  else if !f.keyUsable slot then .inl 2
  else if Config.sha384 key != f.keyHash.getD slot 0 then .inl 3
  else if !Config.ecdsaVerifies key (Config.sha384 (b.take 416 ++ cipher)) (slice b 416 96) then .inl 4
  else if leAt b 16 1 < f.rollbackValue then .inl 5
  else match Config.aesGcmOpen f.bundleKey (slice b 40 12) (b.take 52) cipher (slice b 52 16) with
    | none => .inl 6
    | some p =>
      let rom := f.romRelease.toNat
      let step := f.siliconStep.toNat
      if !bitAt (leAt b 30 2) (partMaskBit f.part) || rom < leAt b 32 1 || leAt b 33 1 < rom || step < leAt b 34 1 || leAt b 35 1 < step then .inl 7
      else match payloadOf half p with
        | none => .inl 8
        | some x => .inr
          { id := BitVec.ofNat 64 (leAt b 8 8), version := leAt b 16 1, keySlot := slot, revokeMask := BitVec.ofNat 4 (leAt b 18 1),
            fwMajor := BitVec.ofNat 16 (leAt b 20 2), fwMinor := BitVec.ofNat 16 (leAt b 22 2),
            commandLevel := BitVec.ofNat 16 (leAt b 24 2), stateFormat := leAt b 26 2, stateFormatMin := leAt b 28 2,
            parse := x.1, action := x.2.1, table := x.2.2 }

/-! ### BOOT_STATUS (R83) -/

def BootPhase.num (p : BootPhase) : Nat :=
  match p with
  | .reset => 0 | .fuseLoad => 1 | .romBoot => 2 | .authenticating => 3 | .firmwareInit => 4 | .ready => 5 | .failed => 14 | .hold => 15

def Boot.word (b : Boot) : Nat :=
  b.phase.num + b.slotBooted.toNat * 2 ^ 16 + b.bootSrc.toNat * 2 ^ 18 + bit b.initFail * 2 ^ 20 + b.slot0Step.toNat * 2 ^ 24 +
    b.slot1Step.toNat * 2 ^ 28 + b.keySlot.toNat * 2 ^ 32 + b.initBlock.toNat * 2 ^ 34 + b.rollbackValue.toNat * 2 ^ 40 +
    b.bundleVersion.toNat * 2 ^ 48

/-- The firmware records the boot phase that it reaches. -/
def State.bootRecord (s : State) : State := s.fwRecord 5 0xFF 0 0 s.boot.phase.num s.boot.word

/-! ### The default configuration (R82, R107, R138, R202, R214, R217) -/

/-- A lane's port at boot: 100 Gb/s, link training on, admin down. -/
def bootPort : PortCfg :=
  { width := 1, rate := 4, tagAllow := 1, maxFrame := 1518, linkTrain := true, untaggedPri := 0, tsRx := 0, tsTx := 0, upHold := 10,
    downHold := 0, extraTpid := 0, subscriber := false, admin := false }

/-- Control stores at boot: the default graph, no action image, no customer word, and a matrix whose row 128 permits all. -/
def bootStores : Stores2 := { Stores2.reset with graphA := Graph.default, matA := [(128, MatrixRow.all)] }

/-- The default configuration is written over stores, tables, ports and pipes that hold nothing. The hash seeds are free
values. -/
def State.applyDefault (s : State) : State :=
  let d := s.draw
  let s := d.2
  let te := s.tables.te
  let s := s.setTe { te with seed0 := BitVec.ofNat 32 d.1.toNat, seed1 := BitVec.ofNat 32 (d.1.toNat / 2 ^ 32) }
  let s := { s with ctl := bootStores, sw := { s.sw with ready := true } }
  let s := forAll s.presentPipes s (fun p s => s.modPipe p (fun x => { x with recirc := { enable := true, share := 4, limit := 1024 } }))
  forAll (List.range s.portCount) s (fun k s => s.createPort k bootPort)

/-- The stores hold the cells of gear B1. -/
def State.initStores (s : State) : State :=
  forAll s.onChip s (fun n s =>
    let c := s.storeSize n 1
    s.setStore n { Store.reset with total := c, limit := c, free := c })

/-! ### Resets (R79, R81, R399, R441–R444) -/

/-- A bundle whose write is cut off leaves its slot partly written, and the staged area of its command empty (R90, log entry 123). -/
def State.persistLost (s : State) : State :=
  match s.fw.persist with
  | some p =>
    let staged : Bool := match (s.mbox p.1).inExec with | some x => x.entry.bit 32 0 | none => false
    ({ s with flash := tset s.flash none p.2.1 none,
              fw := { s.fw with persist := none, staged := if staged then none else s.fw.staged } }).spi false
  | none => s

/-- Everything takes its reset value but the fuses, the flash, the host's memory and the levels of the balls. -/
def State.hardReset (s : State) : State :=
  let s := s.persistLost
  { State.reset with
    pending := s.pending, freeIx := s.freeIx, fuses := s.fuses, flash := s.flash,
    balls := { powered := s.balls.powered, sysResetN := s.balls.sysResetN, bootSrc := 0, unitId := 0, spiDriven := false },
    host := { HostIf.reset with mem := s.host.mem, spaces := s.host.spaces, perstN := s.host.perstN, refclk := s.host.refclk } }

/-- The device is powered and out of reset. -/
def State.running (s : State) : Bool := s.balls.powered && s.balls.sysResetN

/-- PCIe training can start. -/
def State.trainLink (s : State) : State :=
  { s with host := { s.host with training := s.running && s.host.perstN && s.host.refclk && !s.host.linkUp } }

/-- The rising edge of SYS_RESET_N: the straps are sampled and the fuse load starts. -/
def State.release_ (s : State) (src unitId : BitVec 2) : State :=
  let s := { s with balls := { s.balls with sysResetN := true, bootSrc := src, unitId := unitId },
                    boot := { Boot.reset with phase := .fuseLoad, bootSrc := src, unitId := unitId } }
  s.trainLink.gateReview

/-! ### The host interface (R306, R444) -/

/-- A mailbox goes to DISABLED; a command in execution writes nothing to the host. -/
def Mailbox.hostReset (m : Mailbox) : Mailbox :=
  { m with enable := false, state := .disabled, fetched := [], muted := m.inExec.isSome }

/-- A Function Level Reset. -/
def State.hostReset (s : State) : State :=
  let s := forAll (tkeys s.mboxes) s (fun m s => s.setMbox m (s.mbox m).hostReset)
  let s := s.replayStop
  let s := forAll ((tkeys s.slices).filter (fun n => (s.slice n).state != .none)) s (fun n s => s.sliceStop n)
  let s := forAll ((tkeys s.rings).filter (fun g => decide (g < 256) || (s.ringSlice g).isNone)) s (fun g s => s.ringKill g false)
  let s := s.learnRingsGone (fun _ => true)
  let s := forAll (List.range 129) s (fun m s => s.snapshotsGone m)
  let te := s.tables.te
  let s := s.setTe { te with shadowBase := 0, shadowValid := false }
  { s with host := { s.host with rings := [], vectors := [] } }

/-- The PCIe link goes down. -/
def State.pcieDown (s : State) : State := { s with host := { s.host with linkUp := false, training := false, speed := 0, width := 0 } }

end Sys2Proof.Machine
end

