-- ==== Sys2Proof/Machine/Boot.lean ====
section
/-! DEFINITION. Chapter 04: patches, fuses and the boot; the resets of chapters 12, 14 and 16. -/
namespace Sys2Proof.Machine
open Sys2Proof

/-! ### PATCH_STAGE (R90) -/

/-- STATE_FORMAT of the running firmware. -/
def State.runningFormat (s : State) : Nat := match s.fw.active with | some x => x.stateFormat | none => 0

/-- The slot that a persist writes: under dual boot the one not booted, else the strapped one. -/
def State.persistSlot (s : State) : Nat :=
  match s.boot.bootSrc.toNat with
  | 1 => 0
  | 2 => 1
  | _ => if s.boot.slotBooted = 0 then 1 else 0

/-- The bundle becomes the staged one, in the inactive half and bank; no bundle can be restored any more. -/
def State.stage (s : State) (mb : Nat) (x : Bundle) : State :=
  let other := fun k => 2 * k + bit (!s.fw.bank)
  let repairs := (List.range 3).foldl (fun r k => tset r SeqPatch.empty (other k) SeqPatch.empty) s.fw.repairs
  ({ s with fw := { s.fw with staged := some x, previous := none, repairs := repairs } }).fwRecord 4 mb 0 0x0301 1 x.id.toNat

/-- BUNDLE_ID and BUNDLE_VERSION of a bundle's header. -/
def stageResult (b : Bytes) : BitVec 128 := resultOf [(16, 8, leAt b 8 8), (24, 1, leAt b 16 1)]

def bodyPatchStage : Body := fun s mb e buf =>
  let mode := e.f 32 0 2
  andThen (entryCheck rowPatchStage s mb e [(32, 0, 2)] [(mode = 0, 32)]) <|
    match e.readBuf buf with
    | none => bufFault
    | some b =>
      match s.fuses.authenticate (!s.fw.bank) b with
      | .inl step => .fail 0x0D step 0
      | .inr x =>
        andThen (failIf (mode % 2 = 1 && (x.fwMajor != s.fw.fwMajor || s.runningFormat < x.stateFormatMin)) 0x02 32) <|
          let s := if mode % 2 = 1 then s.stage mb x else s
          if 2 ≤ mode then .hold (({ s with fw := { s.fw with persist := some (mb, s.persistSlot, bundleBytes b) } }).spi true)
          else .ok s 0 (stageResult b)

def execPatchStage (mb : Fin 129) (e : Entry) (buf : Option Bytes) (s : State) : Result :=
  runCmd rowPatchStage bodyPatchStage mb e buf s

/-- Elapsed time of a mailbox's command in units of 100 µs. -/
def State.elapsed (s : State) (mb : Nat) : Nat :=
  match (s.mbox mb).inExec with | some x => (s.now - x.startNs) / 100000 | none => 0

/-- A command in execution ends in TIMEOUT. -/
def State.timeOut (s : State) (mb : Nat) (r : OpRow) : State := s.complete mb r 0x0E (s.elapsed mb) 0 0

/-- The write of a bundle to its flash slot has ended: it is persisted, or the slot is partly written. -/
def State.persistDone (s : State) (ok : Bool) : State :=
  match s.fw.persist with
  | none => s
  | some (mb, slot, b) =>
    if !ok then s.persistLost.timeOut mb rowPatchStage
    else
      let s := ({ s with flash := tset s.flash none slot (some b), fw := { s.fw with persist := none } }).spi false
      (s.fwRecord 4 mb 0 0x0301 4 (leAt b 8 8)).finish mb rowPatchStage (stageResult b)

def execPatchPersistDone (ok : Bool) (s : State) : Result := .next (s.persistDone ok)

/-! ### Live activation (R98–R100) -/

/-- What completes an activation with BUSY. -/
def State.activationBusy (s : State) : Check :=
  firstSome [
    failIf (s.flying 4 (!s.fw.bank) != 0) 0x08 0x0302,
    failIf (match s.gears.change with | some c => c.domain == 1 | none => false) 0x08 0x0204,
    failIf s.ctl.custMb.isSome 0x08 0x0502 ]

/-- An activation begins: mailbox service stops. -/
def State.activate (s : State) (mb : Nat) (revert : Bool) : State :=
  { s with fw := { s.fw with activation := some { mb := mb, revert := revert, started := false, tablePending := false } } }

def bodyPatchActivate : Body := fun s mb e _ =>
  let staged : Bool := match s.fw.staged with | some x => x.id.toNat == e.u64 32 | none => false
  andThen (firstSome [entryCheck rowPatchActivate s mb e [(32, 0, 64)] [], failIf (!staged) 0x06 0, s.activationBusy]) <|
    .hold (s.activate mb false)

def execPatchActivate (mb : Fin 129) (e : Entry) (s : State) : Result := runCmd rowPatchActivate bodyPatchActivate mb e none s

def bodyPatchRevert : Body := fun s mb e _ =>
  andThen (firstSome [entryCheck rowPatchRevert s mb e [] [], failIf s.fw.previous.isNone 0x06 0, s.activationBusy]) <|
    .hold (s.activate mb true)

def execPatchRevert (mb : Fin 129) (e : Entry) (s : State) : Result := runCmd rowPatchRevert bodyPatchRevert mb e none s

/-- The id of a bundle, or 0. -/
def bundleId (x : Option Bundle) : Nat := match x with | some b => b.id.toNat | none => 0

def bodyPatchStatus : Body := fun s mb e _ =>
  andThen (entryCheck rowPatchStatus s mb e [] []) <|
    .ok s 0 (resultOf [(16, 8, bundleId s.fw.active), (24, 8, bundleId s.fw.staged)])

def execPatchStatus (mb : Fin 129) (e : Entry) (s : State) : Result := runCmd rowPatchStatus bodyPatchStatus mb e none s

/-- The staged firmware reports its ready point: the pipes and the table engine are told to switch. -/
def State.firmwareReady (s : State) : State :=
  match s.fw.activation with
  | none => s
  | some a =>
    if a.started then s
    else
      let te := s.tables.te
      let long := te.running.isSome
      let s := { s with fw := { s.fw with activation := some { a with started := true, tablePending := long } } }
      let s := if long then s.trapped none else s.setTe { te with bank := !s.fw.bank }
      (s.pushSwitch s.livePipes .patch).switchSettle

def execStagedFirmwareReady (s : State) : Result := .next s.firmwareReady

/-- No ready point within 100 µs: the previous image runs on, and nothing has changed. -/
def State.firmwareLate (s : State) : State :=
  match s.fw.activation with
  | none => s
  | some a =>
    if a.started then s
    else ({ s with fw := { s.fw with activation := none } }).timeOut a.mb (if a.revert then rowPatchRevert else rowPatchActivate) |>.answerAll

def execPatchReadyTimeout (s : State) : Result := .next s.firmwareLate

/-! ### Fuses (R86, R91) -/

def bodyFuseRead : Body := fun s mb e _ =>
  andThen (entryCheck rowFuseRead s mb e [] []) <|
    let f := s.fuses
    .ok s 0 (resultOf [(16, 8, f.serial.toNat), (24, 1, f.provisioned.toNat + f.revoked.toNat * 16), (25, 1, f.rollbackValue),
      (26, 1, bit f.debugLock)])

def execFuseRead (mb : Fin 129) (e : Entry) (s : State) : Result := runCmd rowFuseRead bodyFuseRead mb e none s

/-- The slots that the active bundle revokes: those of its REVOKE_MASK but its own. -/
def revokes (x : Bundle) : List Nat := (List.range 4).filter (fun k => x.revokeMask.getLsbD k && k != x.keySlot)

/-- What the fuses read: a bit is burned when either copy is (R85). -/
def Fuses.readBack (f : Fuses) (a b : FuseBits) : Fuses :=
  { f with first := a, second := b, serial := a.serial ||| b.serial, keyHash := List.zipWith (· ||| ·) a.keyHash b.keyHash,
           provisioned := a.provisioned ||| b.provisioned, revoked := a.revoked ||| b.revoked, rollback := a.rollback ||| b.rollback,
           bundleKey := a.bundleKey ||| b.bundleKey, debugLock := a.debugLock || b.debugLock }

/-- Burn a bit in both stored copies. -/
def State.burn (s : State) (set : FuseBits → FuseBits) : State :=
  { s with fuses := s.fuses.readBack (set s.fuses.first) (set s.fuses.second) }

/-- Burn a ROLLBACK or a KEY_REVOKED bit. -/
def State.burnRollback (s : State) (i : Nat) : State :=
  s.burn (fun x => { x with rollback := x.rollback ||| BitVec.ofNat 127 (2 ^ i) })
def State.burnRevoked (s : State) (k : Nat) : State :=
  s.burn (fun x => { x with revoked := x.revoked ||| BitVec.ofNat 4 (2 ^ k) })

/-- `burnFail` names a bit that does not verify after 3 attempts: 0 the ROLLBACK bit, k + 1 the KEY_REVOKED bit of slot k. The
bits before it stay burned. -/
def bodyRollbackAdvance (burnFail : Option Nat) : Body := fun s mb e _ =>
  let target := e.f 32 0 7
  let version := match s.fw.active with | some x => x.version | none => 0
  let slots := match s.fw.active with | some x => revokes x | none => []
  let failed (s : State) (at_ : Nat) : CmdOut := .part (s.raise 1 13 at_ false) 0x0E (s.elapsed mb) 0
  andThen (entryCheck rowRollbackAdvance s mb e [(32, 0, 7)] [(version < target, 32)]) <|
    if target ≤ s.fuses.rollbackValue then .done s
    else
      let t := s.burnRollback (target - 1)
      match burnFail with
      | some 0 => failed s (target - 1)
      | some (k + 1) =>
        if slots.contains k then failed (forAll (slots.filter (· < k)) t (fun j s => s.burnRevoked j)) k
        else .done (forAll slots t (fun j s => s.burnRevoked j))
      | none => .done (forAll slots t (fun j s => s.burnRevoked j))

def execRollbackAdvance (mb : Fin 129) (e : Entry) (burnFail : Option Nat) (s : State) : Result :=
  runCmd rowRollbackAdvance (bodyRollbackAdvance burnFail) mb e none s

/-! ### Power and reset (R79, R399, R441, R443) -/

/-- The supplies rise with SYS_RESET_N low. -/
def execPowerApplied (s : State) : Result :=
  .next (if s.balls.powered then s else
    ({ s with balls := { s.balls with powered := true, sysResetN := false } }).hardReset)

/-- The supplies are removed: all device state is lost. -/
def execPowerRemoved (s : State) : Result :=
  .next ({ s with balls := { s.balls with powered := false, sysResetN := false } }).hardReset

def execSysResetAssert (s : State) : Result :=
  .next ({ s with balls := { s.balls with sysResetN := false } }).hardReset

def execResetRelease (bootSrc unitId : BitVec 2) (s : State) : Result :=
  .next (if s.balls.powered && !s.balls.sysResetN then s.release_ bootSrc unitId else s)

/-- A write of DEVICE_RESET: only one with the key and RESET acts. -/
def execDeviceReset (value : BitVec 64) (bootSrc unitId : BitVec 2) (s : State) : Result :=
  .next (if s.running && bitsAt value.toNat 16 16 = 0xB1C7 && value.getLsbD 0 then s.hardReset.release_ bootSrc unitId else s)

/-! ### Boot (R80–R84) -/

/-- The fuse load ends. Bits that this device has burned read as burned. The boot ROM begins to read the slots, but in HOLD the SPI
balls stay released (Table 4-1). -/
def State.fuseLoad (s : State) (m : FuseMap) : State :=
  if s.boot.phase ≠ .fuseLoad then s
  else
    let kept (a : FuseBits) (old : FuseBits) : FuseBits :=
      { a with revoked := a.revoked ||| old.revoked, rollback := a.rollback ||| old.rollback }
    let one : FuseBits := { serial := m.serial, keyHash := m.keyHash, provisioned := m.provisioned, revoked := m.revoked,
                            rollback := m.rollback, bundleKey := m.bundleKey, debugLock := m.debugLock }
    let f := ({ s.fuses with part := m.part, romRelease := m.romRelease, siliconStep := m.siliconStep }).readBack
      (kept one s.fuses.first) (kept m.second s.fuses.second)
    { s with fuses := f,
             balls := { s.balls with spiDriven := decide (s.boot.bootSrc ≠ 3) },
             boot := { s.boot with capValid := true, rollbackValue := BitVec.ofNat 8 f.rollbackValue,
                                   phase := if s.boot.bootSrc = 3 then .hold else .romBoot } }

def execFuseLoadComplete (fuses : FuseMap) (s : State) : Result := .next (s.fuseLoad fuses)

/-- A slot's step of BOOT_STATUS. -/
def Boot.stepOf (b : Boot) (slot : Nat) : BitVec 4 := if slot = 0 then b.slot0Step else b.slot1Step
def Boot.setStep (b : Boot) (slot step : Nat) : Boot :=
  if slot = 0 then { b with slot0Step := BitVec.ofNat 4 step } else { b with slot1Step := BitVec.ofNat 4 step }

/-- Table 4-1: the boot ROM tries this slot now. Under dual boot the first is the one whose header passes step 1 with the
higher version, slot 0 of equals; `data` and `other` begin with the headers of this slot and the other. -/
def State.bootTries (s : State) (slot : Nat) (data other : Bytes) : Bool :=
  let b := s.boot
  let fresh := b.stepOf 0 = 0 && b.stepOf 1 = 0
  if b.stepOf slot ≠ 0 then false
  else match b.bootSrc.toNat with
    | 0 =>
      if !fresh then true
      else if headerOk data && headerOk other then
        (if slot = 0 then leAt other 16 1 ≤ leAt data 16 1 else leAt other 16 1 < leAt data 16 1)
      else headerOk data || !headerOk other
    | 1 => slot == 0
    | 2 => slot == 1
    | _ => false

/-- Every DRAM channel of the part begins its full training. -/
def State.bootTraining (s : State) : State :=
  if !s.hasFar then s
  else (forAll (List.range 24) s (fun c s => s.setChannel c { s.channel c with attempts := 0 })).nextBoot

/-- The firmware of an authenticated bundle starts, with the patches in half 0. -/
def State.firmwareStart (s : State) (slot : Nat) (x : Bundle) : State :=
  let s := { s with
    boot := { (s.boot.setStep slot 15) with phase := .firmwareInit, slotBooted := BitVec.ofNat 2 slot, keySlot := BitVec.ofNat 2 x.keySlot,
                                            bundleVersion := BitVec.ofNat 8 x.version },
    fw := { s.fw with active := some x, fwMajor := x.fwMajor, fwMinor := x.fwMinor, commandLevel := x.commandLevel } }
  (s.spi false).bootRecord.bootTraining

/-- A slot's bundle has been read: it is authenticated, or the boot goes on to the other slot, or ends in FAILED. -/
def State.bootBundle (s : State) (slot : Nat) (data other : Bytes) : State :=
  if !s.inBootRom || !s.bootTries slot data other then s
  else match s.fuses.authenticate false data with
    | .inr x => s.firmwareStart slot x
    | .inl step =>
      let b := s.boot.setStep slot step
      let more := b.bootSrc = 0 && b.stepOf (1 - slot) = 0
      ({ s with boot := { b with phase := if more then .authenticating else .failed } }).spi more

def execBootBundleRead (slot : Fin 2) (data other : Bytes) (s : State) : Result := .next (s.bootBundle slot.val data other)

/-- The phases in which memories are initialised and lanes calibrated. -/
def State.booting (s : State) : Bool :=
  s.running && s.boot.phase != .reset && s.boot.phase != .ready

/-- Memory initialisation ends: units that can be fenced are noted, and the failure of another ends the boot. -/
def State.memoryInit (s : State) (units : List UnitRef) (block : Option Nat) : State :=
  if !s.booting || s.boot.memReady then s
  else
    let b := s.boot
    let s := s.initStores
    let bad := match block with | some n => [0, 1, 50, 51, 52].contains n | none => false
    let s := { s with boot := { b with memReady := true,
                                       failed := b.failed ++ units.filter (fun u => 1 ≤ u.kind && u.kind ≤ 5 && s.unitPresent u.kind u.index) } }
    if bad then
      { s with
        balls := { s.balls with spiDriven := false },
        boot := { s.boot with initFail := true, initBlock := BitVec.ofNat 6 (block.getD 0x3F),
                                     phase := if b.phase = .hold then .hold else .failed } }
    else s

def execMemoryInitComplete (failedUnits : List UnitRef) (failedBlock : Option (Fin 53)) (s : State) : Result :=
  .next (s.memoryInit failedUnits (failedBlock.map (·.val)))

/-- What a failed calibration concerns, as the boot notes it. -/
def calUnit (t : CalTarget) : UnitRef :=
  match t with
  | .spoke n => { kind := 1, index := n.val }
  | .tandemLink => { kind := 7, index := 0 }
  | .fabricLink f => { kind := 8, index := f.val }

/-- Calibration of a spoke or of a link ends: a failed link is held down and recorded. -/
def State.calibrated (s : State) (t : CalTarget) (ok : Bool) : State :=
  if ok || !s.booting || s.boot.failed.contains (calUnit t) then s
  else
    let present : Bool := match t with | .spoke n => n.val < s.spokes | .tandemLink => s.hasTandem | .fabricLink _ => true
    if !present then s
    else
      let s := { s with boot := { s.boot with failed := s.boot.failed ++ [calUnit t] } }
      match t with
      | .spoke _ => s
      | .tandemLink => s.tandemRecord 1 0 0
      | .fabricLink f => s.fabricRecord (8 * f.val)

def execSerdesCalibrationComplete (target : CalTarget) (ok : Bool) (s : State) : Result := .next (s.calibrated target ok)

/-- The firmware applies the default configuration, fences what has failed, and serves mailbox 0. -/
def State.bootDone (s : State) : State :=
  let now := s.now
  let s := s.applyDefault
  let s := forAll (s.boot.failed.filter (fun u => u.kind ≤ 5)) s (fun u s => s.fenceUnit u.kind u.index 0xFE false 0xFF)
  let s := { s with boot := { s.boot with phase := .ready }, fw := { s.fw with fwReady := true },
                    bell := { s.bell with started := true, heartbeat := true, lastBeat := now } }
  s.bootRecord

def execDefaultConfiguration (s : State) : Result :=
  .next (if s.boot.phase = .firmwareInit && s.boot.memReady && !s.fw.halted then s.bootDone else s)

/-! ### The host interface (R306, R444) -/

def execFunctionLevelReset (s : State) : Result := .next s.hostReset.gearCheck
def execPerst (s : State) : Result :=
  .next (let s := s.hostReset.pcieDown; { s with host := { s.host with perstN := false } }).gearCheck
def execPerstRelease (s : State) : Result := .next ({ s with host := { s.host with perstN := true } }).trainLink
def execPcieRefclkLoss (s : State) : Result := .next ({ s with host := { s.host with refclk := false } }).pcieDown
def execPcieRefclkReturn (s : State) : Result := .next ({ s with host := { s.host with refclk := true } }).trainLink

/-- Table 12-1: what the function shows in configuration space. -/
def State.pcieDeviceId (s : State) : Nat := s.partCode
def pcieClassCode : Nat := 0x028000

/-- PCIe has trained, to a speed and a width of Table 12-1 that the link partner settles: free values. -/
def State.linkTrained (s : State) : State :=
  let d := s.draw
  let w := d.2.draw
  let s := w.2
  { s with host := { s.host with
    linkUp := true, training := false, speed := [64, 32, 16, 8].getD (d.1.toNat % 4) 8, width := [16, 8, 4, 2, 1].getD (w.1.toNat % 5) 1,
    d3hot := false } }

/-- PCIe link training completes. -/
def execPcieLinkUp (s : State) : Result := .next (if s.host.training then s.linkTrained else s)

end Sys2Proof.Machine
end

