-- ==== Sys2Proof/Machine/Consistency.lean ====
section
/-! DEFINITION. Chapter 03: fences, rule bank swaps and gear changes. -/
namespace Sys2Proof.Machine
open Sys2Proof

/-! ### FENCE (R59–R63) -/

/-- A fence as it is issued: the islands that are fenced now are left out (R63). -/
def State.newFence (s : State) (drain : Bool) : PendingFence :=
  { drain := drain, acked := [], left := s.downIslands, lastAck := none, stamps := [], done := none, empty := false, vectors := [],
    learns := [], snaps := [] }

def bodyFence : Body := fun s mb e _ =>
  andThen (entryCheck rowFence s mb e [(16, 0, 1)] []) <|
    .hold ((s.setFence mb (some (s.newFence (e.bit 16 0)))).fenceSettle mb)

def execFence (mb : Fin 129) (e : Entry) (s : State) : Result := runCmd rowFence bodyFence mb e none s
def execFenceIslandAck (mb : Fin 129) (island : Fin 33) (s : State) : Result := .next (s.fenceAck mb.val island.val)
def execDrainComplete (mb : Fin 129) (s : State) : Result := .next (s.drainComplete mb.val)

/-! ### Rule banks (R65–R68) -/

/-- A swap is under way or the inactive bank is in flight. -/
def State.swapBusy (s : State) : Bool := s.swap.mb.isSome || s.ruleHeld

def bodyRuleBankSwap : Body := fun s mb e _ =>
  andThen (firstSome [entryCheck rowRuleBankSwap s mb e [] [], failIf s.swapBusy 0x08 0x0202]) <|
    .hold (({ s with swap := { s.swap with mb := some mb } }.pushSwitch s.livePipes .ruleBank).switchSettle)

def bodyRuleBankStatus : Body := fun s mb e _ =>
  andThen (entryCheck rowRuleBankStatus s mb e [] []) <|
    let n := s.flying 0 (!s.ruleBank)
    .ok s 0 (resultOf [(16, 2, s.swap.count.toNat), (18, 1, bit s.ruleBank), (19, 1, bit (n ≠ 0)), (20, 4, n)])

def execRuleBankSwap (mb : Fin 129) (e : Entry) (s : State) : Result := runCmd rowRuleBankSwap bodyRuleBankSwap mb e none s
def execRuleBankStatus (mb : Fin 129) (e : Entry) (s : State) : Result :=
  runCmd rowRuleBankStatus bodyRuleBankStatus mb e none s
def execPipeSwitch (pipe : Fin 8) (s : State) : Result := .next (s.pipeSwitch pipe.val)

/-! ### Gears (R69–R73) -/

def State.gearOf (s : State) (domain : Nat) : Nat :=
  match domain with | 1 => s.gears.table | 2 => s.gears.buffer | 3 => s.gears.matcher | _ => s.gears.latency

/-- The sum of the slice shares of a count component. -/
def State.shareSum (s : State) (c pipe : Nat) : Nat :=
  s.slices.foldl (fun n p => n + tget p.2.counts 0 (c * 16 + pipe)) 0

/-- The slice shares of a store fit a size (R71). -/
def State.sharesFit (s : State) (store size : Nat) : Bool :=
  decide (s.shareSum (if store = 8 then 2 else 1) (if store = 8 then 0 else store) ≤ size)

/-- The checks of R70 and R71. -/
def State.gearRefusal (s : State) (domain g : Nat) : Check :=
  match domain with
  | 1 => failIf (unitsTotal g < s.unitsUsed || !s.gearFits 4194304 (5 - g)) 0x05 0
  | 2 => failIf (!(s.losers g).all (fun n => s.sharesFit n (s.storeSize n g))) 0x04
      (if (s.losers g).contains 8 then 2 else 1)
  | _ => none

/-- A gear change begins. -/
def State.gearStart (s : State) (mb domain g : Nat) : State :=
  let begin_ (total : Nat) : State :=
    { s with gears := { s.gears with change := some { mb := mb, domain := domain, target := g, done := 0, total := total } } }
  match domain with
  | 1 => ((begin_ (s.misplaced (5 - g)).length).queueRoutine 4 0 [] (some mb)).queueRoutine 6 0 [] (some mb)
  | 2 =>
    let l := s.losers g
    let total := l.foldl (fun n i => n + ((s.store i).total - s.storeSize i g)) 0
    (forAll l (begin_ total) (fun i s => s.setStore i ((s.store i).shrink (s.storeSize i g)))).gearCheck
  | 3 => ((begin_ 0).pushSwitch s.livePipes (.matchGear g)).switchSettle
  | _ => ((begin_ 0).pushSwitch s.livePipes (.latencyGear g)).switchSettle

def bodyGearSet : Body := fun s mb e _ =>
  let d := e.u8 16
  let g := e.u8 17
  let check := firstSome [
    entryCheck rowGearSet s mb e [(16, 0, 8), (17, 0, 8)]
      [(d < 1 || 4 < d, 16), (1 ≤ d && d ≤ 4 && (g < 1 || (if d = 1 then 4 else 3) < g), 17)],
    failIf (d = 3 && g ≠ 1 && !s.hasMatcher) 0x09 16,
    failIf s.gears.change.isSome 0x08 0x0204]
  andThen check <|
    if s.gearOf d = g then .done s
    else andThen (s.gearRefusal d g) (.hold (s.gearStart mb d g))

def bodyGearStatus : Body := fun s mb e _ =>
  andThen (entryCheck rowGearStatus s mb e [] []) <|
    let c := match s.gears.change with
      | some c => [(20, 1, c.domain), (21, 1, c.target), (24, 4, c.done), (28, 4, c.total)]
      | none => []
    .ok s 0 (resultOf ([(16, 1, s.gears.table), (17, 1, s.gears.buffer), (18, 1, s.gears.matcher), (19, 1, s.gears.latency)] ++ c))

def execGearSet (mb : Fin 129) (e : Entry) (s : State) : Result := runCmd rowGearSet bodyGearSet mb e none s
def execGearStatus (mb : Fin 129) (e : Entry) (s : State) : Result := runCmd rowGearStatus bodyGearStatus mb e none s

end Sys2Proof.Machine
end

