-- ==== Sys2Proof/Machine/Stores.lean ====
section
/-! DEFINITION. Chapter 09: thresholds, marking profiles, multicast groups, spill settings, chain audit, store status,
and the events of the crossbar and of the subscriber stage. -/
namespace Sys2Proof.Machine
open Sys2Proof

/-- A slice mailbox names a node of its own slice; a node that does not exist is no slice's. -/
def State.ownsNode (s : State) (mb k : Nat) : Bool := mb = 0 || s.nodeOwner k == some (mb - 1)

/-- A slice mailbox's index lies in its range component. -/
def State.inShare (s : State) (mb c i : Nat) : Bool := mb = 0 || (s.rangeOf (mb - 1) c).has i

/-! ### QUEUE_THRESHOLD_SET (R235) -/

def thresholdBad (e : Entry) : List (Bool × Nat) :=
  let k := e.u8 16
  let voq := k ≠ 1
  [(2 < k, 16), (if voq then 7 < e.u8 17 else e.u8 17 ≠ 0, 17), (if k = 0 then 127 < e.u8 18 else e.u8 18 ≠ 0, 18),
   (if k = 1 then 1048575 < e.u32 20 else e.u32 20 ≠ 0, 20), (voq && 40960 < e.u32 24, 24),
   (10 < e.u8 28 || (k = 1 && e.u8 28 ≠ 0), 28), (63 < e.u8 29 && e.u8 29 ≠ 0xFF, 29),
   (if voq then 7 < e.u8 30 else e.u8 30 ≠ 0, 30)]

/-- The values that every VOQ of a class has at boot. -/
def bootVoq (c : Nat) : VoqCfg := { maxCells := 8192, alpha := 7, ecn := 0xFF, rank := c }

/-- Write a VOQ's settings; the entry of settings equal to those of boot is not listed. -/
def putVoq (t : Tab VoqCfg) (i c : Nat) (v : VoqCfg) : Tab VoqCfg := tset t (bootVoq c) i v

def bodyQueueThresholdSet : Body := fun s mb e _ =>
  let k := e.u8 16
  let q := e.u32 20
  let prof := e.u8 29
  andThen (firstSome [
    formCheck rowQueueThresholdSet s mb e [(16, 0, 8), (17, 0, 8), (18, 0, 8), (20, 0, 32), (24, 0, 32), (28, 0, 8), (29, 0, 8),
      (30, 0, 8)] (thresholdBad e) (k ≠ 1),
    failIf (k = 0 && s.portCount ≤ e.u8 18) 0x09 18,
    failIf (k = 1 && !s.ownsNode mb (nodeKey 4 q)) 0x03 20,
    failIf (k = 1 && prof ≠ 0xFF && !s.inShare mb 15 prof) 0x03 29,
    failIf (k = 1 && (s.classQueue q).isNone) 0x06 0]) <|
    let v : VoqCfg := { maxCells := e.u32 24, alpha := e.u8 28, ecn := prof, rank := e.u8 30 }
    if k = 0 then .done { s with sw := { s.sw with voqs := putVoq s.sw.voqs (e.u8 18 * 8 + e.u8 17) (e.u8 17) v } }
    else if k = 2 then .done { s with sw := { s.sw with mcastVoqs := putVoq s.sw.mcastVoqs (e.u8 17) (e.u8 17) v } }
    else match s.classQueue q with
      | some x => .done (s.setClassQueue q { x with maxCells := e.u32 24, ecn := prof })
      | none => .done s

def execQueueThresholdSet (mb : Fin 129) (e : Entry) (s : State) : Result :=
  runCmd rowQueueThresholdSet bodyQueueThresholdSet mb e none s

/-! ### ECN_CONFIG (R233) -/

def bodyEcnConfig : Body := fun s mb e _ =>
  let p := e.u8 16
  andThen (firstSome [
    entryCheck rowEcnConfig s mb e [(16, 0, 8), (17, 0, 2), (20, 0, 32), (24, 0, 32), (28, 0, 8)]
      [(63 < p, 16), (e.u32 24 ≤ e.u32 20, 20), (e.u8 28 = 0, 28)],
    failIf (!s.inShare mb 15 p) 0x03 16]) <|
    let x : EcnProfile := { enabled := !e.bit 17 1, dropNonEct := e.bit 17 0, min := e.u32 20, max := e.u32 24, prob := e.u8 28 }
    .done { s with sw := { s.sw with ecn := tset s.sw.ecn EcnProfile.reset p x } }

def execEcnConfig (mb : Fin 129) (e : Entry) (s : State) : Result := runCmd rowEcnConfig bodyEcnConfig mb e none s

/-! ### MCAST_GROUP_SET (R242) -/

/-- The member that the command names, with the fields that its KIND uses. -/
def memberOf (e : Entry) : Member :=
  let k := e.u8 17
  { kind := k, port := e.u8 20, member := if k = 3 then e.u8 21 else 0, cls := if k = 2 then 0 else e.u8 22,
    queue := if k = 2 then e.u32 24 else 0 }

/-- Members of all groups. -/
def State.memberCount (s : State) : Nat := s.sw.groups.foldl (fun n g => n + g.2.length) 0

def bodyMcastGroupSet : Body := fun s mb e _ =>
  let op := e.u8 16
  let k := e.u8 17
  let g := e.u16 18
  let m := memberOf e
  let l := s.group g
  let one := op < 2
  let near := one && (k = 1 || k = 2)
  andThen (firstSome [
    entryCheck rowMcastGroupSet s mb e [(16, 0, 8), (17, 0, 8), (18, 0, 16), (20, 0, 8), (21, 0, 8), (22, 0, 8), (24, 0, 32)]
      [(2 < op, 16), (one && (k < 1 || 3 < k), 17), (16383 < g, 18), (one && 127 < e.u8 20, 20), (one && k = 3 && 2 < e.u8 21, 21),
       (one && (k = 1 || k = 3) && 7 < e.u8 22, 22), (one && k = 2 && 1048575 < e.u32 24, 24)],
    failIf (near && s.portCount ≤ m.port) 0x09 20,
    failIf (!s.inShare mb 14 g) 0x03 18,
    failIf (near && !s.ownsPort mb m.port) 0x03 20,
    failIf (one && k = 2 && !s.ownsNode mb (nodeKey 4 m.queue)) 0x03 24,
    (match l.findIdx? (· == m) with
     | some i => failIf (op = 0) 0x07 i
     | none => failIf (op = 1) 0x06 0),
    failIf (op = 2 && l.isEmpty) 0x06 0,
    failIf (op = 0 && (256 ≤ l.length || 262144 ≤ s.memberCount)) 0x05 0]) <|
    let l := if op = 0 then l ++ [m] else if op = 1 then l.filter (· != m) else []
    .done { s with sw := { s.sw with groups := tset s.sw.groups [] g l } }

def execMcastGroupSet (mb : Fin 129) (e : Entry) (s : State) : Result :=
  runCmd rowMcastGroupSet bodyMcastGroupSet mb e none s

/-! ### SPILL_CONFIG (R241) -/

def bodySpillConfig : Body := fun s mb e _ =>
  let q := e.u32 16
  let all := e.bit 20 0
  let on := e.u32 24
  let refill := e.u32 28
  andThen (firstSome [
    formCheck rowSpillConfig s mb e [(16, 0, 32), (20, 0, 1), (24, 0, 32), (28, 0, 32)]
      [(1048575 < q || (all && q ≠ 0), 16), (65535 < on, 24), (refill < 16 || on ≤ refill, 28)] all,
    failIf (!s.hasFar) 0x09 0,
    failIf (!all && !s.ownsNode mb (nodeKey 4 q)) 0x03 16,
    failIf (!all && (s.classQueue q).isNone) 0x06 0]) <|
    if all then .done { s with sw := { s.sw with spillOn := on, refill := refill } }
    else match s.classQueue q with
      | some x => .done (s.setClassQueue q { x with spillOn := on, refill := refill })
      | none => .done s

def execSpillConfig (mb : Fin 129) (e : Entry) (s : State) : Result := runCmd rowSpillConfig bodySpillConfig mb e none s

/-! ### Counts (R223, R254) -/

/-- The store is present. -/
def State.storePresent (s : State) (n : Nat) : Bool := if n < 8 then n < s.pipeCount else if n = 8 then true else s.hasFar

/-- TOTAL, FREE, QUEUED and LOANED of a store. -/
def State.storeCounts (s : State) (n : Nat) : Nat × Nat × Nat × Nat :=
  if n = 9 then
    let lent := s.farLoaned
    (s.farTotal, s.farFree, s.farUsed - lent, lent)
  else
    let x := s.store n
    (x.total, x.free, x.queued, x.loaned)

/-- The identity of R223. -/
def State.countsHold (s : State) (n : Nat) : Bool :=
  let c := s.storeCounts n
  c.2.1 + c.2.2.1 + c.2.2.2 == c.1

def bodyStoreStatus : Body := fun s mb e _ =>
  let n := e.f 32 0 4
  andThen (firstSome [entryCheck rowStoreStatus s mb e [(32, 0, 4)] [(9 < n, 32)], failIf (!s.storePresent n) 0x09 32]) <|
    let c := s.storeCounts n
    .ok s 0 (resultOf [(16, 4, c.1), (20, 4, c.2.1), (24, 4, c.2.2.1), (28, 4, c.2.2.2)])

def execStoreStatus (mb : Fin 129) (e : Entry) (s : State) : Result := runCmd rowStoreStatus bodyStoreStatus mb e none s

/-! ### Chain audit (R251–R253) -/

/-- The cadence cycles after which a loan of a borrower is overdue (Table 9-4). -/
def Borrower.limit (b : Borrower) : Nat := match b with | .host => 100 | .firmware => 10 | .intake => 1 | .spill => 1

/-- Overdue loans of a store. -/
def State.overdueLoans (s : State) (n : Nat) : Nat :=
  if n = 9 then
    s.far.channels.foldl (fun m c => m + ((c.2.rt ++ c.2.wr ++ c.2.writing).filter (fun r => decide (r.since + 1000000 < s.now))).length) 0
  else ((tsome (s.store n).loans).filter (fun l => l.2.reported || decide (l.2.since + l.2.borrower.limit < s.cycles))).length

/-- A cell still marked that no descriptor or loan reaches is leaked. -/
def State.cellLeaked (s : State) (n c : Nat) (l : Link) : Bool :=
  l.mark && (match l.state with
    | .queued => !((tsome s.sw.frames).any (fun e =>
        e.2.store == n && e.2.cells.head? == some l.owner && e.2.gen == l.ownerGen && e.2.cells.contains c))
    | .loaned => (match tget (s.store n).loans none l.owner with | some x => !x.cells.contains c | none => true)
    | _ => false)

def State.leakedCells (s : State) (n : Nat) : List (Nat × Link) := (s.store n).links.filter (fun e => s.cellLeaked n e.1 e.2)

/-- Far blocks that no queue and no flush holds. -/
def State.leakedBlocks (s : State) : List Nat :=
  ((tsome s.far.blocks).filter (fun e =>
    !(match s.classQueue e.2.queue with | some x => x.blocks.contains e.1 | none => false) &&
    !s.far.flushed.any (fun f => f.2.contains e.1))).map (·.1)

def State.leaks (s : State) (n : Nat) : Nat := if n = 9 then s.leakedBlocks.length else (s.leakedCells n).length

/-- Return what a store has leaked to its chain. -/
def State.reclaim (s : State) (n : Nat) : State :=
  if n = 9 then forAll s.leakedBlocks s (fun k s => s.freeBlock k)
  else forAll (s.leakedCells n) s (fun e s => s.setStore n ((s.store n).giveBack e.2.state [e.1]))

/-- A walk begins: MARK is set in every link word. -/
def Store.markAll (x : Store) : Store :=
  { x with links := x.links.map (fun e => (e.1, { e.2 with mark := true })) }

/-- Every walk of the command has ended. -/
def State.auditEnd (s : State) (a : Audit) : State :=
  let leaked := a.named.foldl (fun n i => n + (s.store i).leaked) 0
  let overdue := a.named.foldl (fun n i => n + (s.store i).overdue) 0
  let mask := a.mismatch.foldl (fun n i => n + 2 ^ i) 0
  let reclaimed := if a.reclaim then a.named.foldl (fun n i => n + s.leaks i) 0 else 0
  let s := { s with sw := { s.sw with audit := none } }
  let s := if a.reclaim then forAll a.named s (fun i s => s.reclaim i) else s
  let s := if leaked ≠ 0 || mask ≠ 0 then s.raise swBlock 20 mask false else s
  s.finish a.mb rowChainAuditRun (resultOf [(16, 4, leaked), (20, 4, reclaimed), (24, 4, overdue), (28, 2, mask)])

/-- The walk of a store ends. -/
def State.walkDone (s : State) (n : Nat) : State :=
  match s.sw.audit with
  | none => s
  | some a =>
    if !a.left.contains n then s
    else
      let x := s.store n
      let s := s.setStore n { x with leaked := s.leaks n, overdue := s.overdueLoans n, lastCycle := s.cycle,
                                     mismatch := a.mismatch.contains n }
      let a := { a with left := a.left.filter (· != n) }
      if a.left.isEmpty then s.auditEnd a else { s with sw := { s.sw with audit := some a } }

def bodyChainAuditRun : Body := fun s mb e _ =>
  let mask := e.f 32 0 10
  let l := (List.range 10).filter (fun n => bitAt mask n)
  let gear : Bool := match s.gears.change with | some c => c.domain == 2 | none => false
  andThen (firstSome [
    entryCheck rowChainAuditRun s mb e [(32, 0, 10), (34, 0, 1)] [(mask = 0, 32)],
    failIf (l.any (fun n => !s.storePresent n)) 0x09 32,
    failIf gear 0x08 0x0204]) <|
    let bad := l.filter (fun n => !s.countsHold n)
    let s := forAll l s (fun n s => if n = 9 then s else s.setStore n (s.store n).markAll)
    .hold { s with sw := { s.sw with audit := some { mb := mb, named := l, left := l, reclaim := e.bit 34 0, mismatch := bad } } }

def execChainAuditRun (mb : Fin 129) (e : Entry) (s : State) : Result := runCmd rowChainAuditRun bodyChainAuditRun mb e none s

def execChainAuditWalkDone (store : Fin 10) (s : State) : Result := .next (s.walkDone store.val).gearCheck

/-- An overdue loan is reported: the audit counts it. -/
def State.loanOverdue (s : State) (n l : Nat) : State :=
  let x := s.store n
  match tget x.loans none l with
  | some y => s.setStore n { x with loans := tset x.loans none l (some { y with reported := true }) }
  | none => s

def execLoanOverdue (store : Fin 10) (loan : Nat) (s : State) : Result := .next (s.loanOverdue store.val loan)

/-! ### The crossbar and the subscriber stage (R229, R236, R239, R244) -/

/-- 16 lost descriptors in a pipe's ingress store within 100 cadence cycles fence the pipe (Table 14-7), when the read of `t` after `s`
has found the last of them. -/
def State.metaFence (s t : State) : State :=
  forAll (s.livePipes.filter (fun p => (tget (s.block (pipeBlock p)).armed none 1).isSome && (tget (t.block (pipeBlock p)).armed none 1).isNone &&
      decide (16 ≤ (t.te.failures.filter (fun f => f.1 == 512 + p && decide (t.now < f.2.2 + 100000000))).length))) t
    (fun p t => t.fenceUnit 2 p 2 true 0xFF)

def execXbarGrant (queue : XbarQueue) (s : State) : Result := .next (s.metaFence (s.xbarGrant queue)).gearCheck
def execSinkCreditReturn (sink : CreditSink) (cells : Nat) (s : State) : Result := .next (s.creditReturn sink cells).fabricRetry
def execMcastReplicate (pipe : Fin 8) (cls : Fin 8) (s : State) : Result := .next (s.metaFence (s.mcastSlot pipe.val cls.val)).gearCheck
def execSubscriberAdmission (pipe : Fin 8) (s : State) : Result := .next (s.subscriberAdmit pipe.val).fabricRetry.gearCheck
def execSpillWriteDone (ch : Fin 24) (s : State) : Result := .next (s.spillDone ch.val).fabricRetry.gearCheck
def execRefillStart (queue : Fin 1048576) (s : State) : Result := .next (s.refillStart queue.val)

/-- The head block of a class queue has been read: every request of the refill has been served. -/
def State.refillRead (s : State) (q : Nat) (ok : Bool) : State :=
  if s.far.channels.any (fun c => c.2.rt.any (fun r => r.queue == q)) then s
  else
    let s := s.refillDone q ok
    match s.rootPort (nodeKey 4 q) with
    | some k => s.refreshPort k
    | none => s

def execRefillReadDone (queue : Fin 1048576) (ok : Bool) (s : State) : Result := .next (s.refillRead queue.val ok).gearCheck

end Sys2Proof.Machine
end

