-- ==== Sys2Proof/Machine/Cadence.lean ====
section
/-! DEFINITION. Chapter 13: PTP time, the timers, clocks and GPIOs, snapshots, probes and performance sampling. -/
namespace Sys2Proof.Machine
open Sys2Proof

/-! ### TIME_SET and TIME_ADJUST (R338, R339) -/

def bodyTimeSet : Body := fun s mb e _ =>
  andThen (entryCheck rowTimeSet s mb e [(16, 0, 48), (24, 0, 32)] [(999999999 < e.u32 24, 24)]) <|
    let goal : Int := (e.f 16 0 48 * 1000000000 + e.u32 24) * 4294967296
    .hold (s.ptpStep (goal - s.cad.ptp) mb (resultOf [(16, 8, s.now), (24, 1, (s.cad.stepCount + 1).toNat)])).stepSettle

def execTimeSet (mb : Fin 129) (e : Entry) (s : State) : Result := runCmd rowTimeSet bodyTimeSet mb e none s

/-- The offset of a TIME_ADJUST, in units of 2^-32 ns. -/
def adjustBy (e : Entry) : Int := signed 64 (e.u64 24) * 4294967296

def State.adjustBad (s : State) (e : Entry) : List (Bool × Nat) :=
  let off := e.bit 16 1
  let step := e.bit 16 2
  let ppm := e.u16 18
  let ns := signed 64 (e.u64 24)
  [fld (e.f 16 0 3 = 0 || (step && !off)) 16, fld (if off && !step then ppm < 1 || 1000 < ppm else ppm ≠ 0) 18,
   fld (decide (32768000 < (signed 32 (e.u32 20)).natAbs)) 20, fld (off && !step && decide (100000000 < ns.natAbs)) 24,
   fld (off && step && decide ((s.cad.ptp : Int) + adjustBy e < 0)) 24]

/-- What is left of a slew, in whole ns. -/
def State.slewLeft (s : State) : Int :=
  match s.cad.slew with
  | some x => if x.negative then -(x.remaining / 4294967296 : Nat) else (x.remaining / 4294967296 : Nat)
  | none => 0

/-- A new slew; none for an offset of 0. -/
def slewOf (e : Entry) : Option Slew :=
  let by_ := adjustBy e
  if by_ = 0 then none else some { negative := decide (by_ < 0), ppm := e.u16 18, remaining := by_.natAbs }

def bodyTimeAdjust : Body := fun s mb e _ =>
  andThen (entryCheck rowTimeAdjust s mb e [(16, 0, 3), (18, 0, 16), (20, 0, 32), (24, 0, 64)] (s.adjustBad e)) <|
    let left : Nat := if e.bit 16 1 then (s.slewLeft % 2 ^ 64).toNat else 0
    let r := resultOf [(16, 8, left), (24, 8, s.now)]
    let s := if e.bit 16 0 then { s with cad := { s.cad with freq := signed 32 (e.u32 20) } } else s
    if e.bit 16 2 then .hold (s.ptpStep (adjustBy e) mb r).stepSettle
    else if e.bit 16 1 then .ok { s with cad := { s.cad with slew := slewOf e } } 0 r
    else .ok s 0 r

def execTimeAdjust (mb : Fin 129) (e : Entry) (s : State) : Result := runCmd rowTimeAdjust bodyTimeAdjust mb e none s

def execIslandTimeStep (island : Fin 33) (s : State) : Result := .next (s.islandSteps island.val)

/-- The slew has consumed its offset: what is left of it is applied. -/
def State.slewEnd (s : State) : State :=
  match s.cad.slew with
  | none => s
  | some x =>
    let p : Int := if x.negative then s.cad.ptp - x.remaining else s.cad.ptp + x.remaining
    { s with cad := { s.cad with ptp := p.toNat % ptpLimit, slew := none } }

def execSlewComplete (s : State) : Result := .next s.slewEnd

/-! ### PPS_OUT (R341) -/

def bodyPpsOutSet : Body := fun s mb e _ =>
  let on := e.bit 16 0
  let off := signed 32 (e.u32 24)
  andThen (entryCheck rowPpsOutSet s mb e [(16, 0, 1), (20, 0, 32), (24, 0, 32)]
      [(on && (e.u32 20 < 1 || 500000 < e.u32 20), 20), (on && decide (500000000 ≤ off.natAbs), 24)]) <|
    if on then .done { s.setClaim 4 0 0x0C0B 0 with cad := { s.cad with
      pps := { s.cad.pps with enable := true, widthUs := e.u32 20, offsetNs := off } } }
    else .done { s.release 4 0 with cad := { s.cad with pps := { s.cad.pps with enable := false } } }

def execPpsOutSet (mb : Fin 129) (e : Entry) (s : State) : Result := runCmd rowPpsOutSet bodyPpsOutSet mb e none s

/-- PPS_OUT rises. After a step the first pulse keeps its distance from the one before. -/
def State.ppsPulse (s : State) : State :=
  let p := s.cad.pps
  if !p.enable || (p.stepped && p.endNs ≠ 0 && decide (s.now < p.endNs + p.widthUs * 1000)) then s
  else { s with cad := { s.cad with pps := { p with stepped := false, endNs := s.now + p.widthUs * 1000 } } }

def execPpsPulse (s : State) : Result := .next s.ppsPulse

/-! ### SyncE outputs (R342) -/

def bodySynceOutSet : Body := fun s mb e _ =>
  let o := e.u8 16
  let on := e.u8 17 = 1
  let k := e.u8 18
  let l := e.u8 19
  andThen (firstSome [
    entryCheck rowSynceOutSet s mb e [(16, 0, 8), (17, 0, 8), (18, 0, 8), (19, 0, 8)]
      [(1 < o, 16), (1 < e.u8 17, 17), (on && 127 < k, 18),
       (on && (7 < l || ((s.port k).cfg.width ≠ 0 && (s.port k).cfg.width ≤ l)), 19)],
    failIf (on && s.portCount ≤ k) 0x09 18, failIf (on && s.isFenced 1 (spokeOf k)) 0x0A 18]) <|
    if !on then .done ((s.setSynce o SyncE.reset).release 3 o)
    else if s.claimBusy 3 o 0x0C0A k then s.conflict 3 o
    else andThen (failIf ((s.port k).cfg.width = 0) 0x06 0) <|
      let x : SyncE := { enable := true, port := k, lane := l, squelched := false }
      .done ((s.setSynce o { x with squelched := !s.synceOk x }).setClaim 3 o 0x0C0A k)

def execSynceOutSet (mb : Fin 129) (e : Entry) (s : State) : Result := runCmd rowSynceOutSet bodySynceOutSet mb e none s

/-- Both conditions have held for 10 ms. -/
def State.synceResume (s : State) (o : Nat) : State :=
  let x := s.synceOut o
  if x.enable && s.synceOk x then s.setSynce o { x with squelched := false } else s

def execSynceResume (output : Fin 2) (s : State) : Result := .next (s.synceResume output.val)

/-! ### GPIO balls (R343) -/

def bodyGpioSet : Body := fun s mb e _ =>
  let g := e.u8 16
  let f := e.u8 17
  andThen (entryCheck rowGpioSet s mb e [(16, 0, 8), (17, 0, 8), (18, 0, 8), (19, 0, 2)]
      [(31 < g, 16), (3 < f, 17), (1 < e.u8 18, 18)]) <|
    if s.claimBusy 1 g 0x0C0C g then s.conflict 1 g
    else
      let x := s.gpio g
      let y : Gpio := if f = 0 then { Gpio.reset with level := x.level }
        else { x with function := f, value := e.bit 18 0, edges := BitVec.ofNat 2 (e.f 19 0 2) }
      let s := s.setGpio g y
      .ok (if f = 0 then s.release 1 g else s.setClaim 1 g 0x0C0C g) 0 (resultOf [(16, 1, bit x.level)])

def execGpioSet (mb : Fin 129) (e : Entry) (s : State) : Result := runCmd rowGpioSet bodyGpioSet mb e none s

/-- An edge at a ball: the level follows, and a selected edge is captured. A line channel whose alarm input rises has no alarm. -/
def State.gpioEdge (s : State) (g : Nat) (rising : Bool) : State :=
  let x := s.gpio g
  let wanted := x.function = 3 && x.edges.getLsbD (if rising then 0 else 1) &&
    (match x.lastEdge with | some t => decide (t + 1000 ≤ s.now) | none => true)
  let s := s.setGpio g { x with level := rising, lastEdge := if wanted then some s.now else x.lastEdge }
  let s := forAll (tkeys s.cad.lines) s (fun c s =>
    let l := s.line c
    if rising && l.set.alarmGpio = g then s.setLine c { l with alarmNow := false } else s)
  if wanted then s.counterEvent 0 5 0 g (bit rising) s.stamp.toNat s.now else s

def execGpioEdge (gpio : Fin 32) (rising : Bool) (s : State) : Result := .next (s.gpioEdge gpio.val rising)

/-! ### COUNTER_SNAPSHOT (R348, R349) -/

def State.timer (s : State) (t : Nat) : Option Timer := tget s.cad.timers none t
def State.setTimer (s : State) (t : Nat) (x : Option Timer) : State := { s with cad := { s.cad with timers := tset s.cad.timers none t x } }

/-- The pairs of a snapshot, packet count first. -/
def State.pairBytes (s : State) (first count : Nat) : Bytes :=
  (upFrom first count).flatMap (fun p => leBytes 8 (s.pair p).packets.toNat ++ leBytes 8 (s.pair p).bytes.toNat)

/-- The words of a snapshot's pairs are read (R377). -/
def State.pairsRead (s : State) (first count : Nat) : State :=
  if s.wordsQuiet then s
  else forAll (s.bad.filterMap (fun x => match x.word with
    | .pair n => if first ≤ n && n < first + count then some n else none
    | _ => none)) s (fun n s => s.pairRead n)

/-- CLEAR. -/
def State.clearPairs (s : State) (first count : Nat) : State :=
  forAll ((tkeys s.tables.pairs).filter (fun p => first ≤ p && p < first + count)) s (fun p s =>
    s.setPair p { s.pair p with packets := 0, bytes := 0 })

def snapshotBad (e : Entry) : List (Bool × Nat) :=
  let op := e.u8 40
  let n := e.u32 36
  let copy := op ≤ 1
  [fld (op ≤ 3 && e.indirect != copy) 2, fld (op = 3 && e.u64 16 % 4096 ≠ 0) 16,
   fld (op = 3 && e.u64 16 ≠ 0 && (e.u8 24 < 4 || 16 < e.u8 24)) 24,
   fld (n ≤ 1048576 && ((op = 0 && e.bufLen < 16 * n) || (op = 1 && e.bufLen < 32 * n))) 24,
   fld (copy && n ≤ 1048576 && 1048576 < e.u32 32 + n) 32, fld (copy && (n < 1 || 1048576 < n)) 36, fld (3 < op) 40,
   fld ((op = 1 || op = 2) && 15 < e.u8 42) 42, fld (op = 1 && e.u16 44 < ceilDiv n 600000 + 1) 44]

def snapshotFields (e : Entry) : List Field :=
  (if e.u8 40 = 3 then [(16, 0, 64), (24, 0, 8)] else []) ++
    [(32, 0, 32), (36, 0, 32), (40, 0, 8), (41, 0, 1), (42, 0, 8), (44, 0, 16)]

/-- A periodic snapshot runs on a timer. -/
def State.snapshotOn (s : State) (t : Nat) : Option PeriodicSnap :=
  match s.timer t with
  | some x => (match x.use with | .snapshot p => some p | _ => none)
  | none => none

def snapshotOf (e : Entry) (mb : Nat) : PeriodicSnap :=
  { mbox := mb, addr := e.bufAddr, first := e.u32 32, count := e.u32 36, clear := e.bit 41 0, half := e.bufLen / 2, number := 0,
    running := none, skipped := false }

def bodyCounterSnapshot : Body := fun s mb e buf =>
  let op := e.u8 40
  let first := e.u32 32
  let n := e.u32 36
  let t := e.u8 42
  match firstSome [
    formCheck rowCounterSnapshot s mb e (snapshotFields e) (snapshotBad e) (op = 1 || op = 2),
    failIf (op = 0 && !(s.inShare mb 12 first && s.inShare mb 12 (first + n - 1))) 0x03 32] with
  | some c => .ofCheck c
  | none =>
    if op = 0 then
      match buf with
      | none => bufFault
      | some _ =>
        let s := s.pairsRead first n
        let u := if (s.mbox mb).muted then s else s.dmaFor (mboxSlice mb) e.bufAddr (s.pairBytes first n)
        .ok (if e.bit 41 0 then u.clearPairs first n else u) 0 (resultOf [(16, 8, s.now), (24, 8, s.now)])
    else if op = 1 then
      if (s.claim 2 t).isSome then s.conflict 2 t
      else .done ((s.setClaim 2 t 0x0C05 t).setTimer t (some { period := e.u16 44, use := .snapshot (snapshotOf e mb) }))
    else if op = 2 then
      match s.snapshotOn t with
      | some _ => .done ((s.setTimer t none).release 2 t).fencesCheck
      | none => .fail 0x06 0 0
    else
      let r : EventRing := if e.u64 16 = 0 then EventRing.none else { EventRing.none with base := e.u64 16, log2 := e.u8 24 }
      .done { s with host := { s.host with rings := tset s.host.rings EventRing.none mb r } }

def execCounterSnapshot (mb : Fin 129) (e : Entry) (buf : Option Bytes) (s : State) : Result :=
  runCmd rowCounterSnapshot bodyCounterSnapshot mb e buf s

def State.setSnapshot (s : State) (t : Nat) (p : PeriodicSnap) : State :=
  match s.timer t with
  | some x => s.setTimer t (some { x with use := .snapshot p })
  | none => s

/-- A tick: the range is copied into a half of the buffer, unless the snapshot before still runs. -/
def State.snapshotTick (s : State) (t : Nat) : State :=
  match s.snapshotOn t with
  | none => s
  | some p =>
    if p.running.isSome then s.setSnapshot t { p with skipped := true }
    else
      let s := s.pairsRead p.first p.count
      let s := s.dmaFor (mboxSlice p.mbox) (p.addr + p.number % 2 * p.half) (s.pairBytes p.first p.count)
      let s := if p.clear then s.clearPairs p.first p.count else s
      s.setSnapshot t { p with running := some s.now }

def execPeriodicSnapshotTick (timer : Fin 16) (s : State) : Result := .next (s.snapshotTick timer.val)

/-- A periodic snapshot ends with its record. -/
def State.snapshotDone (s : State) (t : Nat) : State :=
  match s.snapshotOn t with
  | none => s
  | some p =>
    match p.running with
    | none => s
    | some start =>
      (s.setSnapshot t { p with running := none, skipped := false, number := p.number + 1 }).counterEvent p.mbox 3 0 t
        (p.number % 2 + bit p.skipped * 2) p.number start

def execSnapshotDone (timer : Fin 16) (s : State) : Result := .next (s.snapshotDone timer.val).fencesCheck

/-! ### Probes (R350–R352) -/

def State.probe (s : State) (n : Nat) : Option Probe := tget s.cad.probes none n
def State.setProbe (s : State) (n : Nat) (x : Option Probe) : State := { s with cad := { s.cad with probes := tset s.cad.probes none n x } }

/-- A timer is held by a probe schedule. -/
def State.scheduled (s : State) (t : Nat) : Bool := match s.timer t with | some x => x.use == TimerUse.probes | none => false

/-- The target of a PROBE_SET. -/
def targetOf (e : Entry) : ProbeTarget := if e.u8 24 = 1 then .queue (e.u32 28) else .portClass (e.u8 26) (e.u8 25)

def State.targetExists (s : State) (t : ProbeTarget) : Bool :=
  match t with
  | .queue q => (s.classQueue q).isSome
  | .portClass k _ => (s.port k).cfg.width ≠ 0 && !(s.port k).cfg.subscriber

def probeBad (e : Entry) : List (Bool × Nat) :=
  let op := e.u8 16
  let kind := e.u8 24
  [fld (3 < op) 16, fld (op ≠ 2 && 15 < e.u8 17) 17, fld (op = 0 && (e.u16 18 < 1 || 60000 < e.u16 18)) 18,
   fld ((op = 1 || op = 2) && 65535 < e.u32 20) 20] ++
  (if op = 1 then [fld (kind < 1 || 2 < kind) 24, fld (kind = 2 && 7 < e.u8 25) 25, fld (kind = 2 && 127 < e.u8 26) 26,
    fld (kind = 1 && 1048575 < e.u32 28) 28] else [])

/-- Step 8 of PROBE_SET for a slice. -/
def State.probeDenied (s : State) (mb : Nat) (e : Entry) : Check :=
  let op := e.u8 16
  let other := match s.probe (e.u32 20) with | some p => p.mbox != mb | none => false
  if mb = 0 then none
  else leastOff (([(op = 1 && e.u8 24 = 2, 24), (op = 1 && e.u8 24 = 1 && !s.ownsNode mb (nodeKey 4 (e.u32 28)), 28),
    ((op = 1 || op = 2) && other, 20)].filter (·.1)).map (·.2)) |>.map (fun off => (0x03, off))

/-- Enabled probes of a mailbox but one. -/
def State.probesOf (s : State) (mb but : Nat) : Nat := ((tsome s.cad.probes).filter (fun p => p.2.mbox == mb && p.1 != but)).length

def probeOf (e : Entry) (mb : Nat) : Probe :=
  { mbox := mb, timer := e.u8 17, target := targetOf e, delayLimit := e.u32 32, lossPpm := e.u32 36, window := ProbeWindow.empty,
    last := ProbeWindow.empty, lastCycle := 0, windows := 0, totalOut := 0, totalLost := 0 }

def State.probeEnable (s : State) (mb : Nat) (e : Entry) : CmdOut :=
  let n := e.u32 20
  let t := targetOf e
  andThen (firstSome [failIf (!s.scheduled (e.u8 17)) 0x06 0, failIf (!s.targetExists t) 0x06 0,
    ((tsome s.cad.probes).find? (fun p => p.2.target == t && p.1 != n)).map (fun p => (0x07, p.1)),
    failIf (mb ≠ 0 && tget (s.slice (mb - 1)).counts 0 (9 * 16) < s.probesOf mb n + 1) 0x04 9]) (.done (s.setProbe n (some (probeOf e mb))))

def bodyProbeSet : Body := fun s mb e _ =>
  let op := e.u8 16
  let t := e.u8 17
  andThen (firstSome [
    formCheck rowProbeSet s mb e [(16, 0, 8), (17, 0, 8), (18, 0, 16), (20, 0, 32), (24, 0, 8), (25, 0, 8), (26, 0, 8), (28, 0, 32),
      (32, 0, 32), (36, 0, 32)] (probeBad e) (op = 0 || op = 3),
    failIf (op = 1 && e.u8 24 = 2 && s.portCount ≤ e.u8 26) 0x09 26,
    failIf (op = 1 && e.u8 24 = 2 && s.isFenced 1 (spokeOf (e.u8 26))) 0x0A 26,
    s.probeDenied mb e]) <|
    if op = 0 then
      if s.claimBusy 2 t 0x0C03 t then s.conflict 2 t
      else .done ((s.setClaim 2 t 0x0C03 t).setTimer t (some { period := e.u16 18, use := .probes }))
    else if op = 1 then s.probeEnable mb e
    else if op = 2 then
      match s.probe (e.u32 20) with
      | some _ => .done (s.setProbe (e.u32 20) none)
      | none => .fail 0x06 0 0
    else andThen (firstSome [failIf (!s.scheduled t) 0x06 0, failIf ((tsome s.cad.probes).any (fun p => p.2.timer == t)) 0x08 0x0C03])
      (.done ((s.setTimer t none).release 2 t))

def execProbeSet (mb : Fin 129) (e : Entry) (s : State) : Result := runCmd rowProbeSet bodyProbeSet mb e none s

/-- A part of PROBE_READ; `free` stands for the DELAY_MIN of a window without a frame. -/
def Probe.read (p : Probe) (part free : Nat) : BitVec 128 :=
  match part with
  | 0 => resultOf [(16, 8, p.last.out), (24, 8, p.last.lost)]
  | 1 => resultOf [(16, 8, p.last.delaySum.toNat), (24, 4, if p.last.out = 0 then free else p.last.delayMin), (28, 4, p.last.delayMax)]
  | 2 => resultOf [(16, 4, p.lastCycle), (20, 4, p.windows)]
  | _ => resultOf [(16, 8, p.totalOut.toNat + p.window.out), (24, 8, p.totalLost.toNat + p.window.lost)]

def bodyProbeRead : Body := fun s mb e _ =>
  let n := e.u32 16
  andThen (entryCheck rowProbeRead s mb e [(16, 0, 32), (20, 0, 8)] [(65535 < n, 16), (3 < e.u8 20, 20)]) <|
    match s.probe n with
    | none => .fail 0x06 0 0
    | some p => if p.mbox ≠ mb then .fail 0x03 16 0 else .ok s.draw.2 0 (p.read (e.u8 20) (s.draw.1.toNat % 2 ^ 32))

def execProbeRead (mb : Fin 129) (e : Entry) (s : State) : Result := runCmd rowProbeRead bodyProbeRead mb e none s

/-- The limits that a window exceeds: bit 0 DELAY, bit 1 LOSS. -/
def Probe.exceeded (p : Probe) : Nat :=
  bit (p.delayLimit != 0 && decide (p.delayLimit < p.window.delayMax)) +
    bit (p.lossPpm != 0 && decide (p.lossPpm * (p.window.out + p.window.lost) < p.window.lost * 1000000)) * 2

/-- A window of a probe ends. -/
def State.probeWindow (s : State) (n : Nat) (p : Probe) : State :=
  let w := p.window
  let s := s.setProbe n (some { p with
    window := ProbeWindow.empty, last := w, lastCycle := s.cycle.toNat, windows := p.windows + 1,
    totalOut := p.totalOut + BitVec.ofNat 64 w.out, totalLost := p.totalLost + BitVec.ofNat 64 w.lost })
  if p.exceeded = 0 then s else s.probeAlarm n p p.exceeded w

def State.windowEnd (s : State) (t : Nat) : State :=
  if s.scheduled t then forAll ((tsome s.cad.probes).filter (fun p => p.2.timer == t)) s (fun p s => s.probeWindow p.1 p.2) else s

def execProbeWindowEnd (timer : Fin 16) (s : State) : Result := .next (s.windowEnd timer.val)

/-! ### PERF_SELECT (R355) -/

def State.perfTimer (s : State) (t : Nat) : Bool := match s.timer t with | some x => x.use == TimerUse.perf | none => false

def bodyPerfSelect : Body := fun s mb e _ =>
  let t := e.u8 17
  let start := e.u8 16 = 0
  andThen (entryCheck rowPerfSelect s mb e [(16, 0, 8), (17, 0, 8), (18, 0, 16)]
      [(1 < e.u8 16, 16), (15 < t, 17), (start && e.u16 18 = 0, 18)]) <|
    if start then
      if (s.claim 2 t).isSome then s.conflict 2 t
      else .done ((s.setClaim 2 t 0x0C06 t).setTimer t (some { period := e.u16 18, use := .perf }))
    else if s.perfTimer t then .done ((s.setTimer t none).release 2 t)
    else .fail 0x06 0 0

def execPerfSelect (mb : Fin 129) (e : Entry) (s : State) : Result := runCmd rowPerfSelect bodyPerfSelect mb e none s

/-- A block copies its counters into its samples. -/
def Block.tick (b : Block) (now cycle : Nat) : Block :=
  { b with perf := b.perf.map (fun c => (c.1, { c.2 with ticked := c.2.count })), sampleTime := BitVec.ofNat 64 now,
           sampleCycle := BitVec.ofNat 32 cycle }

/-- A sampling timer ticks. -/
def State.perfTick (s : State) : State :=
  if (tsome s.cad.timers).any (fun t => t.2.use == TimerUse.perf) then
    forAll (s.presentBlocks.filter (fun b => !s.blockFenced b)) s (fun b s => s.setBlock b ((s.block b).tick s.now s.cycle.toNat))
  else s

def execPerfSampleTick (s : State) : Result := .next s.perfTick

end Sys2Proof.Machine
end

