-- ==== Sys2Proof/Machine/Fabric.lean ====
section
/-! DEFINITION. Chapter 15: the Peloton's commands and events, and the Tandem commands and events that need no replay of
commands. -/
namespace Sys2Proof.Machine
open Sys2Proof

/-! ### The Peloton (R425–R428, R430) -/

/-- A change of the Peloton's settings: what is no longer a destination is flushed. -/
def bodyPelotonConfig : Body := fun s mb e _ =>
  let op := e.u8 16
  let mode := e.u8 17
  andThen (firstSome [
    entryCheck rowPelotonConfig s mb e [(16, 0, 8), (17, 0, 8)] [(1 < op, 16), (1 < mode, 17)],
    failIf (mode = 1 && !s.hasTandem) 0x09 17]) <|
    .done ({ s with peloton := { s.peloton with joined := op = 1, paired := op = 1 && mode = 1 } }).fabricFlush

def execPelotonConfig (mb : Fin 129) (e : Entry) (s : State) : Result := runCmd rowPelotonConfig bodyPelotonConfig mb e none s

def FabricState.num (x : FabricState) : Nat := match x with | .down => 0 | .training => 1 | .up => 2 | .mismatch => 3

/-- Credit that a link gives: 2,048 cells less those whose credit has not returned. -/
def FabricLink.credits (l : FabricLink) : Nat := if l.state = .up then 2048 - l.used.foldl (fun n e => n + e.2) 0 else 0

/-- The link carries a twin destination. -/
def State.twin (s : State) (m : Nat) : Bool := s.peloton.paired && (s.fabricLinks 0).contains m

/-- FABRIC_LINK_m (Table 15-12). -/
def State.fabricLinkReg (s : State) (m : Nat) : Nat :=
  let l := s.link m
  bit (!s.gateOpen) + l.state.num * 2 + bit (s.twin m) * 8 + l.farMember.toNat * 16 + l.spares.toNat * 2 ^ 20 + l.lanesUp.toNat * 2 ^ 24 +
    l.credits * 2 ^ 32

def bodyFabricStatus : Body := fun s mb e _ =>
  andThen (entryCheck rowFabricStatus s mb e [(16, 0, 8)] [(2 < e.u8 16, 16)]) <|
    .ok s 0 (resultOf [(16, 8, s.fabricLinkReg (e.u8 16))])

def execFabricStatus (mb : Fin 129) (e : Entry) (s : State) : Result := runCmd rowFabricStatus bodyFabricStatus mb e none s

def execFabricFrameArrival (link : Fin 3) (frame : FabricFrame) (s : State) : Result := .next (s.fabricArrive link.val frame)
def execFabricCreditReturn (link : Fin 3) (cls : Fin 8) (cells : Nat) (s : State) : Result :=
  .next (s.creditReturn (.fabric link cls) cells)
def execFabricLinkControlWord (link : Fin 3) (word : FabricControl) (s : State) : Result := .next (s.fabricWord link.val word).gearCheck
def execFabricLaneLockLoss (link : Fin 3) (lane : Fin 8) (s : State) : Result := .next (s.laneLost link.val lane.val).gearCheck
def execFabricSpareTrained (link : Fin 3) (s : State) : Result := .next (s.spareTrained link.val)
def execFabricLinkDown (link : Fin 3) (s : State) : Result := .next (s.fabricDown link.val).gearCheck
def execFabricLinkUp (link : Fin 3) (word : FabricControl) (s : State) : Result := .next (s.fabricTrained link.val word).gearCheck

/-! ### Claims and gates (R403–R406, R419) -/

def bodyClaimRankSet : Body := fun s mb e _ =>
  let rank := e.f 16 0 6
  andThen (firstSome [
    entryCheck rowClaimRankSet s mb e [(16, 0, 6)] [(rank = 0 || rank = 63, 16)],
    failIf (!s.hasTandem) 0x09 0]) <|
    .done (s.setTandem { s.tandem with rank := rank }).gateReview

def execClaimRankSet (mb : Fin 129) (e : Entry) (s : State) : Result := runCmd rowClaimRankSet bodyClaimRankSet mb e none s
def execClaimFrameReceived (path : ClaimPath) (frame : BitVec 32) (s : State) : Result := .next (s.claimFrame path frame)
def execClaimPathTimeout (path : ClaimPath) (s : State) : Result := .next (s.claimTimeout path)

/-- The hold-off ends 30 µs after the raise. -/
def execHoldoffExpiry (s : State) : Result := .next (s.setTandem { s.tandem with holdoff := false }).gateReview

def execBellInTimeout (s : State) : Result := .next s.bellInSilent
def execBellInEdge (s : State) : Result := .next (s.setTandem { s.tandem with bellInOk := true })

/-! ### The Tandem link (R411, R412) -/

def execTandemLinkDown (s : State) : Result := .next (if s.tandem.linkUp then s.tandemLinkDown else s)
def execTandemLinkUp (s : State) : Result := .next (if s.hasTandem && !s.boot.failed.contains { kind := 7, index := 0 } then s.setTandem { s.tandem with linkUp := true } else s)

/-- The link has been down for 2 ms: a Stoker is ineligible until it has caught up. -/
def execLinkDownIneligible (s : State) : Result :=
  .next (if !s.tandem.linkUp && s.tandem.role = .stoker then s.setTandem { s.tandem with linkLost := true } else s)

/-- A mirror message arrives, in serial order: a gap is one that the Captain's history could not fill. -/
def State.mirrorReceive (s : State) (m : MirrorMessage) : State :=
  let t := s.tandem
  if t.role ≠ .stoker || (t.sync ≠ .synced && t.sync ≠ .syncing) then s
  else if t.sync = .syncing && t.loading.isNone then s.setTandem { t with mirrors := t.mirrors ++ [(t.records.length, m)] }
  else if m.epoch ≠ t.epoch then s.roleChanged
  else if m.serial = t.serialIn + 1 then
    if t.sync = .syncing then s.setTandem { t with serialIn := m.serial, mirrors := t.mirrors ++ [(t.records.length, m)] }
    else (s.setTandem { t with serialIn := m.serial }).mirrorApply m
  else if serialAfter 32 m.serial.toNat t.serialIn.toNat then s.unsync
  else s

def execMirrorMessageReceived (message : MirrorMessage) (s : State) : Result := .next (s.mirrorReceive message)

/-- A journal record arrives, in order: a gap is one that the history could not fill. More than 100 records behind makes the
Stoker ineligible, more than 1,000 UNSYNCED (R410). -/
def State.recordReceive (s : State) (r : JournalRecord) : State :=
  let t := s.tandem
  if t.role ≠ .stoker || (t.sync ≠ .synced && t.sync ≠ .syncing) then s
  else if t.sync = .syncing then s.setTandem { t with records := t.records ++ [r] }
  else if r.epoch ≠ t.epoch then s.roleChanged
  else
    let last := match t.records.getLast? with | some x => x.seq | none => t.journalSeq
    if r.seq ≠ last + 1 then (if serialAfter 32 r.seq.toNat last.toNat then s.unsync else s)
    else
      let s := s.setTandem { t with records := t.records ++ [r] }
      let n := t.records.length + 1
      if 1000 < n then (s.tandemRecord 7 0 n).unsync
      else if 100 < n && !t.lagging then (s.setTandem { s.tandem with lagging := true }).tandemRecord 7 0 n
      else s

def execJournalRecordReceived (record : JournalRecord) (s : State) : Result := .next (s.recordReceive record)

/-! ### Roles (R407, R421) -/

/-- The role epoch that a control message carries. -/
def messageEpoch (m : ControlMessage) : BitVec 16 :=
  match m with | .becomeStandalone e => e | .newEpoch e _ => e | .setStrict e _ => e | .becomeCaptain e _ => e

/-- A role or epoch message from the partner. One of another epoch is completed with ROLE_CHANGED and has no effect (R76). -/
def State.control (s : State) (m : ControlMessage) : State :=
  let t := s.tandem
  if messageEpoch m ≠ t.epoch then s.roleChanged
  else match m with
    | .becomeStandalone _ => if t.role ≠ .standalone then s.goStandalone else s
    | .newEpoch _ next => if t.role ≠ .standalone then s.setTandem { t with epoch := next } else s
    | .setStrict _ strict => if t.role = .stoker then s.setTandem { t with strict := strict } else s
    | .becomeCaptain _ next => if t.role = .stoker then (s.becomeCaptain false next).gateReview else s

def execTandemControlMessage (message : ControlMessage) (s : State) : Result := .next (s.control message)

/-- The Stoker reports that it has applied the closed record: the Captain hands over (steps 2 and 3 of R421). -/
def State.handedOver (s : State) (epoch : BitVec 16) (seq : BitVec 32) : State :=
  if epoch ≠ s.tandem.epoch then s.roleChanged
  else match s.tandem.handover with
  | none => s
  | some n =>
    if s.tandem.role ≠ .captain || (seq ≠ n && !serialAfter 32 seq.toNat n.toNat) then s
    else
      let t := s.tandem
      let s := s.setTandem { t with
        role := .stoker, sync := .synced, epoch := t.epoch + 1, raised := false, changing := false, handover := none, joining := false,
        serialIn := t.serialOut }
      (s.gateReview.finish 0 rowRoleHandover 0).answerAll

def execStokerAppliedReport (report : AppliedReport) (s : State) : Result := .next (s.handedOver report.epoch report.seq)

/-! ### Digests (R416–R418, R430) -/

/-- The distance M of a seal from the current frame: 100 µs of frames of 672 bits at the port's rate. -/
def sealDistance (rate : Nat) : Nat := ceilDiv (rateGb rate * 100000) 672

/-- The number of the last frame of a port; 0 before its first. -/
def PortDigest.last (d : PortDigest) : BitVec 32 := if d.frameNo = 0 then 0 else d.frameNo - 1

/-- At 0 and 500 µs of its cycles the Captain sends a seal for every port, and closes its own block after the same frame. -/
def State.seals (s : State) : State :=
  if s.tandem.role ≠ .captain || s.fw.halted then s
  else forAll s.portsPresent s (fun k s =>
    let n := BitVec.ofNat 32 (sealDistance (s.port k).cfg.rate)
    s.modPort k (fun p => { p with digest := { p.digest with seals := p.digest.seals ++ [p.digest.last + n] } }))

def execSealTimer (_half : Bool) (s : State) : Result := .next s.seals

/-- A seal reaches the Stoker; one that is late marks the block UNALIGNED, on the Captain too. -/
def State.sealReceive (s : State) (k : Nat) (epoch : BitVec 16) (f : BitVec 32) (late : Bool) : State :=
  if epoch ≠ s.tandem.epoch then s.roleChanged
  else if !s.paired then s
  else
    let d := (s.port k).digest
    let past := late || (s.tandem.role = .stoker && !(serialAfter 32 f.toNat d.last.toNat || (d.frameNo = 0 && f = 0)))
    let x := if past then d.inBlock f.toNat (fun b => { b with unaligned := true })
      else if s.tandem.role = .stoker then { d with seals := d.seals ++ [f] } else d
    s.modPort k (fun p => { p with digest := x })

def execSealReceived (port : Fin 128) (mark : SealFrame) (late : Bool) (s : State) : Result :=
  .next (s.sealReceive port.val mark.epoch mark.frame late)

/-- A partner block arrives. -/
def State.blockReceive (s : State) (b : DigestBlock) : State :=
  if b.epoch ≠ s.tandem.epoch then s.roleChanged
  else if !s.paired then s
  else
    let k := b.port.val
    (s.modPort k (fun p => { p with digest := { p.digest with partner := p.digest.partner ++ [b] } })).digests k

def execDigestBlockReceived (block : DigestBlock) (s : State) : Result := .next (s.blockReceive block)

/-- No partner block arrives within 4 ms for the port's oldest closed block: it is skipped. -/
def State.blockTimeout (s : State) (k : Nat) : State :=
  let d := (s.port k).digest
  match d.closed with
  | [] => s
  | c :: r =>
    (s.modPort k (fun p => { p with digest := { p.digest with closed := r, partner := d.partner.filter (fun b => b.number != c.number) } })).tandemCount 2 1

def execPartnerBlockTimeout (port : Fin 128) (s : State) : Result := .next (s.blockTimeout port.val)
def execRefereeCodesReceived (codes : RefereeCodes) (s : State) : Result :=
  .next (if codes.epoch = s.tandem.epoch then s.referee codes.port.val codes.codes else s.roleChanged)

def bodyDigestRead : Body := fun s mb e _ =>
  let k := e.u8 16
  let part := e.u8 17
  andThen (firstSome [
    entryCheck rowDigestRead s mb e [(16, 0, 8), (17, 0, 8)] [(127 < k, 16), (1 < part, 17)],
    failIf (s.portCount ≤ k) 0x09 16]) <|
    match (s.port k).digest.compared with
    | none => .fail 0x06 0 0
    | some c => .ok s 0 (if part = 0 then
        resultOf [(16, 4, c.number), (20, 1, bit c.mismatch), (21, 1, (s.port k).digest.run), (24, 8, c.digest.toNat)]
      else resultOf [(16, 8, c.partner.toNat), (24, 4, c.settled), (28, 4, c.partnerSettled)])

def execDigestRead (mb : Fin 129) (e : Entry) (s : State) : Result := runCmd rowDigestRead bodyDigestRead mb e none s

/-! ### TANDEM_STATUS (R430) -/

def SyncState.num (x : SyncState) : Nat := match x with | .none => 0 | .syncing => 1 | .synced => 2 | .unsynced => 3

/-- TANDEM_STATE (Table 15-10). -/
def State.tandemState (s : State) : Nat :=
  let t := s.tandem
  let p := s.partner
  let pf (f : BitVec 32 → Bool) : Nat := match p with | some x => bit (f x) | none => 0
  t.role.num + t.sync.num * 2 ^ 4 + bit t.strict * 2 ^ 15 + bit t.noTakeover * 2 ^ 16 + bit s.eligible * 2 ^ 17 + bit t.gatesOpen * 2 ^ 18 +
    bit t.pins.accepted.isSome * 2 ^ 19 + bit t.linkUp * 2 ^ 20 + bit t.bellInOk * 2 ^ 21 + pf claimBellOk * 2 ^ 22 +
    pf claimGated * 2 ^ 23 + s.boot.unitId.toNat * 2 ^ 24 + t.rank * 2 ^ 26 + s.ownClaim * 2 ^ 32 +
    (match p with | some x => claimNo x | none => 0) * 2 ^ 40 + t.epoch.toNat * 2 ^ 48

/-- TANDEM_JOURNAL (Table 15-11). -/
def State.tandemJournal (s : State) : Nat := s.tandem.configSeq.toNat + s.tandem.journalSeq.toNat * 2 ^ 32

def bodyTandemStatus : Body := fun s mb e _ =>
  let part := e.u8 16
  let arg := e.u16 18
  andThen (entryCheck rowTandemStatus s mb e [(16, 0, 8), (18, 0, 16)]
      [(1 < part, 16), ((part = 0 && arg ≠ 0) || (part = 1 && 128 < arg), 18)]) <|
    if part = 0 then .ok s 0 (resultOf [(16, 8, s.tandemState), (24, 8, s.tandemJournal)])
    else
      let x := tget s.tandem.lastSeq (0, 0) arg
      .ok s 0 (resultOf [(16, 4, x.1.toNat), (20, 4, x.2.toNat)])

def execTandemStatus (mb : Fin 129) (e : Entry) (s : State) : Result := runCmd rowTandemStatus bodyTandemStatus mb e none s

end Sys2Proof.Machine
end

