-- ==== Sys2Proof/Machine/Parser.lean ====
section
/-! DEFINITION. Chapter 06 and R103: graph, customer store and pattern set loads, lifeline marking, and the passes
of the pipes. -/
namespace Sys2Proof.Machine
open Sys2Proof

/-! ### Rejected images (R53, R139) -/

/-- A rejected image or list: BAD_ARG with DETAIL 16, and the failing index and byte offset in the firmware log. -/
def State.rejectImage (s : State) (r : OpRow) (mb index off : Nat) : CmdOut :=
  .part (s.fwRecord 1 mb 0x02 r.op index off) 0x02 16 0

/-- The least byte offset of the failing fields, given by their low bits. -/
def firstBad (l : List (Bool × Nat)) : Option Nat := leastOff ((l.filter (·.1)).map (fun x => x.2 / 8))

/-! ### Graph images (R139, R140, Table 6-7) -/

/-- A node reference of an image of `n` nodes. -/
def refOk (n r : Nat) : Bool := r < n || r == 0x3FF

/-- The first failing field of a node, in an image of `n` nodes and `m` transitions. -/
def nodeBad (n m w : Nat) : Option Nat :=
  let x := Gnode.ofWord w
  firstBad [(bitsAt w 252 4 ≠ 0, 252), (14 ≤ x.cls || (x.lenMode = 2 && x.cls ≠ 0), 248), (x.lenMode = 3, 246), (512 < x.lenAdd, 236),
    (512 < x.lenOff + 2, 227), (32 < x.selWidth, 185), (512 < (x.selOff * 8 + x.selWidth + 7) / 8, 191), (m < x.base + x.count, 166),
    (!refOk n x.next, 156), (2 ≤ x.act, 154),
    (if x.cls = 12 then x.x0En && 32 ≤ x.x0Bits else 192 < x.x0Dest + x.x0Bits + 1, 123),
    (192 < x.x1Dest + x.x1Bits + 1, 100), (bitsAt w 0 98 ≠ 0, 0)]

/-- The first failing field of a transition entry of 16 bytes. -/
def transitionBad (n w : Nat) : Option Nat :=
  let v := bitsAt w 0 32
  let m := bitsAt w 32 32
  firstBad [(v &&& m ≠ v, 0), (!refOk n (bitsAt w 64 10), 64), (bitsAt w 74 54 ≠ 0, 74)]

/-- The first element with a failing field: its index and byte offset. -/
def firstFailing (i : Nat) (l : List (Option Nat)) : Option (Nat × Nat) :=
  match l with
  | [] => none
  | some o :: _ => some (i, o)
  | none :: r => firstFailing (i + 1) r

/-- The first failing field of the 320 bytes before the nodes. -/
def graphHeadBad (b : Bytes) (n m : Nat) : Option Nat :=
  let size := 320 + 32 * n + 16 * m
  let starts := (List.range 128).map (fun k => (decide (n ≤ leAt b (64 + 2 * k) 2), (64 + 2 * k) * 8))
  firstBad ([(n < 1 || 1023 < n, 0), (8192 < m, 16), (n ≤ leAt b 4 2, 32), (leAt b 6 2 ≠ 0, 48),
    (!(slice b 8 7).all (fun x => x.toNat ≤ 2), 64), (leAt b 15 1 ≠ 0, 120), (!allZero (slice b 16 48), 128)] ++ starts ++
    [(b.length ≠ (size + 63) / 64 * 64 || !allZero (b.drop size), size * 8)])

/-- A valid image as a graph, or the failing index and offset. -/
def graphOf (b : Bytes) : Graph ⊕ (Nat × Nat) :=
  let n := leAt b 0 2
  let m := leAt b 2 2
  match graphHeadBad b n m with
  | some o => .inr (0, o)
  | none =>
    let nodes := (List.range n).map (fun i => leAt b (320 + 32 * i) 32)
    let trans := (List.range m).map (fun i => leAt b (320 + 32 * n + 16 * i) 16)
    match firstSome [firstFailing 0 (nodes.map (nodeBad n m)), firstFailing 0 (trans.map (transitionBad n))] with
    | some x => .inr x
    | none => .inl
      { nodes := nodes.map (BitVec.ofNat 256),
        transitions := trans.map (fun w =>
          { value := BitVec.ofNat 32 w, mask := BitVec.ofNat 32 (bitsAt w 32 32), next := bitsAt w 64 10 }),
        starts := (List.range 128).map (fun k => leAt b (64 + 2 * k) 2), recircStart := leAt b 4 2,
        dispositions := (List.range 7).map (fun i => leAt b (8 + i) 1), isDefault := false }

/-- Write the inactive bank, make it current and tell the pipes (R141). -/
def State.graphSwitch (s : State) (mb : Nat) (g : Graph) : State :=
  let c := s.ctl
  let c := if c.graphBank then { c with graphA := g } else { c with graphB := g }
  let s := s.storeWritten (fun w => match w with | .graphNode _ b _ | .transition _ b _ => b != c.graphBank | _ => false)
  ({ s with ctl := { c with graphBank := !c.graphBank, graphMb := some mb } }.pushSwitch s.livePipes .graph).switchSettle

/-- With FLAGS.INDIRECT set, ARG_2 bit 0 names nothing and is a reserved bit: BAD_ARG, DETAIL 32 (DESIGN CHOICE, log entry 134). -/
def bodyParseGraphLoad : Body := fun s mb e buf =>
  andThen (firstSome [
    entryCheck rowParseGraphLoad s mb e (if e.indirect then [] else [(32, 0, 1)]) [(!e.indirect && !e.bit 32 0, 32)],
    failIf (s.ctl.graphMb.isSome || s.flying 1 (!s.ctl.graphBank) != 0) 0x08 0x0501]) <|
    if !e.indirect then .hold (s.graphSwitch mb Graph.default)
    else match e.readBuf buf with
      | none => bufFault
      | some b => match graphOf b with
        | .inl g => .hold (s.graphSwitch mb g)
        | .inr x => s.rejectImage rowParseGraphLoad mb x.1 x.2

def execParseGraphLoad (mb : Fin 129) (e : Entry) (buf : Option Bytes) (s : State) : Result :=
  runCmd rowParseGraphLoad bodyParseGraphLoad mb e buf s

/-! ### The customer-open store (R103) -/

/-- The first failing field of a customer word. The bits of ARG that its OP does not use are its reserved bits (log entry 130). -/
def customerBad (w : Nat) : Option Nat :=
  let op := bitsAt w 120 8
  firstBad [(6 < op, 120), (511 < bitsAt w 86 10, 80), (op = 1 && 256 < bitsAt w 64 8 + bitsAt w 80 6 + 1, 64),
    (match op with
     | 1 => bitsAt w 72 8 ≠ 0
     | 3 => bitsAt w 68 12 ≠ 0
     | 4 => if bitAt w 79 then bitsAt w 67 12 ≠ 0 else bitsAt w 74 5 ≠ 0
     | _ => bitsAt w 64 16 ≠ 0, 64), (op = 5 && 0x3FF < bitsAt w 32 32, 32)]

def State.customerSwitch (s : State) (mb : Nat) (l : List (BitVec 128)) : State :=
  let c := s.ctl
  let c := if c.custBank then { c with custA := l } else { c with custB := l }
  let s := s.storeWritten (fun w => match w with | .customer _ b _ => b != c.custBank | _ => false)
  ({ s with ctl := { c with custBank := !c.custBank, custMb := some mb } }.pushSwitch s.livePipes .customer).switchSettle

def bodyCustomerStoreLoad : Body := fun s mb e buf =>
  andThen (firstSome [
    entryCheck rowCustomerStoreLoad s mb e [] [(e.indirect && 65536 < e.bufLen, 24)],
    failIf (s.ctl.custMb.isSome || s.flying 2 (!s.ctl.custBank) != 0) 0x08 0x0502]) <|
    match e.readBuf buf with
    | none => bufFault
    | some b =>
      let l := (List.range (b.length / 16)).map (fun i => leAt b (16 * i) 16)
      match firstFailing 0 (l.map customerBad) with
      | some x => s.rejectImage rowCustomerStoreLoad mb x.1 x.2
      | none => .hold (s.customerSwitch mb (l.map (BitVec.ofNat 128)))

def execCustomerStoreLoad (mb : Fin 129) (e : Entry) (buf : Option Bytes) (s : State) : Result :=
  runCmd rowCustomerStoreLoad bodyCustomerStoreLoad mb e buf s

/-! ### Pattern sets (R145–R147) -/

/-- The first failing field of a pattern record, and the record's size. -/
def patternBad (b : Bytes) : Option Nat :=
  let n := leAt b 0 2
  let fl := leAt b 3 1
  firstBad [(b.length < 8 || n < 1 || 64 < n, 0), (15 < leAt b 2 1, 16), (3 < fl, 24), (bitAt fl 1 && 4096 < leAt b 4 2 + n, 32),
    (leAt b 6 2 ≠ 0, 48), (b.length < 8 + (n + 7) / 8 * 8 || !allZero (slice b (8 + n) ((n + 7) / 8 * 8 - n)), 64)]

/-- The records of a list, or the index and offset of the first malformed one. -/
def patternsOf (k i : Nat) (b : Bytes) : List Pattern ⊕ (Nat × Nat) :=
  match k with
  | 0 => .inl []
  | j + 1 =>
    match patternBad b with
    | some o => .inr (i, o)
    | none =>
      let n := leAt b 0 2
      let p : Pattern := { bytes := slice b 8 n, cls := leAt b 2 1, nocase := bitAt (leAt b 3 1) 0,
                           anchor := if bitAt (leAt b 3 1) 1 then some (leAt b 4 2) else none }
      match patternsOf j (i + 1) (b.drop (8 + (n + 7) / 8 * 8)) with
      | .inl r => .inl (p :: r)
      | .inr x => .inr x

/-- The blocks that the compiled automata of a list take. -/
def patternBlocks (l : List Pattern) : Nat :=
  if l = [] then 0 else Config.automataBlocks (l.map (fun p => (p.bytes, p.nocase, p.anchor, p.cls)))

/-- Replace a set's contents; packets captured against the old ones keep them. -/
def State.replaceSet (s : State) (mb n owner : Nat) (l : List Pattern) : CmdOut :=
  let old := tget s.ctl.sets none n
  let new : Option PatternSet := if l = [] then none else some { patterns := l, owner := owner, blocks := patternBlocks l }
  let users := (tsome s.sw.packets).filter (fun p => p.2.started && !p.2.decided && p.2.patternSet == n)
  let s := { s with ctl := { s.ctl with sets := tset s.ctl.sets none n new } }
  if users = [] || old.isNone then .ok s 0 (s.setLoadResult n)
  else .hold { s with ctl := { s.ctl with
    setLoads := s.ctl.setLoads ++ [{ mb := mb, set := n, old := old, packets := users.map (·.1) }] } }

def bodyPatternSetLoad : Body := fun s mb e buf =>
  let n := e.f 32 0 6
  let o := e.u8 33
  andThen (firstSome [
    entryCheck rowPatternSetLoad s mb e [(32, 0, 6), (33, 0, 8)] [(n = 0, 32), (128 ≤ o && o ≠ 0xFF, 33)],
    failIf (!s.hasMatcher) 0x09 32, failIf (s.ports.any (fun p => p.2.patternSet == n)) 0x08 0x0504]) <|
    match e.readBuf buf with
    | none => bufFault
    | some b =>
      let k := leAt b 0 2
      if 16384 < k || !allZero (slice b 2 62) then s.rejectImage rowPatternSetLoad mb 0 (if 16384 < k then 0 else 2)
      else match patternsOf k 0 (b.drop 64) with
        | .inr x => s.rejectImage rowPatternSetLoad mb x.1 x.2
        | .inl l =>
          let held := match tget s.ctl.sets none n with | some p => p.blocks | none => 0
          andThen (failIf (s.freeAutomata + held < patternBlocks l) 0x05 0) (s.replaceSet mb n o l)

def execPatternSetLoad (mb : Fin 129) (e : Entry) (buf : Option Bytes) (s : State) : Result :=
  runCmd rowPatternSetLoad bodyPatternSetLoad mb e buf s

def bodyPatternSetBind : Body := fun s mb e _ =>
  let k := e.u8 16
  let n := e.u8 17
  let set := tget s.ctl.sets none n
  let excluded := match set with | some p => mb ≠ 0 && p.owner ≠ 0xFF && p.owner ≠ mb - 1 | none => false
  andThen (firstSome [
    entryCheck rowPatternSetBind s mb e [(16, 0, 8), (17, 0, 8)] [(127 < k, 16), (63 < n, 17)],
    failIf (!s.hasMatcher || s.portCount ≤ k) 0x09 16, failIf (s.isFenced 1 (spokeOf k)) 0x0A 16,
    failIf (!s.ownsPort mb k) 0x03 16, failIf excluded 0x03 17,
    failIf ((s.port k).cfg.width = 0 || (n ≠ 0 && set.isNone)) 0x06 0]) <|
    .done (s.modPort k (fun p => { p with patternSet := n }))

def execPatternSetBind (mb : Fin 129) (e : Entry) (s : State) : Result := runCmd rowPatternSetBind bodyPatternSetBind mb e none s

/-! ### LIFELINE_SET (R148) -/

def bodyLifelineSet : Body := fun s mb e _ =>
  let n := e.u8 16
  andThen (firstSome [
    entryCheck rowLifelineSet s mb e [(16, 0, 8), (17, 0, 8), (18, 0, 16)] [(127 < n, 16), (1 < e.u8 17, 17)],
    failIf (mb ≠ 0 && n ≠ mb - 1) 0x03 16, failIf ((s.slice n).state = .none) 0x06 0]) <|
    .done (s.setSlice n { s.slice n with lifeline := e.u8 17 = 1, budget := e.u16 18 })

def execLifelineSet (mb : Fin 129) (e : Entry) (s : State) : Result := runCmd rowLifelineSet bodyLifelineSet mb e none s

/-! ### Passes (R128–R149, R184–R217) -/

def execPacketPass (pipe : Fin 8) (s : State) : Result := .next ((s.packetPass pipe.val).pipeDigests pipe.val).gearCheck
def execMatcherResult (pipe : Fin 8) (s : State) : Result := .next ((s.matcherResult pipe.val).pipeDigests pipe.val).gearCheck
def execRecircHead (pipe : Fin 8) (s : State) : Result := .next (s.recircHead pipe.val).gearCheck

end Sys2Proof.Machine
end

