-- ==== Sys2Proof/Machine/Rules.lean ====
section
/-! DEFINITION. Chapter 08: rule edits, the action image, the isolation matrix and recirculation. -/
namespace Sys2Proof.Machine
open Sys2Proof

/-! ### Rule items (R192–R199, Table 8-4) -/

/-- What a rule item asks for. -/
inductive RuleMode where
  | insert | move | join | deleteKey | deleteIndex
deriving DecidableEq, Repr

/-- A rule item. -/
structure RuleItem where
  mode     : RuleMode
  atIndex  : Bool
  pipes    : List Nat
  banks    : Nat
  profile  : Nat
  priority : Nat
  src      : Nat
  index    : List Nat
  program  : Nat
  count    : Bool
  stat     : Nat
  arg      : Nat
  value    : Nat
  mask     : Nat
deriving DecidableEq, Repr

def ruleModeOf (insert : Bool) (kind : Nat) : Option RuleMode :=
  if insert then (match kind with | 0 => some .insert | 1 => some .move | 2 => some .join | _ => none)
  else match kind with | 0 => some .deleteKey | 1 => some .deleteIndex | _ => none

/-- The kinds that use PROFILE, PRIORITY, VALUE and MASK. -/
def RuleMode.keyed (m : RuleMode) : Bool := m = .insert || m = .join || m = .deleteKey

def ruleItemOf (m : RuleMode) (b : Bytes) : RuleItem :=
  let act := leAt b 32 16
  { mode := m, atIndex := bitAt (leAt b 1 1) 0, pipes := (List.range 8).filter (fun p => bitAt (leAt b 2 1) p), banks := leAt b 3 1,
    profile := leAt b 4 1, priority := leAt b 6 2, src := leAt b 8 2, index := (List.range 8).map (fun p => leAt b (16 + 2 * p) 2),
    program := bitsAt act 0 8, count := bitAt act 8, stat := bitsAt act 9 20, arg := bitsAt act 32 48, value := leAt b 48 80,
    mask := leAt b 128 80 }

def RuleItem.at (x : RuleItem) (p : Nat) : Nat := x.index.getD p 0

/-- Step 1 of R193. -/
def State.ruleItemStatic (s : State) (m : RuleMode) (b : Bytes) : Check :=
  let x := ruleItemOf m b
  let act := leAt b 32 16
  let prof := s.currentActions.profile x.profile
  let named (p : Nat) : Bool := x.pipes.contains p
  let uses := (m = .insert && x.atIndex) || m = .move || m = .deleteIndex
  let one := m = .move || m = .deleteIndex
  itemBad 0 ([(bitAt (leAt b 1 1) 0 && m ≠ .insert || 2 ≤ leAt b 1 1, 1), (x.pipes = [] || (one && x.pipes.length ≠ 1), 2),
    (if m = .move then x.banks ≠ 0 else x.banks = 0 || 4 ≤ x.banks, 3),
    (if m.keyed then 16 ≤ x.profile || !profileValid prof else x.profile ≠ 0, 4), (leAt b 5 1 ≠ 0, 5), (!m.keyed && x.priority ≠ 0, 6),
    (if m = .move then s.tcamSize ≤ x.src else x.src ≠ 0, 8), (leAt b 10 6 ≠ 0, 10),
    (if m = .insert then bitsAt act 29 3 ≠ 0 || act / 2 ^ 80 ≠ 0 || (s.currentActions.program x.program).isNone ||
        (x.count && 1048576 < x.stat + x.pipes.length) else act ≠ 0, 32),
    (if m.keyed then x.value &&& x.mask ≠ x.value else x.value ≠ 0, 48),
    (if m.keyed then x.mask / 2 ^ profileLen prof ≠ 0 else x.mask ≠ 0, 128), (leAt b 208 16 ≠ 0, 208)] ++
    (List.range 8).map (fun p => fld (if named p && uses then s.tcamSize ≤ x.at p else x.at p ≠ 0) (16 + 2 * p)))

/-- Indices of a pipe's entries with the item's key. -/
def State.ruleKeyed (s : State) (p : Nat) (x : RuleItem) : List (Nat × RuleEntry) :=
  (tsome (s.pipe p).rules).filter (fun e => e.2.profile == x.profile && e.2.priority == x.priority && e.2.value.toNat == x.value &&
    e.2.mask.toNat == x.mask)

/-- Steps 2 to 4 of R193. -/
def State.ruleItemUnits (s : State) (mb : Nat) (x : RuleItem) : Check :=
  let owner (p : Nat) : Nat := profileOwner (s.currentActions.profile (match x.mode with
    | .move => (match s.rule p x.src with | some e => e.profile | none => 16)
    | .deleteIndex => (match s.rule p (x.at p) with | some e => e.profile | none => 16)
    | _ => x.profile))
  let known (p : Nat) : Bool := match x.mode with
    | .move => (s.rule p x.src).isSome
    | .deleteIndex => (s.rule p (x.at p)).isSome
    | _ => true
  firstSome [
    failIf (x.pipes.any (fun p => s.pipeCount ≤ p)) 0x09 2,
    failIf (x.pipes.any (fun p => s.isFenced 2 p || s.isFenced 3 p)) 0x0A 2,
    failIf (mb ≠ 0 && x.pipes.any (fun p => known p && owner p ≠ mb - 1)) 0x03 4,
    failIf (mb ≠ 0 && x.mode = .insert && x.count && (List.range x.pipes.length).any (fun k => !(s.rangeOf (mb - 1) 12).has (x.stat + k)))
      0x03 32,
    failIf (s.ruleHeld && bitAt x.banks (bit (!s.ruleBank))) 0x08 0x0202]

/-- The rule number that EXISTS names. -/
def ruleExists (p i : Nat) : Nat × Nat := (0x07, 2 ^ 30 + ruleNumber p i)

/-- Step 5 of R193 in one pipe. -/
def State.ruleItemPlace (s : State) (x : RuleItem) (p : Nat) : Check :=
  let i := x.at p
  match x.mode with
  | .insert => failIf (x.atIndex && ((s.rule p i).isSome || !s.orderOk p i x.profile x.banks x.priority 0xFFFF)) 0x02 (16 + 2 * p)
  | .move => (match s.rule p x.src with
    | none => if (s.rule p i).isSome then some (0x02, 16 + 2 * p) else some (0x06, 0)
    | some e => if s.ruleMoving p x.src then some (0x10, 0) else failIf ((s.rule p i).isSome || !s.orderOk p i e.profile e.banks.toNat e.priority x.src) 0x02 (16 + 2 * p))
  | .join => (match s.ruleKeyed p x with
    | [] => some (0x06, 0)
    | [(j, e)] =>
      let new := x.banks &&& ((3 : Nat) ^^^ e.banks.toNat)
      failIf (new ≠ 0 && !s.orderOk p j e.profile new e.priority j) 0x02 3
    | l => (match l.find? (fun e => e.2.banks.toNat &&& x.banks != 0) with
      | some e => some (ruleExists p e.1)
      | none => none))
  | .deleteKey => failIf (!(s.ruleKeyed p x).any (fun e => e.2.banks.toNat &&& x.banks != 0)) 0x06 0
  | .deleteIndex => (match s.rule p i with
    | none => some (0x06, 0)
    | some e => if s.ruleMoving p i then some (0x10, 0) else failIf (e.banks.toNat &&& x.banks = 0) 0x06 0)

/-- The EXISTS checks of an insert: keys, then pairs. -/
def State.ruleItemTaken (s : State) (x : RuleItem) : Check :=
  if x.mode ≠ .insert then none
  else firstSome (
    x.pipes.map (fun p => ((s.ruleKeyed p x).find? (fun e => e.2.banks.toNat &&& x.banks != 0)).map (fun e => ruleExists p e.1)) ++
    (List.range x.pipes.length).map (fun k =>
      if x.count then (s.pairTaken (x.stat + k) none).map (fun h => (0x07, h.detail)) else none))

/-- Rule entries of a pipe whose profile a slice owns. -/
def State.rulesOwned (s : State) (p owner : Nat) : Nat :=
  ((tsome (s.pipe p).rules).filter (fun e => profileOwner (s.currentActions.profile e.2.profile) == owner &&
    !s.ruleTwin p e.1)).length

/-- Step 6 of R193. -/
def State.ruleItemShare (s : State) (x : RuleItem) : Check :=
  let o := profileOwner (s.currentActions.profile x.profile)
  failIf (x.mode = .insert && o < 128 && x.pipes.any (fun p => decide (tget (s.slice o).counts 0 (6 * 16 + p) < s.rulesOwned p o + 1))) 0x04 6

/-- The place of an insert in a pipe, with the moves that make room. -/
def State.rulePlan (s : State) (x : RuleItem) (p : Nat) : Option (Nat × List (Nat × Nat)) :=
  if x.atIndex then some (x.at p, []) else s.rulePlace p x.profile x.banks x.priority

/-- The entry of the k-th copy of an insert. -/
def RuleItem.entry (x : RuleItem) (k : Nat) : RuleEntry :=
  { banks := BitVec.ofNat 2 x.banks, profile := x.profile, priority := x.priority, gen := 0, value := BitVec.ofNat 640 x.value,
    mask := BitVec.ofNat 640 x.mask, program := x.program, count := x.count, stat := if x.count then x.stat + k else x.stat,
    arg := BitVec.ofNat 48 x.arg, parityOk := true }

/-- Apply an item in one pipe, the k-th of its mask; an insert's index. -/
def State.ruleApply (s : State) (x : RuleItem) (k p : Nat) : State × Nat :=
  match x.mode with
  | .insert => (match s.rulePlan x p with
    | none => (s, 0)
    | some (i, w) => ((w.foldl (fun (t : State) (m : Nat × Nat) => t.ruleMove p m.1 m.2) s).ruleInstall p i (x.entry k), i))
  | .move => (s.ruleMove p x.src (x.at p), 0)
  | .join => (match s.ruleKeyed p x with
    | (j, e) :: _ => ((s.setRule p j (some { e with banks := e.banks ||| BitVec.ofNat 2 x.banks })).ruleWrite p, 0)
    | [] => (s, 0))
  | .deleteKey => (match (s.ruleKeyed p x).find? (fun e => e.2.banks.toNat &&& x.banks != 0) with
    | some e => (s.ruleUnbank p e.1 x.banks, 0)
    | none => (s, 0))
  | .deleteIndex => (s.ruleUnbank p (x.at p) x.banks, 0)

/-- The steps of an item in the k-th pipe of its mask, when it moves entries. -/
def State.ruleSteps (s : State) (x : RuleItem) (k p : Nat) : List RuleStep :=
  let moved (l : List (Nat × Nat)) : List RuleStep := l.flatMap (fun m => [.copy p m.1 m.2, .drop p m.1 m.2])
  match x.mode with
  | .insert => (match s.rulePlan x p with
    | some (i, w) => moved w ++ [.write p i (x.entry k)]
    | none => [])
  | .move => moved [(x.src, x.at p)]
  | _ => []

/-- An item waits while another rule item is in progress, but for a delete or a move that the move in progress answers or does
not concern. -/
def State.ruleWaits (s : State) (x : RuleItem) : Bool :=
  s.te.ruleWork.isSome && (match x.mode with
    | .insert => true
    | .join => true
    | .move => !x.pipes.any (fun p => s.ruleMoving p x.src)
    | .deleteKey => x.pipes.any (fun p => (s.ruleKeyed p x).any (fun e => s.ruleMoving p e.1))
    | .deleteIndex => false)

/-- Apply an item that has passed its checks. With a pace, one that moves entries goes step by step (R194, R196). -/
def State.ruleTake (s : State) (mb : Nat) (x : RuleItem) (addr : Nat) : State :=
  let steps := (List.range x.pipes.length).flatMap (fun k => s.ruleSteps x k (x.pipes.getD k 0))
  let slow := s.fw.pace.isSome && steps.any (fun t => match t with | .copy _ _ _ => true | _ => false)
  let back (t : State) (p i : Nat) : State :=
    if x.mode = .insert && !x.atIndex && !(t.mbox mb).muted then t.dmaFor (mboxSlice mb) (addr + 16 + 2 * p) (leBytes 2 i) else t
  if slow then
    (x.pipes.foldl (fun (t : State) p => match s.rulePlan x p with | some (i, _) => back t p i | none => t)
      (s.setTe { s.te with ruleWork := some { mb := mb, steps := steps } })).ruleAdvance
  else (List.range x.pipes.length).foldl (fun (t : State) (k : Nat) =>
    let p := x.pipes.getD k 0
    let r := t.ruleApply x k p
    back r.1 p r.2) s

/-- One item of a RULE_INSERT or RULE_DELETE; the device writes the indices that it chose at an address. -/
def State.ruleItem (s : State) (mb : Nat) (insert : Bool) (addr : Nat) (b : Bytes) : ItemOut :=
  match ruleModeOf insert (leAt b 0 1) with
  | none => .inr (0x02, 0)
  | some m =>
    let x := ruleItemOf m b
    if (firstSome [s.ruleItemStatic m b, s.ruleItemUnits mb x]).isNone && s.ruleWaits x then .inr ruleWait
    else itemThen (firstSome ([s.ruleItemStatic m b, s.ruleItemUnits mb x] ++ x.pipes.map (s.ruleItemPlace x) ++
        [s.ruleItemTaken x, s.ruleItemShare x, failIf (m = .insert && x.pipes.any (fun p => (s.rulePlan x p).isNone)) 0x05 0])) <|
      .inl (s.ruleTake mb x addr)

def bodyRuleInsert : Body := fun s mb e buf =>
  andThen (entryCheck rowRuleInsert s mb e [] []) <|
    runBatch s mb e buf 74898 224 (fun s i b => s.ruleItem mb true (e.bufAddr + 64 + 224 * i) b)

def bodyRuleDelete : Body := fun s mb e buf =>
  andThen (entryCheck rowRuleDelete s mb e [] []) <|
    runBatch s mb e buf 74898 224 (fun s i b => s.ruleItem mb false (e.bufAddr + 64 + 224 * i) b)

def execRuleInsert (mb : Fin 129) (e : Entry) (buf : Option Bytes) (s : State) : Result := runCmd rowRuleInsert bodyRuleInsert mb e buf s
def execRuleDelete (mb : Fin 129) (e : Entry) (buf : Option Bytes) (s : State) : Result := runCmd rowRuleDelete bodyRuleDelete mb e buf s

/-! ### Batches in progress (R39, R42) -/

/-- An item of a batch opcode. -/
def batchItem (op mb : Nat) (e : Entry) : State → Nat → Bytes → ItemOut :=
  match op with
  | 0x0601 => emInsertItem mb e
  | 0x0602 => fun s _ b => s.emDelete mb 0 b
  | 0x0606 => fun s _ b => s.lpmAdd mb 0 b
  | 0x0607 => fun s _ b => s.lpmDelete mb 0 b
  | 0x0701 => fun s i b => s.ruleItem mb true (e.bufAddr + 64 + 224 * i) b
  | _ => fun s i b => s.ruleItem mb false (e.bufAddr + 64 + 224 * i) b

/-- The next item of the batch in execution on a mailbox is applied. -/
def State.batchNext (s : State) (mb : Nat) : State :=
  match (s.mbox mb).inExec with
  | none => s
  | some x =>
    match x.batch, opRow? x.opcode.toNat with
    | some (i, l), some r =>
      if s.compacting mb then s
      else if s.rulePending mb then
        let t := s.ruleAdvance
        if t.rulePending mb || !l.isEmpty then t else t.settle mb r (.ok t i 0)
      else if r.op = 0x0606 && !x.entry.indirect then
        s.settle mb r (match s.lpmAdd mb 16 x.entry.argBytes with | .inr c => .ofCheck c | .inl t => .ok t 1 0)
      else s.settle mb r (batchGo s mb i 1 l (batchItem r.op mb x.entry))
    | _, _ => s

/-! ### RULE_READ (R200) -/

/-- One part of an entry. -/
def RuleEntry.part (e : RuleEntry) (n : Nat) : BitVec 128 :=
  if n = 0 then resultOf [(16, 4, 2 ^ 31 + e.banks.toNat * 2 ^ 29 + e.profile * 2 ^ 25 + e.priority * 2 ^ 9 + e.gen.toNat * 2),
    (20, 12, e.program + bit e.count * 256 + e.stat * 512 + e.arg.toNat * 2 ^ 32)]
  else if n ≤ 5 then BitVec.ofNat 128 (bitsAt e.value.toNat (128 * (n - 1)) 128)
  else BitVec.ofNat 128 (bitsAt e.mask.toNat (128 * (n - 6)) 128)

def bodyRuleRead : Body := fun s mb e _ =>
  let n := e.f 16 0 17
  let p := n / 16384
  let i := n % 16384
  let part := e.f 24 0 4
  andThen (firstSome [
    entryCheck rowRuleRead s mb e [(16, 0, 17), (24, 0, 4)] [(12288 ≤ i, 16), (10 < part, 24)],
    failIf (s.pipeCount ≤ p) 0x09 16, failIf (s.isFenced 2 p || s.isFenced 3 p) 0x0A 16]) <|
    match s.rule p i with
    | none => .fail 0x06 0 0
    | some x => andThen (failIf (mb ≠ 0 && profileOwner (s.currentActions.profile x.profile) ≠ mb - 1) 0x03 16) <|
      andThen (failIf (s.ruleMoving p i) 0x10 0) (.ok s 0 (x.part part))

def execRuleRead (mb : Fin 129) (e : Entry) (s : State) : Result := runCmd rowRuleRead bodyRuleRead mb e none s

/-! ### The action image (R202, R203, Table 8-6) -/

/-- The nonzero words of a section. -/
def wordsOf (w : Nat) (b : Bytes) (off size n : Nat) : Tab (BitVec w) :=
  (List.range n).filterMap (fun i => let v := leAt b (off + i * size) size; if v = 0 then none else some (i, BitVec.ofNat w v))

/-- The bank that a load leaves: the named sections from the image, the others as they are. -/
def ActionBank.loaded (a : ActionBank) (mask : Nat) (b : Bytes) : ActionBank :=
  { profiles := if bitAt mask 1 then wordsOf 384 b 0x2040 48 16 else a.profiles,
    plans := if bitAt mask 2 then wordsOf 256 b 0x2340 32 64 else a.plans,
    portPlans := if bitAt mask 3 then (List.range 128).filterMap (fun k => let v := leAt b (0x2B40 + k) 1; if v = 0 then none else some (k, v))
      else a.portPlans,
    programs := if bitAt mask 4 then wordsOf 32 b 0x2BC0 4 256 else a.programs,
    instrs := if bitAt mask 5 then wordsOf 64 b 0x2FC0 8 8192 else a.instrs,
    templates := if bitAt mask 6 then (List.range 256).filterMap (fun i =>
        let t := slice b (0x12FC0 + 80 * i) 80; if allZero t then none else some (i, t)) else a.templates,
    sessions := if bitAt mask 7 then wordsOf 64 b 0x17FC0 8 16 else a.sessions }

/-- The descriptors that a load leaves. -/
def State.loadedDescs (s : State) (mask : Nat) (b : Bytes) : Tab EmTable :=
  if bitAt mask 0 then (wordsOf 256 b 0x40 32 256).map (fun p => (p.1, { desc := p.2 })) else s.tables.descs

def ownerBad (o : Nat) : Bool := 128 ≤ o && o ≠ 255

/-- The first failing field of a descriptor. DESIGN CHOICE (log entry 165): with VALID = 0 the segment, width and owner checks are
not made. -/
def descBad (a : ActionBank) (d : Nat) : Option Nat :=
  let n := descSegCount d
  firstBad ([fld (bitsAt d 240 5 ≠ 0) 240, fld (bitsAt d 160 20 ≠ 0) 160] ++
    (if !descValid d then [] else
      [(decide (3 ≤ descWidth d), 253), (ownerBad (descOwner d), 245), ((a.program (descMissProgram d)).isNone, 232), (n < 1 || 8 < n, 180),
       fld (widthKeyBits (descWidth d) < descKeyLen d) 180] ++
      (List.range 8).map (fun i =>
        fld (if i < n then 1536 < (descSeg d i).1 + (descSeg d i).2 else bitsAt d (140 - 20 * i) 20 ≠ 0) (140 - 20 * i))))

/-- The first failing field of a key profile. -/
def profileBad (p : Nat) : Option Nat :=
  let n := bitsAt p 370 5
  firstBad ((bitsAt p 336 34 ≠ 0, 336) ::
    (if !profileValid p then [] else
      [(ownerBad (profileOwner p), 375), (n < 1 || 16 < n || 640 < profileLen p, 370)] ++
      (List.range 16).map (fun i => fld (if i < n then 1535 < bitsAt p (325 - 21 * i) 11 + bitsAt p (315 - 21 * i) 10
        else bitsAt p (315 - 21 * i) 21 ≠ 0) (315 - 21 * i))))

/-- The first failing field of a lookup plan. -/
def planBad (descs : Tab EmTable) (a : ActionBank) (w : Nat) : Option Nat :=
  let valid (t : Nat) : Bool := descValid (tget descs { desc := 0 } t).desc.toNat
  firstBad ((bitsAt w 0 105 ≠ 0, 0) ::
    (if !bitAt w 255 then [] else
      (List.range 4).map (fun i => fld (bitAt w (251 + i) && !valid (bitsAt w (243 - 8 * i) 8)) (243 - 8 * i)) ++
      [fld (1524 < bitsAt w 205 11) 205] ++
      (List.range 2).map (fun j => fld (bitAt w (190 + j) && !profileValid (a.profile (bitsAt w (186 - 4 * j) 4))) (186 - 4 * j)) ++
      [fld (!(List.range 7).all (fun n => (planOrder w).contains n)) 161,
       fld (bitsAt w 251 4 = 0 && (a.program (bitsAt w 153 8)).isNone) 153]))

/-- The first failing field of a push template. -/
def templateBad (t : Bytes) : Option Nat :=
  let n := templateLen t
  let fix (o : Nat) : Bool := leAt t o 2 ≠ 0xFFFF && n < leAt t o 2 + 2
  let c := leAt t 66 1
  let ihl := leAt t c 1 % 16
  firstBad [(n < 1 || 64 < n, 512), (2 ≤ leAt t 65 1, 520), (leAt t 65 1 = 1 && (64 ≤ c || ihl < 5 || n < c + 4 * ihl), 528),
    (leAt t 67 1 ≠ 0, 536), (fix 68, 544), (fix 72, 576), (leAt t 76 4 ≠ 0, 608)]

/-- The first failing field of a mirror session. -/
def sessionBad (w : Nat) : Option Nat :=
  let n := bitsAt w 16 16
  firstBad ((33 ≤ w.log2 && w ≠ 0, 33) ::
    (if !bitAt w 32 then [] else [(127 < bitsAt w 0 8, 0), (7 < bitsAt w 8 8, 8), (n ≠ 0 && (n < 64 || 512 < n), 16)]))

def sessionValid (a : ActionBank) (n : Nat) : Bool := bitAt (tget a.sessions 0 n).toNat 32

/-- The condition is defined. -/
def condOk (c : Nat) : Bool :=
  c ≤ 0x36 || (0x40 ≤ c && c ≤ 0x52) || (0x60 ≤ c && c ≤ 0xAF) || c = 0xFF

/-- Bits of an instruction that its operands do not use are zero: `lo` and width of the unused fields. -/
def unusedZero (w : Nat) (l : List (Nat × Nat)) : Bool := l.all (fun f => bitsAt w f.1 f.2 == 0)

/-- The instruction at place `i` of a program of `n` is defined and its operands are in range. -/
def instrOk (a : ActionBank) (i n w : Nat) : Bool :=
  let hdr := bitsAt w 51 5
  match bitsAt w 56 8 with
  | 0x00 => unusedZero w [(0, 56)]
  | 0x01 => unusedZero w [(0, 43)] && condOk (bitsAt w 48 8) && 1 ≤ bitsAt w 43 4 && i + 1 + bitsAt w 43 4 ≤ n
  | 0x02 => unusedZero w [(32, 2)] && hdr ≤ 27
  | 0x03 => unusedZero w [(0, 25), (34, 0)] && hdr ≤ 27 && bitsAt w 25 6 + bitsAt w 37 5 + 1 ≤ 48
  | 0x04 => unusedZero w [(0, 43)] && hdr ≤ 24 && tget a.templates [] (bitsAt w 43 8) ≠ []
  | 0x05 => unusedZero w [(0, 48)] && hdr ≤ 23 && 1 ≤ bitsAt w 48 3 && bitsAt w 48 3 ≤ 4 && hdr + bitsAt w 48 3 ≤ 24
  | 0x06 => unusedZero w [(0, 51)] && hdr ≤ 27
  | 0x07 =>
    let k := bitsAt w 52 4
    let r := bitsAt w 20 8
    unusedZero w [(0, 20)] && 1 ≤ k && k ≤ 5 && (if k = 4 then 0x80 ≤ r else r = 0) &&
      (if bitAt w 51 then k ≠ 5 else destOk k (bitsAt w 28 20))
  | 0x08 => unusedZero w [(0, 29)]
  | 0x09 => unusedZero w [(0, 33)]
  | 0x0A => unusedZero w [(0, 32)]
  | 0x0B => unusedZero w [(0, 52)] && sessionValid a (bitsAt w 52 4)
  | 0x0C => unusedZero w [(32, 14)]
  | 0x0D => unusedZero w [(0, 44)] && (bitAt w 47 || bitsAt w 48 8 ≤ 128)
  | 0x0E => unusedZero w [(0, 56)]
  | 0x0F => unusedZero w [(0, 56)]
  | _ => false

/-- A directory entry and its program are valid (R203). -/
def programBad (a : ActionBank) (w : Nat) : Option Nat :=
  let start := bitsAt w 6 13
  let n := bitsAt w 0 6
  let code := (upFrom start n).map (fun i => (tget a.instrs 0 i).toNat)
  let ops (k : Nat) : List Nat := code.filter (fun c => bitsAt c 56 8 == k)
  let pushed := (ops 4).foldl (fun m c => m + templateLen (tget a.templates [] (bitsAt c 43 8))) 0
  let popped := (ops 5).foldl (fun m c => m + bitsAt c 48 3) 0
  firstBad ((bitsAt w 19 12 ≠ 0, 19) ::
    (if !bitAt w 31 then [] else
      [(n < 1 || 32 < n, 0), (8192 < start + n, 6), (!(List.range n).all (fun i => instrOk a i n (code.getD i 0)), 6),
       (4 < (ops 4).length || 96 < pushed || 4 < popped || 2 < (ops 11).length, 6)]))

/-- The first failing record of a sparse section. -/
def sectionBad {α : Type} (l : Tab α) (f : α → Option Nat) : Option (Nat × Nat) :=
  firstSome (l.map (fun p => (f p.2).map (fun o => (p.1, o))))

/-- The first failing record of the image that a load leaves. -/
def imageBad (descs : Tab EmTable) (a : ActionBank) : Option (Nat × Nat) :=
  firstSome [sectionBad descs (fun d => descBad a d.desc.toNat), sectionBad a.profiles (fun p => profileBad p.toNat),
    sectionBad a.plans (fun p => planBad descs a p.toNat), sectionBad a.portPlans (fun p => if 63 < p then some 0 else none),
    sectionBad a.programs (fun p => programBad a p.toNat), sectionBad a.templates templateBad,
    sectionBad a.sessions (fun w => sessionBad w.toNat)]

/-- The descriptor bits that R153 keeps while the table holds entries: all but MISS_PROGRAM and MISS_ARG. -/
def descFixed (d : Nat) : Nat × Nat := if descValid d then (bitsAt d 240 16, bitsAt d 0 184) else (0, 0)

/-- A change that R153 refuses. -/
def State.descsBusy (s : State) (new : Tab EmTable) : Bool :=
  (List.range 256).any (fun t => descFixed (s.emDesc t) != descFixed (tget new { desc := 0 } t).desc.toNat && !(s.entriesOf t).isEmpty)

/-- A change that R186 refuses. -/
def State.profilesBusy (s : State) (new : ActionBank) : Bool :=
  (List.range 16).any (fun i => s.currentActions.profile i != new.profile i &&
    s.pipes.any (fun p => (tsome p.2.rules).any (fun e => e.2.profile == i)))

/-- Install a loaded image: descriptors at once, sections 1–7 through a switch of every pipe. -/
def State.actionSwitch (s : State) (mb mask : Nat) (descs : Tab EmTable) (a : ActionBank) : CmdOut :=
  let s := { s with tables := { s.tables with descs := descs } }
  if mask / 2 = 0 then .done s
  else
    let c := s.ctl
    let c := if c.actBank then { c with actA := a } else { c with actB := a }
    let s := s.storeWritten (fun w => match w with
      | .instruction _ b _ | .template _ b _ | .plan _ b _ | .profile _ b _ | .session _ b _ => b != c.actBank
      | _ => false)
    .hold ({ s with ctl := { c with actBank := !c.actBank, actMb := some mb } }.pushSwitch s.livePipes .action).switchSettle

def bodyActionProgramLoad : Body := fun s mb e buf =>
  let mask := e.f 32 0 8
  andThen (firstSome [
    entryCheck rowActionProgramLoad s mb e [(32, 0, 8)] [(e.indirect && e.bufLen ≠ 98368, 24)],
    failIf ((s.ctl.actMb.isSome || s.flying 3 (!s.ctl.actBank) != 0) && mask / 2 ≠ 0) 0x08 0x0704]) <|
    match e.readBuf buf with
    | none => bufFault
    | some b =>
      let descs := s.loadedDescs mask b
      let a := s.currentActions.loaded mask b
      match (if allZero (b.take 64) then imageBad descs a else some (0, 0)) with
      | some x => s.rejectImage rowActionProgramLoad mb x.1 x.2
      | none => andThen (firstSome [failIf (s.descsBusy descs) 0x08 0x0601, failIf (s.profilesBusy a) 0x08 0x0701])
          (s.actionSwitch mb mask descs a)

def execActionProgramLoad (mb : Fin 129) (e : Entry) (buf : Option Bytes) (s : State) : Result :=
  runCmd rowActionProgramLoad bodyActionProgramLoad mb e buf s

/-! ### The isolation matrix (R211–R214) -/

/-- A row of Table 8-9. -/
def matrixRowOf (w : Nat) : MatrixRow :=
  { ports := BitVec.ofNat 128 w, dest := BitVec.ofNat 128 (bitsAt w 128 128), host := bitAt w 256, recirc := bitAt w 258,
    fabric := BitVec.ofNat 4 (bitsAt w 259 4) }

def matrixBad (w : Nat) : Option Nat := firstBad [(bitAt w 257, 257), (bitAt w 263, 263), (w / 2 ^ 264 ≠ 0, 264)]

/-- Write a matrix into the inactive copy, make it current and tell the pipes. -/
def State.matrixSwitch (s : State) (m : Tab MatrixRow) : State :=
  let c := s.ctl
  let c := if c.matCopy then { c with matA := m } else { c with matB := m }
  let s := s.storeWritten (fun w => match w with | .matrixRow _ b _ => b != c.matCopy | _ => false)
  { s with ctl := { c with matCopy := !c.matCopy } }.pushSwitch s.livePipes .matrix

/-- The matrix that new loads have made current. -/
def State.matrix (s : State) : Tab MatrixRow := if s.ctl.matCopy then s.ctl.matB else s.ctl.matA

def bodyIsolationMatrixSet : Body := fun s mb e buf =>
  andThen (entryCheck rowIsolationMatrixSet s mb e [] [(e.indirect && e.bufLen ≠ 8256, 24)]) <|
    match e.readBuf buf with
    | none => bufFault
    | some b =>
      let rows := (List.range 129).map (fun i => leAt b (64 * i) 64)
      match firstFailing 0 (rows.map matrixBad) with
      | some x => s.rejectImage rowIsolationMatrixSet mb x.1 x.2
      | none =>
        let m := (List.range 129).foldl (fun (t : Tab MatrixRow) (i : Nat) => tset t MatrixRow.zero i (matrixRowOf (rows.getD i 0))) []
        .hold ({ s.matrixSwitch m with ctl := { (s.matrixSwitch m).ctl with matMb := some mb } }).switchSettle

def execIsolationMatrixSet (mb : Fin 129) (e : Entry) (buf : Option Bytes) (s : State) : Result :=
  runCmd rowIsolationMatrixSet bodyIsolationMatrixSet mb e buf s

/-! ### Recirculation (R217) -/

def bodyRecircConfig : Body := fun s mb e _ =>
  let m := e.u8 16
  let l := (List.range 8).filter (fun p => bitAt m p)
  andThen (firstSome [
    entryCheck rowRecircConfig s mb e [(16, 0, 8), (17, 0, 8), (18, 0, 8), (20, 0, 32)]
      [(1 < e.u8 17, 17), (e.u8 18 < 1 || 8 < e.u8 18, 18), (e.u32 20 < 16 || 4096 < e.u32 20, 20)],
    failIf (l.any (fun p => s.pipeCount ≤ p)) 0x09 16, failIf (l.any (fun p => s.isFenced 2 p)) 0x0A 16]) <|
    .done (forAll l s (fun p s => s.modPipe p (fun x => { x with
      recirc := { enable := e.u8 17 = 1, share := e.u8 18, limit := e.u32 20 } })))

def execRecircConfig (mb : Fin 129) (e : Entry) (s : State) : Result := runCmd rowRecircConfig bodyRecircConfig mb e none s

end Sys2Proof.Machine
end

