-- ==== Sys2Proof/Machine/Sched.lean ====
section
/-! DEFINITION. Chapter 10: nodes, shapers, weights, policers, class settings, and the choices of frames. -/
namespace Sys2Proof.Machine
open Sys2Proof

/-! ### Node identifiers (R261) -/

def nodeLevel (n : Nat) : Nat := n / 2 ^ 29
def nodeIndex (n : Nat) : Nat := n % 2 ^ 20

/-- Nodes of a level (Table 10-2). -/
def levelCount (l : Nat) : Nat :=
  match l with | 0 => 128 | 1 => 4096 | 2 => 16384 | 3 => 131072 | 4 => 1048576 | 7 => 262144 | _ => 0

/-- A NODE field is no identifier of one of some levels. -/
def schedNodeBad (n : Nat) (levels : List Nat) : Bool :=
  bitsAt n 20 9 != 0 || !levels.contains (nodeLevel n) || decide (levelCount (nodeLevel n) ≤ nodeIndex n)

def nodeKeyOf (n : Nat) : Nat := nodeKey (nodeLevel n) (nodeIndex n)

/-- The checks of a NODE field at offset 16: its port's unit, its slice, its existence. -/
def State.nodeCheck (s : State) (mb n : Nat) (managers : Nat) : Check :=
  let l := nodeLevel n
  let k := nodeKeyOf n
  firstSome [failIf (l = 0 && s.portCount ≤ nodeIndex n) 0x09 16,
    failIf (mb ≠ 0 && (l < managers || ((s.node k).isSome && s.nodeOwner k ≠ some (mb - 1)))) 0x03 16,
    failIf (s.node k).isNone 0x06 0]

/-- Bring up to date the port at the root of a node. -/
def State.refreshRoot (s : State) (k : Nat) : State :=
  match s.rootPort k with | some p => s.refreshSched p | none => s

/-! ### NODE_CONFIG (R264, R265) -/

/-- Nodes of a level that belong to a slice. -/
def State.nodesOf (s : State) (level slc : Nat) : Nat :=
  ((tsome s.sw.nodes).filter (fun p => keyLevel p.1 == level && s.nodeOwner p.1 == some slc)).length

/-- The values that step 1 of R265 refuses. -/
def nodeConfigBad (e : Entry) : List (Bool × Nat) :=
  let op := e.u8 16
  let l := e.u8 17
  let names := op < 2 && 1 ≤ l && l ≤ 3
  [(4 < op, 16), (l < 1 || 4 < l || (op = 1 && l = 4), 17),
   (if names then levelCount (l - 1) ≤ e.u32 24 else e.u32 24 ≠ 0, 24),
   (if op = 0 && l = 1 then 127 < e.u8 28 else e.u8 28 ≠ 0, 28),
   (if op = 0 then 3 < e.u8 29 else e.u8 29 ≠ 0, 29),
   ((op = 0) == (e.u16 30 = 0), 30)]

/-- A class queue with the thresholds of R235 and the spill settings of R241. -/
def State.newQueue (s : State) : ClassQueue := { ClassQueue.reset with spillOn := s.sw.spillOn, refill := s.sw.refill }

/-- A new node: attached, its shaper unlimited. -/
def State.newNode (s : State) (e : Entry) (parent : Nat) : Node :=
  let b := { Bucket.zero with last := s.now }
  { Node.reset with parent := parent, owner := e.u8 28, prio := e.u8 29, weight := e.u16 30, cir := b, pir := b, queue := s.newQueue }

/-- The operation of a NODE_CONFIG that passed its checks. -/
def State.nodeApply (s : State) (e : Entry) (k parent : Nat) : State :=
  let root := s.rootPort k
  let s := match e.u8 16, s.node k with
    | 0, _ => s.setNode k (some (s.newNode e parent))
    | 1, some n => s.setNode k (some { n with parent := parent, set := none, eligible := false })
    | 2, some n => s.setNode k (some { n with attached := false })
    | 3, some n => s.setNode k (some { n with attached := true })
    | 4, some _ =>
      let s := s.setNode k none
      if keyLevel k = 4 then s.probesGone (fun t => t == ProbeTarget.queue (keyIndex k)) else s
    | _, _ => s
  let s := match root with | some p => s.refreshSched p | none => s
  s.refreshRoot k

def bodyNodeConfig : Body := fun s mb e _ =>
  let op := e.u8 16
  let l := e.u8 17
  let i := e.u32 20
  let k := nodeKey l i
  let parent := if l = 4 then i / 8 else e.u32 24
  let pk := nodeKey (l - 1) parent
  let poff := if l = 4 then 20 else 24
  let places := op < 2
  let mine (j : Nat) : Bool := s.nodeOwner j == some (mb - 1)
  let within (m j : Nat) : Bool := decide (1 ≤ l) && decide (l ≤ 4) && decide (j < levelCount m)
  let exists_ := within l i && (s.node k).isSome
  let found := within (l - 1) parent && (s.node pk).isSome
  let owner := if l = 1 then some (e.u8 28) else s.nodeOwner pk
  let comp := l + 5
  andThen (firstSome [
    entryCheck rowNodeConfig s mb e [(16, 0, 8), (17, 0, 8), (20, 0, 32), (24, 0, 32), (28, 0, 8), (29, 0, 8), (30, 0, 16)]
      [(1 ≤ l && l ≤ 4 && levelCount l ≤ i, 20)],
    failIf (places && l = 1 && parent < 128 && s.portCount ≤ parent) 0x09 24,
    failIf (mb ≠ 0 && l = 1) 0x03 17,
    failIf (mb ≠ 0 && op ≠ 0 && exists_ && !mine k) 0x03 20,
    failIf (mb ≠ 0 && places && found && !mine pk) 0x03 poff,
    (match leastOff (((nodeConfigBad e).filter (·.1)).map (·.2)) with | some off => some (0x02, off) | none => none),
    failIf ((op ≠ 0 && !exists_) || (places && !found)) 0x06 0,
    failIf (op = 0 && exists_) 0x07 i,
    failIf (places && !(match s.rootPort pk with | some p => (s.port p).cfg.subscriber | none => false)) 0x08 0x0403,
    failIf ((op = 4 && s.children k != []) || ((op = 2 || op = 4) && s.active 5 k)) 0x08 0x0901,
    failIf (op = 4 && l = 4 && s.sw.groups.any (fun g => g.2.any (fun m => m.kind == 2 && m.queue == i))) 0x08 0x0803,
    failIf (op = 1 && (s.rootPort pk ≠ s.rootPort k || (l ≠ 1 && s.nodeOwner pk ≠ s.nodeOwner k))) 0x02 24,
    (match owner with
     | some o => (match (if op = 0 && l ≠ 1 then s.share o comp 0 else none) with
        | some m => failIf (m ≤ s.nodesOf l o) 0x04 comp
        | none => none)
     | none => none)]) <|
    .done (s.nodeApply e k parent)

def execNodeConfig (mb : Fin 129) (e : Entry) (s : State) : Result := runCmd rowNodeConfig bodyNodeConfig mb e none s

/-! ### SHAPER_SET (R274) -/

def shaperBad (e : Entry) : List (Bool × Nat) :=
  let n := e.u32 16
  let adj := signed 8 (e.u8 21)
  let cir := e.u32 24
  let pir := e.u32 32
  let size (r z : Nat) : Bool := if r = 0 then z != 0 else decide (z < 1 || 16777216 < z)
  [fld (schedNodeBad n [0, 1, 2, 3, 4]) 16, fld (1 < e.u8 20) 20, fld (adj < -64 || (nodeLevel n ≠ 0 && adj ≠ 0)) 21,
   fld (800000000 < cir || (pir ≠ 0 && pir < cir) || (nodeLevel n = 0 && cir ≠ 0)) 24, fld (size cir (e.u32 28)) 28,
   fld (800000000 < pir) 32, fld (size pir (e.u32 36)) 36]

/-- A shaper's bucket with its new settings, full or at zero. -/
def Bucket.reset (rate size now : Nat) (zero : Bool) : Bucket :=
  if zero then { Bucket.full rate size now with tokens := 0 } else Bucket.full rate size now

def bodyShaperSet : Body := fun s mb e _ =>
  let n := e.u32 16
  let k := nodeKeyOf n
  andThen (firstSome [
    entryCheck rowShaperSet s mb e [(16, 0, 32), (20, 0, 8), (21, 0, 8), (24, 0, 32), (28, 0, 32), (32, 0, 32), (36, 0, 32)]
      (shaperBad e), s.nodeCheck mb n 2]) <|
    match s.node k with
    | none => .done s
    | some x =>
      let zero := e.u8 20 = 1
      let x := { x with cir := Bucket.reset (e.u32 24) (e.u32 28) s.now zero, pir := Bucket.reset (e.u32 32) (e.u32 36) s.now zero,
                        adjust := if nodeLevel n = 0 then signed 8 (e.u8 21) else x.adjust }
      .done ((s.setNode k (some x)).refreshRoot k)

def execShaperSet (mb : Fin 129) (e : Entry) (s : State) : Result := runCmd rowShaperSet bodyShaperSet mb e none s

/-! ### WFQ_WEIGHT_SET (R271) -/

def bodyWfqWeightSet : Body := fun s mb e _ =>
  let n := e.u32 16
  let k := nodeKeyOf n
  let g := e.u8 20
  andThen (firstSome [
    entryCheck rowWfqWeightSet s mb e [(16, 0, 32), (20, 0, 8), (22, 0, 16)]
      [(schedNodeBad n [1, 2, 3, 4], 16), (3 < g, 20), (e.u16 22 = 0, 22)], s.nodeCheck mb n 2]) <|
    let s := s.refreshRoot k
    match s.node k with
    | none => .done s
    | some x =>
      let y := { x with weight := e.u16 22, prio := g }
      let y := if g ≠ x.prio && x.set.isSome then
          { y with set := some y.serviceSet, start := s.vtime (x.parentKey k) y.serviceSet, lag := 0 } else y
      .done ((s.setNode k (some y)).refreshRoot k)

def execWfqWeightSet (mb : Fin 129) (e : Entry) (s : State) : Result := runCmd rowWfqWeightSet bodyWfqWeightSet mb e none s

/-! ### POLICER_SET (R280) -/

def policerBad (e : Entry) : List (Bool × Nat) :=
  let m := e.u8 20
  let cir := e.u32 24
  let cbs := e.u32 28
  let pir := e.u32 32
  let pbs := e.u32 36
  let top := 800000000
  let big := 16777216
  [fld (262143 < e.u32 16) 16, fld (3 < m) 20, fld (7 < e.u8 21 || (m = 0 && e.u8 21 ≠ 0)) 21,
   fld (top < cir || (if m = 0 then decide (cir ≠ 0) else decide (m < 3) && cir == 0)) 24,
   fld (big < cbs || (if m = 0 then decide (cbs ≠ 0) else if m < 3 then cbs == 0 else (cir == 0) != (cbs == 0))) 28,
   fld (top < pir || (if m < 2 then decide (pir ≠ 0) else decide (m = 2) && decide (pir < cir))) 32,
   fld (big < pbs || (if m = 0 then decide (pbs ≠ 0) else if m = 1 then false else if m = 2 then pbs == 0
      else (pir == 0) != (pbs == 0))) 36]

/-- A policer with the settings of the command, every bucket full and its counts kept. -/
def Policer.set (p : Policer) (e : Entry) (now : Nat) : Policer :=
  let m := e.u8 20
  let second : Bucket :=
    if m = 1 then { Bucket.zero with size := e.u32 36, tokens := (e.u32 36 * 65536 : Nat), last := now }
    else Bucket.full (e.u32 32) (e.u32 36) now
  { p with mode := m, flags := BitVec.ofNat 8 (e.u8 21), cBucket := Bucket.full (e.u32 24) (e.u32 28) now, eBucket := second }

def State.policer (s : State) (n : Nat) : Policer := tget s.sw.policers Policer.reset n

def bodyPolicerSet : Body := fun s mb e _ =>
  let n := e.u32 16
  andThen (firstSome [
    entryCheck rowPolicerSet s mb e [(16, 0, 32), (20, 0, 8), (21, 0, 8), (24, 0, 32), (28, 0, 32), (32, 0, 32), (36, 0, 32)]
      (policerBad e), failIf (!s.inShare mb 13 n) 0x03 16]) <|
    .done { s with sw := { s.sw with policers := tset s.sw.policers Policer.reset n ((s.policer n).set e s.now) } }

def execPolicerSet (mb : Fin 129) (e : Entry) (s : State) : Result := runCmd rowPolicerSet bodyPolicerSet mb e none s

/-! ### CLASS_SCHED_SET (R259) -/

def classSchedBad (e : Entry) : List (Bool × Nat) :=
  let m := e.u8 18
  let r := e.u32 24
  let b := e.u32 28
  [(127 < e.u8 16, 16), (7 < e.u8 17, 17), (1 < m, 18), (if m = 0 then e.u16 20 = 0 else e.u16 20 ≠ 0, 20), (800000000 < r, 24),
   (if r = 0 then b ≠ 0 else b < 1 || 16777216 < b, 28)]

def bodyClassSchedSet : Body := fun s mb e _ =>
  let k := e.u8 16
  let c := e.u8 17
  let wfq : Bool := e.u8 18 == 0
  andThen (firstSome [
    entryCheck rowClassSchedSet s mb e [(16, 0, 8), (17, 0, 8), (18, 0, 8), (20, 0, 16), (24, 0, 32), (28, 0, 32)] (classSchedBad e),
    s.portUnit k, s.noPort k]) <|
    let p := s.port k
    let x := p.cls c
    let y := { x with wfq := wfq, weight := if wfq then e.u16 20 else 1, bucket := Bucket.full (e.u32 24) (e.u32 28) s.now,
                      active := x.active && x.wfq == wfq }
    .done ((s.setPort k (p.setCls c y)).refreshClasses k)

def execClassSchedSet (mb : Fin 129) (e : Entry) (s : State) : Result := runCmd rowClassSchedSet bodyClassSchedSet mb e none s

/-! ### SCHED_READ (R281) -/

/-- Parts of a level. -/
def partCount (l : Nat) : Nat := if l = 4 then 4 else if l = 7 then 3 else 2

/-- Part 0 of a node. PRIO_GROUP and WEIGHT of a port are not stated: a free value. -/
def State.readNode0 (s : State) (k : Nat) (n : Node) : CmdOut :=
  let l := keyLevel k
  let d := s.draw
  let port := s.rootPort k
  let held : Bool := decide (l = 4) && (match port with | some p => (s.port p).paused (keyIndex k % 8) s.now | none => false)
  let flags := bit n.attached + bit (s.active 5 k) * 2 + bit (s.eligibleNow k) * 4 + bit n.committed * 8 + bit held * 16 +
    bit (decide (l = 4) && s.refillWait (keyIndex k)) * 32 + bit (!n.pir.positive) * 64
  let prio := if l = 0 then d.1.toNat % 256 else n.prio
  let weight := if l = 0 then d.1.toNat / 256 % 65536 else n.weight
  let owner := if l = 0 then 0xFF else (s.nodeOwner k).getD 0xFF
  .ok (if l = 0 then d.2 else s) 0 (resultOf [(16, 4, if l = 0 then 0 else n.parent), (20, 1, prio), (21, 1, flags), (22, 2, weight),
    (24, 4, (s.children k).length), (28, 1, owner)])

/-- Part 1 of a node. The tag of an inactive node is discarded: what is read is a free value. -/
def State.readNode1 (s : State) (n : Node) : CmdOut :=
  let d := s.draw
  let tag := if n.set.isNone then d.1.toNat % 2 ^ 40 else if n.eligible then n.start.toNat else n.lag.toNat
  .ok (if n.set.isNone then d.2 else s) 0 (resultOf [(16, 4, n.pir.whole), (20, 4, n.cir.whole), (24, 5, tag)])

/-- Parts 2 and 3 of a class queue. -/
def State.readQueue (s : State) (x : ClassQueue) (part : Nat) : BitVec 128 :=
  if part = 2 then resultOf [(16, 4, s.nearCells x), (20, 4, x.blocks.length), (24, 4, x.near.length + x.far.length)]
  else resultOf [(16, 8, x.dropped.toNat), (24, 8, x.sent.toNat)]

/-- The parts of a policer. -/
def Policer.read (p : Policer) (now part : Nat) : BitVec 128 :=
  let r := p.refilled now
  match part with
  | 0 => resultOf [(16, 1, p.mode), (17, 1, p.flags.toNat), (24, 4, r.cBucket.whole), (28, 4, r.eBucket.whole)]
  | 1 => resultOf [(16, 8, p.green.toNat), (24, 8, p.yellow.toNat)]
  | _ => resultOf [(16, 8, p.red.toNat), (24, 8, p.trueUps.toNat)]

def bodySchedRead : Body := fun s mb e _ =>
  let n := e.u32 16
  let l := nodeLevel n
  let part := e.u8 20
  let k := nodeKeyOf n
  andThen (firstSome [
    entryCheck rowSchedRead s mb e [(16, 0, 32), (20, 0, 8)]
      [(schedNodeBad n [0, 1, 2, 3, 4, 7], 16), (!schedNodeBad n [0, 1, 2, 3, 4, 7] && partCount l ≤ part, 20)],
    if l = 7 then failIf (!s.inShare mb 13 (nodeIndex n)) 0x03 16 else s.nodeCheck mb n 1]) <|
    if l = 7 then
      let s := s.policerRead (nodeIndex n)
      .ok s 0 ((s.policer (nodeIndex n)).read s.now part)
    else
      let s := match s.rootPort k with | some p => s.nodesRead p | none => s
      let t := s.refreshRoot k
      match t.node k with
      | none => .done s
      | some x => match part with
        | 0 => t.readNode0 k x
        | 1 => t.readNode1 x
        | _ => .ok s 0 (t.readQueue x.queue part)

def execSchedRead (mb : Fin 129) (e : Entry) (s : State) : Result := runCmd rowSchedRead bodySchedRead mb e none s

/-! ### Choice of a frame (R258, R267) -/

/-- Frames of a class that wait for a port, one left out. -/
def State.classHolds (s : State) (k c f : Nat) : Bool := (s.classFrames k c).any (· != f)

/-- The crossbar output of a plain port chooses its next frame and charges it. -/
def State.plainSelect (s : State) (k : Nat) : State :=
  let p := s.port k
  if p.cfg.width = 0 || p.cfg.subscriber || p.chosen.isSome then s
  else
    let s := s.refreshClasses k
    match s.chooseClass k with
    | none => s
    | some c =>
      match s.classHead k c with
      | none => s
      | some (q, f) =>
        let len := match s.frame f with | some x => x.bytes.length | none => 0
        let n := s.chargedLength k len
        let tag := ((s.port k).cls c).start
        let s := if ((s.port k).cls c).wfq then s.modPort k (fun p => { p with classTime := tag }) else s
        let s := s.chargePlain k c len
        let more := s.classHolds k c f
        let s := s.modPort k (fun p =>
          let x := p.cls c
          let x := if more then { x with start := x.start + cost n x.weight } else { x with active := false, eligible := false }
          { (p.setCls c x) with chosen := some (q, f) })
        s.rotatePast k c q

def execPlainClassSelect (port : Fin 128) (s : State) : Result := .next (s.plainSelect port.val)

/-- The frame at the head of a class queue's near part leaves it. -/
def State.popNear (s : State) (q : Nat) : State :=
  match s.classQueue q with
  | some x => s.setClassQueue q { x with near := x.near.tail }
  | none => s

/-- A selected frame moves to the port's staging; one read with an uncorrectable codeword is dropped there (R230), and one whose
descriptor is lost is gone. -/
def State.stageNear (s : State) (k q f : Nat) (x : Frame) : State :=
  let l := s.descriptorLost f 8
  let d := if l.1 then l else l.2.dataRead swBlock .cellData 1
  let s := d.2
  if l.1 then s
  else if x.corrupt || d.1 then (s.deref f).queueDrop q 10 x
  else s.modPort k (fun p => { p with
    staging := p.staging ++ [{ TxFrame.ofFrame x f (q % 8) (p.cfg.limit x.bytes) x.cells.length (some q) with complete := true, cut := false }] })

/-- The hierarchy of a served subscriber-mode port selects a frame. -/
def State.subscriberSelect (s : State) (k : Nat) : State :=
  let p := s.port k
  let s := (s.nodesRead k).refreshPort k
  let open_ : Bool := match s.node (nodeKey 0 k) with | some n => n.pir.positive | none => false
  if p.cfg.width = 0 || !p.cfg.subscriber || p.stagingSize ≤ p.staged || !open_ then s
  else
    let path := s.descend 4 (nodeKey 0 k)
    match path.getLast? with
    | none => s
    | some leaf =>
      let q := keyIndex leaf
      match (if keyLevel leaf = 4 then (s.classQueue q).bind (fun x => x.near.head?) else none) with
      | none => s
      | some f =>
        match s.frame f with
        | none => s
        | some x =>
          let n := s.chargedLength k x.bytes.length
          let committed : Bool := match s.node leaf with | some y => y.committed | none => false
          let s := forAll path s (fun j s => s.selectNode j)
          let s := s.popNear q
          let s := forAll (nodeKey 0 k :: path) s (fun j s => s.chargeNode j n)
          let s := forAll path s (fun j s => s.serveNode j n)
          let s := (s.schedCount 0).schedCount (if committed then 1 else 2)
          let s := if s.refillWait q then s.schedCount 3 else s
          ((s.stageNear k q f x).perfEvent swBlock 0x0104 1).refreshPort k

def execSubscriberSelect (port : Fin 128) (s : State) : Result := .next (s.subscriberSelect port.val).gearCheck

/-- A bucket refills: its node, and the nodes above it, are brought up to date. -/
def execShaperRefill (level : Fin 5) (index : Fin 1048576) (s : State) : Result :=
  .next (s.refreshRoot (nodeKey level.val index.val))

end Sys2Proof.Machine
end

