-- ==== Sys2Proof/Machine/Slices.lean ====
section
/-! DEFINITION. The commands of chapter 12: slices and their shares, ring pairs and the vector map. -/
namespace Sys2Proof.Machine
open Sys2Proof

/-! ### SLICE_CREATE (R313) -/

/-- A new slice: an empty share vector, a row of zeros, and the generation after the last one that the number held. -/
def State.sliceNew (s : State) (n pasid : Nat) (en : Bool) : State :=
  let x := s.slice n
  s.setSlice n { Slice.reset with
    state := .active, gen := nextGen x.gen, pasid := BitVec.ofNat 20 pasid, pasidEn := en, released := x.released }

def bodySliceCreate : Body := fun s mb e _ =>
  let n := e.u8 16
  andThen (firstSome [
    entryCheck rowSliceCreate s mb e [(16, 0, 8), (17, 0, 1), (20, 0, 20)] [(127 < n, 16)],
    failIf ((s.slice n).state ≠ .none) 0x07 n]) <|
    let t := s.sliceNew n (e.f 20 0 20) (e.bit 17 0)
    if tget t.matrix MatrixRow.zero n = MatrixRow.zero then .ok t 0 (resultOf [(16, 2, (t.slice n).gen.toNat)])
    else
      let t := t.matrixSwitch (tdel t.matrix n)
      .hold ({ t with ctl := { t.ctl with matMb := some mb } }).switchSettle

def execSliceCreate (mb : Fin 129) (e : Entry) (s : State) : Result := runCmd rowSliceCreate bodySliceCreate mb e none s

/-! ### Objects of the range components (R315) -/

/-- The objects of a range component that are in use in the device. -/
def State.objectsUsed (s : State) (c : Nat) : List Nat :=
  match c with
  | 10 => s.tables.routes.map (·.vrf)
  | 11 => (tkeys s.tables.results).filter (fun i => (tget s.tables.results 0 i).getLsbD 63)
  | 12 => (tkeys s.tables.pairs).filter (fun i => (s.pair i).holder.isSome)
  | 13 => (tkeys s.sw.policers).filter (fun i => (s.policer i).mode ≠ 0)
  | 14 => (tkeys s.sw.groups).filter (fun i => !(s.group i).isEmpty)
  | 15 => s.sw.voqs.map (·.2.ecn) ++ s.sw.mcastVoqs.map (·.2.ecn) ++
      ((tsome s.sw.nodes).filter (fun p => keyLevel p.1 == 4)).map (·.2.queue.ecn)
  | 16 => (tkeys s.rings).filter (fun g => (s.ring g).tx.state ≠ .disabled || (s.ring g).rx.state ≠ .disabled)
  | 17 => s.host.maps.map (·.vector) ++ (s.mboxes.filter (fun m => m.2.enable)).map (·.2.vector.toNat) ++
      s.tables.learn.map (·.2.vector)
  | _ => []

/-- Those of a slice's range, each once. -/
def State.objectsHeld (s : State) (n c : Nat) : List Nat := ((s.objectsUsed c).filter (fun i => (s.rangeOf n c).has i)).eraseDups

/-! ### SLICE_RESIZE (R312, R314, R315) -/

/-- Components counted per pipe. -/
def perPipe (c : Nat) : Bool := c == 1 || c == 6

/-- Ends of the ranges of Table 12-3. -/
def rangeLimit (c : Nat) : Nat :=
  match c with
  | 10 => 4096
  | 11 => 65536
  | 12 => 1048576
  | 13 => 262144
  | 14 => 16384
  | 15 => 64
  | 16 => 4096
  | _ => 2048

def resizeBad (e : Entry) : List (Bool × Nat) :=
  let c := e.u8 17
  let v := e.u32 20
  let n := e.u32 24
  [fld (127 < e.u8 16) 16, fld (17 < c) 17, fld (if perPipe c then 7 < e.u8 18 && e.u8 18 ≠ 0xFF else e.u8 18 ≠ 0) 18] ++
  (if c = 0 then [fld (v ≠ 0) 20, fld (n ≠ 0) 24] else [fld (e.f 32 0 128 ≠ 0) 32]) ++
  (if 1 ≤ c && c ≤ 9 then [fld (n ≠ 0) 24] else []) ++
  (if 10 ≤ c && c ≤ 17 then
    [fld (rangeLimit c ≤ v || (c = 16 && n ≠ 0 && v < 256)) 20, fld (rangeLimit c < v + n || (c = 16 && 1024 < n)) 24] else [])

/-- The pipes that the command names; pipe 0 stands for a component that is not per pipe. -/
def State.resizePipes (s : State) (e : Entry) : List Nat :=
  if perPipe (e.u8 17) then (if e.u8 18 = 0xFF then s.presentPipes else [e.u8 18]) else [0]

/-- The range of the command; an empty one has no first index. -/
def resizeRange (e : Entry) : Range := if e.u32 24 = 0 then { first := 0, count := 0 } else { first := e.u32 20, count := e.u32 24 }

/-- The slice with its component changed. -/
def State.resized (s : State) (e : Entry) : Slice :=
  let x := s.slice (e.u8 16)
  let c := e.u8 17
  if c = 0 then { x with ports := BitVec.ofNat 128 (e.f 32 0 128) }
  else if c ≤ 9 then { x with counts := (s.resizePipes e).foldl (fun t p => tset t 0 (c * 16 + p) (e.u32 20)) x.counts }
  else { x with ranges := tset x.ranges { first := 0, count := 0 } c (resizeRange e) }

/-- Two ranges have an index in common. -/
def Range.meets (a b : Range) : Bool := a.count ≠ 0 && b.count ≠ 0 && a.first < b.first + b.count && b.first < a.first + a.count

/-- TOTAL of the store that a component is a share of. -/
def State.shareTotal (s : State) (c p : Nat) : Nat := if c = 1 then (s.store p).total else if c = 2 then (s.store 8).total else s.farTotal

/-- The new value breaks a pool rule of R312. -/
def State.poolBroken (s : State) (e : Entry) : Bool :=
  let n := e.u8 16
  let c := e.u8 17
  let others := (tkeys s.slices).filter (· != n)
  if c = 0 then others.any (fun m => (s.slice m).ports &&& BitVec.ofNat 128 (e.f 32 0 128) != 0)
  else if c ≤ 3 then (s.resizePipes e).any (fun p =>
    decide (s.shareTotal c p < s.shareSum c p - tget (s.slice n).counts 0 (c * 16 + p) + e.u32 20))
  else if 10 ≤ c then others.any (fun m => (s.rangeOf m c).meets (resizeRange e))
  else false

/-- The lowest object in use that a shrunk range would leave out. -/
def State.leftOut (s : State) (e : Entry) : Option Nat :=
  leastOff ((s.objectsHeld (e.u8 16) (e.u8 17)).filter (fun i => !(resizeRange e).has i))

/-- SLICE_RESIZE (R314). DESIGN CHOICE (log entry 164): component 3 on a part without the far store is checked as on any part, against
a store of no blocks. -/
def bodySliceResize : Body := fun s mb e _ =>
  let n := e.u8 16
  let c := e.u8 17
  let check := firstSome [
    entryCheck rowSliceResize s mb e [(16, 0, 8), (17, 0, 8), (18, 0, 8), (20, 0, 32), (24, 0, 32), (32, 0, 128)] (resizeBad e),
    failIf (perPipe c && e.u8 18 ≠ 0xFF && s.pipeCount ≤ e.u8 18) 0x09 18,
    failIf (decide (2 ^ s.portCount ≤ e.f 32 0 128)) 0x09 32,
    failIf ((s.slice n).state = .none) 0x06 0]
  andThen check <|
    if s.resized e = s.slice n then .done s
    else andThen (failIf (s.poolBroken e) 0x04 c) <|
      match s.leftOut e with
      | some i => .fail 0x08 0x0B02 (resultOf [(16, 4, i)])
      | none => .done (s.setSlice n (s.resized e))

def execSliceResize (mb : Fin 129) (e : Entry) (s : State) : Result := runCmd rowSliceResize bodySliceResize mb e none s

/-! ### SLICE_DESTROY (R316, R30) -/

/-- Objects that keep a slice: the opcode that deletes the first kind found. -/
def State.sliceHolds (s : State) (n : Nat) : Option Nat :=
  if (tsome s.sw.nodes).any (fun p => keyLevel p.1 == 1 && s.nodeOwner p.1 == some n) then some 0x0901
  else if (tsome s.tables.entries).any (fun p => descOwner (s.emDesc p.2.table) == n) then some 0x0601
  else if s.tables.routes.any (fun r => (s.rangeOf n 10).has r.vrf) then some 0x0607
  else if s.presentPipes.any (fun p => s.rulesOwned p n != 0) then some 0x0701
  else if (s.objectsHeld n 14) ≠ [] then some 0x0803
  else none

/-- The frame charged to slice 128 if a slice held it. -/
def Frame.recharge (n : Nat) (x : Frame) : Frame := if x.slice = n then { x with slice := 128, was := some n } else x

/-- Frames queued, waiting in intake and in the far store that are charged to a slice. -/
def State.chargedTo (s : State) (n : Nat) : Nat :=
  ((tsome s.sw.frames).filter (fun p => p.2.slice == n)).length +
  s.sw.intakes.foldl (fun k (t : Nat × List Intake) => k + (t.2.filter (fun i => i.frame.slice == n)).length) 0 +
  (tsome s.sw.nodes).foldl (fun k (t : Nat × Node) => k + (t.2.queue.far.filter (fun f => f.frame.slice == n)).length) 0

/-- The frames of the switch core through a function. -/
def State.mapFrames (s : State) (f : Frame → Frame) : State :=
  let far (y : FarFrame) : FarFrame := { y with frame := f y.frame }
  let frames := s.sw.frames.map (fun (t : Nat × Option Frame) => (t.1, t.2.map f))
  let intakes := s.sw.intakes.map (fun (t : Nat × List Intake) => (t.1, t.2.map (fun i => { i with frame := f i.frame })))
  let nodes := s.sw.nodes.map (fun (t : Nat × Option Node) =>
    (t.1, t.2.map (fun d => { d with queue := { d.queue with far := d.queue.far.map far } })))
  { s with sw := { s.sw with frames := frames, intakes := intakes, nodes := nodes } }

/-- Those frames are charged to slice 128, and counted. -/
def State.recharge (s : State) (n : Nat) : State :=
  let k := s.chargedTo n
  let x := s.slice n
  let s := s.setSlice n { x with released := x.released + BitVec.ofNat 64 k }
  s.mapFrames (Frame.recharge n)

/-- What the rollback of a destroy or reset restores. -/
def State.sliceUndo (s : State) (mb n : Nat) : SliceUndo :=
  { mb := mb, slice := s.slice n, row := tget s.matrix MatrixRow.zero n, mbox := s.mbox (n + 1),
    policers := (s.objectsHeld n 13).map (fun i => (i, (s.policer i).mode)),
    ecn := (tkeys s.sw.ecn).filter (fun i => (s.rangeOf n 15).has i && (tget s.sw.ecn EcnProfile.reset i).enabled),
    rings := (s.ringsOf n).map (fun g => (g, s.ring g)),
    learn := ((tkeys s.tables.learn).filter (fun t => descOwner (s.emDesc t) == n)).map (fun t => (t, s.learnCfg t)),
    events := tget s.host.rings EventRing.none (n + 1), maps := s.host.maps.filter (fun m => m.mbox == n + 1) }

/-- Note what a destroy or reset replaces. -/
def State.keepUndo (s : State) (mb n : Nat) : State := { s with undo := tset s.undo none n (some (s.sliceUndo mb n)) }

/-- Frames that a destroy charged to slice 128 are charged to their slice again. -/
def Frame.regain (n : Nat) (x : Frame) : Frame := if x.was = some n then { x with slice := n, was := none } else x

/-- A ring pair as it was before its slice stopped, with the counts and the reads that it has now. A frame that was being read is
read again. -/
def RingPair.regain (was now : RingPair) : RingPair :=
  { stopMb := none,
    rx := { was.rx with writing := none, fetching := now.rx.fetching, frames := now.rx.frames, bytes := now.rx.bytes,
                        noBuffer := now.rx.noBuffer, truncated := now.rx.truncated, rateDrops := now.rx.rateDrops },
    tx := { was.tx with head := was.tx.done, work := now.tx.work } }

/-- The rollback of a destroy or reset: the slice, its row, objects, rings and mailbox are as before it. What has been dropped,
answered or discarded meanwhile stays so (log entry 158). -/
def State.sliceBack (s : State) (n : Nat) (u : SliceUndo) : State :=
  let x := s.slice n
  let s := s.setSlice n { u.slice with genDiscards := x.genDiscards, rxNoRing := x.rxNoRing }
  let s := if tget s.matrix MatrixRow.zero n = u.row then s else (s.matrixSwitch (tset s.matrix MatrixRow.zero n u.row)).switchSettle
  let s := forAll u.policers s (fun p s =>
    { s with sw := { s.sw with policers := tset s.sw.policers Policer.reset p.1 { s.policer p.1 with mode := p.2 } } })
  let s := forAll u.ecn s (fun i s =>
    { s with sw := { s.sw with ecn := tmod s.sw.ecn EcnProfile.reset i (fun p => { p with enabled := true }) } })
  let s := forAll u.rings s (fun r s => s.setRing r.1 (r.2.regain (s.ring r.1)))
  let s := forAll u.learn s (fun l s =>
    s.setLearn l.1 { s.learnCfg l.1 with ringBase := l.2.ringBase, ringLog2 := l.2.ringLog2, intPending := l.2.intPending })
  let m := s.mbox (n + 1)
  let s := if u.mbox.state = .running && m.enable then s.setMbox (n + 1) { m with state := .running, fetched := u.mbox.fetched } else s
  let s := s.mapFrames (Frame.regain n)
  { s with undo := tset s.undo none n none,
           host := { s.host with
             rings := tset s.host.rings EventRing.none (n + 1) u.events,
             maps := s.host.maps.filter (fun m => m.mbox != n + 1) ++ u.maps } }

/-- Steps 1 to 4 of a destroy. -/
def State.sliceClose (s : State) (mb n : Nat) : State :=
  let x := s.slice n
  let s := s.keepUndo mb n
  let s := (s.setSlice n { x with state := .closing, ports := 0, waiting := some (mb, 0) }).setMbox (n + 1) (s.mbox (n + 1)).stop
  let s := if tget s.matrix MatrixRow.zero n = MatrixRow.zero then s else (s.matrixSwitch (tdel s.matrix n)).switchSettle
  let s := forAll (s.objectsHeld n 13) s (fun i s =>
    { s with sw := { s.sw with policers := tset s.sw.policers Policer.reset i { s.policer i with mode := 0 } } })
  let s := forAll ((tkeys s.sw.ecn).filter (fun i => (s.rangeOf n 15).has i)) s (fun i s =>
    { s with sw := { s.sw with ecn := tmod s.sw.ecn EcnProfile.reset i (fun p => { p with enabled := false }) } })
  let s := (s.sliceStop n).recharge n
  { s with host := { s.host with maps := s.host.maps.filter (fun m => m.mbox != n + 1) } }

/-- TIME_LIMIT of a slice reset or destroy (R316, R332). -/
def sliceTimeBad (e : Entry) : Bool := 0 < e.timeLimit.toNat && e.timeLimit.toNat < 200

def bodySliceDestroy : Body := fun s mb e _ =>
  let n := e.u8 16
  andThen (firstSome [
    entryCheck rowSliceDestroy s mb e [(16, 0, 8)] [(sliceTimeBad e, 10), (127 < n, 16)]]) <|
    match (s.slice n).state, s.sliceHolds n with
    | .none, _ => .fail 0x06 0 0
    | .resetting, _ => .fail 0x08 0x0B04 0
    | _, some op => .fail 0x08 op 0
    | _, none => .hold (s.sliceClose mb n)

def execSliceDestroy (mb : Fin 129) (e : Entry) (s : State) : Result := runCmd rowSliceDestroy bodySliceDestroy mb e none s

/-! ### SLICE_RESET (R332) -/

/-- A class C command of the slice's mailbox that still runs is answered with the new generation: a drain is rolled back, and a batch
is stopped with the items that it has applied (R39, R332 step 1). -/
def State.drainStale (s : State) (n : Nat) : State :=
  match (s.mbox (n + 1)).inExec with
  | none => s
  | some x =>
    let gen := (s.slice n).gen.toNat
    match (s.fenceOf (n + 1)).isSome && rowFence.classOf x.entry = .c, x.batch, opRow? x.opcode.toNat with
    | true, _, _ => (s.setFence (n + 1) none).complete (n + 1) rowFence 0x0B gen 0 0
    | false, some b, some r => (s.ruleFinish (n + 1)).complete (n + 1) r 0x0B gen b.1 0
    | false, _, _ => s

/-- Steps 1 to 3 of a reset. -/
def State.sliceResetStart (s : State) (mb n : Nat) : State :=
  let x := s.slice n
  let s := s.keepUndo mb n
  ((s.setSlice n { x with state := .resetting, waiting := some (mb, x.genDiscards) }).sliceStop n).hostAbandon n |>.drainStale n

def bodySliceReset : Body := fun s mb e _ =>
  let n := e.u8 16
  andThen (firstSome [
    entryCheck rowSliceReset s mb e [(16, 0, 8)] [(sliceTimeBad e, 10), (127 < n, 16)],
    failIf (mb ≠ 0 && n ≠ mb - 1) 0x03 16]) <|
    match (s.slice n).state with
    | .none => .fail 0x06 0 0
    | .closing => .fail 0x08 0x0B03 0
    | .resetting => .fail 0x08 0x0B04 0
    | .active => .hold (s.sliceResetStart mb n)

def execSliceReset (mb : Fin 129) (e : Entry) (s : State) : Result := runCmd rowSliceReset bodySliceReset mb e none s

/-! ### GENERATION_DRAINED (R332 steps 4 and 5, R316 step 5) -/

/-- No work of the old generation is outstanding: the reset or destroy that waits is answered. A destroy also waits for the
slice's mailbox to stop and for the pipes to take the zeroed row. -/
def State.generationDrained (s : State) (n : Nat) : State :=
  let x := s.slice n
  match x.waiting with
  | none => s
  | some (mb, before) =>
    if s.oldReads n then s
    else match x.state with
      | .resetting =>
        (State.setSlice { s with undo := tset s.undo none n none } n { x with state := .active, waiting := none }).finish mb rowSliceReset
          (resultOf [(16, 2, x.gen.toNat), (20, 4, (x.genDiscards - before).toNat)])
      | .closing =>
        if (s.mbox (n + 1)).inExec.isSome || s.switching (· == Switch.matrix) then s
        else ((State.setSlice { s with undo := tset s.undo none n none } n { Slice.reset with gen := x.gen, released := x.released }).setMbox (n + 1) Mailbox.reset).finish mb
          rowSliceDestroy 0
      | _ => s

def execGenerationDrained (slice : Fin 128) (s : State) : Result := .next (s.generationDrained slice.val)

/-! ### SLICE_STATUS (R333, Table 12-13) -/

/-- ISO_DROP_n over the pipes. -/
def State.isoDrops (s : State) (n : Nat) : BitVec 64 :=
  s.presentPipes.foldl (fun k p => k + tget (s.pipe p).isoDrop 0 n) 0

/-- Entries of a table, a copy in a relocation counted once. -/
def State.entryCount (s : State) (t : Nat) : Nat :=
  ((s.entriesOf t).filter (fun p => p.2.twin.isNone)).length + ((s.entriesOf t).filter (fun p => p.2.twin.isSome)).length / 2

/-- What a slice uses of a component. -/
def State.shareUse (s : State) (n c p : Nat) : Nat :=
  match c with
  | 1 => s.sliceCells p n
  | 2 => s.sliceCells 8 n + s.lentFor n
  | 3 => s.sliceBlocks n
  | 4 => s.slotsOwned n
  | 5 => s.unitsOf n
  | 6 => s.rulesOwned p n
  | 7 => s.nodesOf 2 n
  | 8 => s.nodesOf 3 n
  | 9 => s.nodesOf 4 n
  | _ => (s.objectsHeld n c).length

def SliceState.num (x : SliceState) : Nat := match x with | .none => 0 | .active => 1 | .resetting => 2 | .closing => 3

/-- Bytes 16–23 and 24–31 of a part about a ring pair. -/
def RingPair.part (x : RingPair) (part : Nat) : Nat × Nat :=
  match part with
  | 4 => (x.rx.frames.toNat, x.rx.bytes.toNat)
  | 5 => (x.rx.noBuffer.toNat, x.rx.truncated.toNat)
  | 6 => (x.rx.rateDrops.toNat, 0)
  | 7 => (x.tx.frames.toNat, x.tx.bytes.toNat)
  | _ => (x.tx.errors.toNat, 0)

/-- Bytes 16–23 and 24–31 of a part about a slice or a share. -/
def State.slicePart (s : State) (n part arg : Nat) : Nat × Nat :=
  let x := s.slice n
  match part with
  | 0 => (x.gen.toNat + x.state.num * 65536 + (s.objectsHeld n 16).length * 4294967296, x.genDiscards.toNat)
  | 1 => ((tget s.te.stale 0 n).toNat, (s.isoDrops n).toNat)
  | 2 => (x.rxNoRing.toNat, x.released.toNat)
  | 3 => (s.entryCount arg + s.learnedOf arg * 4294967296, 0)
  | _ =>
    let c := part - 16
    let p := if perPipe c then arg else 0
    if c = 0 then (x.ports.toNat % 2 ^ 64, x.ports.toNat / 2 ^ 64)
    else if c ≤ 9 then (tget x.counts 0 (c * 16 + p), s.shareUse n c p)
    else ((s.rangeOf n c).first + (s.rangeOf n c).count * 4294967296, s.shareUse n c p)

def sliceStatusBad (e : Entry) : List (Bool × Nat) :=
  let n := e.u8 16
  let part := e.u8 17
  let arg := e.u16 18
  let piped := 16 ≤ part && perPipe (part - 16)
  [fld (128 < n) 16, fld (!(part ≤ 8 || (16 ≤ part && part ≤ 33)) || (n = 128 && !(4 ≤ part && part ≤ 8))) 17,
   fld ((part ≤ 2 || (16 ≤ part && !piped)) && arg ≠ 0) 18, fld ((part = 3 && 255 < arg) || (piped && 7 < arg)) 18]

def bodySliceStatus : Body := fun s mb e _ =>
  let n := e.u8 16
  let part := e.u8 17
  let arg := e.u16 18
  let piped := 16 ≤ part && perPipe (part - 16)
  let ring := 4 ≤ part && part ≤ 8
  andThen (firstSome [
    entryCheck rowSliceStatus s mb e [(16, 0, 8), (17, 0, 8), (18, 0, 16)] (sliceStatusBad e),
    failIf (piped && s.pipeCount ≤ arg) 0x09 18,
    failIf (mb ≠ 0 && n ≠ mb - 1) 0x03 16,
    failIf (n < 128 && (s.slice n).state = .none) 0x06 0,
    failIf (part = 3 && !(descValid (s.emDesc arg) && descOwner (s.emDesc arg) = n)) 0x03 18,
    failIf (ring && (s.globalRing n arg).isNone) 0x03 18]) <|
    let r := if ring then (s.ring ((s.globalRing n arg).getD 0)).part part else s.slicePart n part arg
    .ok s 0 (resultOf [(16, 8, r.1), (24, 8, r.2)])

def execSliceStatus (mb : Fin 129) (e : Entry) (s : State) : Result := runCmd rowSliceStatus bodySliceStatus mb e none s

/-! ### RING_PAIR_SET (R320) -/

/-- Failing fields of one ring: `log` its LOG2, with the offsets of its base, rate and burst. -/
def ringFieldsBad (e : Entry) (on : Bool) (log base rate burst : Nat) : List (Bool × Nat) :=
  let b := e.u64 base
  let r := e.u32 rate
  let z := e.u32 burst
  if on then [fld (log < 6 || 14 < log) 20, fld (b == 0 || b % 4096 != 0) base, fld (800000000 < r) rate,
    fld (if r = 0 then z ≠ 0 else z < 1 || 16777216 < z) burst]
  else [fld (log ≠ 0) 20, fld (b ≠ 0) base, fld (r ≠ 0) rate, fld (z ≠ 0) burst]

def ringPairBad (e : Entry) : List (Bool × Nat) :=
  let tx := e.u8 18 = 0 && e.bit 19 0
  let rx := e.u8 18 = 0 && e.bit 19 1
  [fld (1 < e.u8 18) 18, fld (e.f 19 0 2 = 0) 19] ++ ringFieldsBad e tx (e.f 20 0 4) 24 48 52 ++ ringFieldsBad e rx (e.f 20 4 4) 32 40 44 ++
  [fld (if rx then e.u16 22 < 4 || 256 < e.u16 22 else e.u16 22 ≠ 0) 22]

/-- The ring pair with the named rings enabled: counts 0, RUNNING, and a full bucket. -/
def RingPair.enable (x : RingPair) (e : Entry) (now : Nat) : RingPair :=
  let rx := { x.rx with
    state := .running, cause := .none, tail := 0, head := 0, log2 := e.f 20 4 4, base := e.u64 32, bufUnits := e.u16 22,
    bucket := Bucket.full (e.u32 40) (e.u32 44) now, posted := [] }
  let tx := { x.tx with
    state := .running, cause := .none, tail := 0, head := 0, done := 0, log2 := e.f 20 0 4, base := e.u64 24,
    bucket := Bucket.full (e.u32 48) (e.u32 52) now }
  { x with rx := if e.bit 19 1 then rx else x.rx, tx := if e.bit 19 0 then tx else x.tx }

/-- The ring pair with the named rings stopping: they fetch no more. -/
def RingPair.disable (x : RingPair) (e : Entry) (mb : Nat) : RingPair :=
  let rx := if x.rx.state = .disabled then x.rx else { x.rx with state := .stopping, posted := [] }
  let tx := if x.tx.state = .disabled then x.tx else { x.tx with state := .stopping }
  { rx := if e.bit 19 1 then rx else x.rx, tx := if e.bit 19 0 then tx else x.tx, stopMb := some mb }

/-- A ring that the command names meets a condition on its state. -/
def RingPair.named (x : RingPair) (e : Entry) (f : RunState → Bool) : Bool := (e.bit 19 0 && f x.tx.state) || (e.bit 19 1 && f x.rx.state)

def bodyRingPairSet : Body := fun s mb e _ =>
  andThen (entryCheck rowRingPairSet s mb e
      [(16, 0, 16), (18, 0, 8), (19, 0, 2), (20, 0, 8), (22, 0, 16), (24, 0, 64), (32, 0, 64), (40, 0, 32), (44, 0, 32), (48, 0, 32),
       (52, 0, 32)] (ringPairBad e)) <|
    match s.mboxRing mb (e.u16 16) with
    | none => .fail 0x03 16 0
    | some g =>
      let t := s.rxEndFrame g true
      let s := if e.u8 18 = 1 && e.bit 19 1 then t else s
      let x := s.ring g
      if e.u8 18 = 0 then
        andThen (failIf (x.named e (· != .disabled)) 0x08 0x0B06) (.done (s.setRing g (x.enable e s.now)))
      else if x.named e (· != .disabled) then .hold ((s.setRing g (x.disable e mb)).ringSettle g)
      else .done s

def execRingPairSet (mb : Fin 129) (e : Entry) (s : State) : Result := runCmd rowRingPairSet bodyRingPairSet mb e none s

/-! ### VECTOR_MAP_SET (R309, R346, R373) -/

/-- OBJECT beyond what its KIND has: ports, blocks, fabric and line channels, module buses; other kinds have none. -/
def objectBad (mb kind obj : Nat) : Bool :=
  match kind with
  | 1 => false
  | 2 => false
  | 3 => false
  | 4 => 127 < obj
  | 6 => 31 < obj
  | 7 => 15 < obj
  | 8 => 52 < obj
  | 9 => 127 < obj
  | _ => mb = 0 && obj ≠ 0

/-- A slice's mailbox may map its own rings and ports, and its counter event ring; the manager the rest. -/
def State.mayMap (s : State) (mb kind obj : Nat) : Bool :=
  if kind ≤ 3 then (s.mboxRing mb obj).isSome
  else if mb = 0 then true
  else ((kind = 4 || kind = 9) && s.ownsPort mb obj) || (kind = 5 && obj = 0)

def bodyVectorMapSet : Body := fun s mb e _ =>
  let kind := e.u8 16
  let obj := e.u16 18
  let v := e.u16 20
  andThen (firstSome [
    entryCheck rowVectorMapSet s mb e [(16, 0, 8), (18, 0, 16), (20, 0, 16), (22, 0, 16)]
      [(kind < 1 || 12 < kind, 16), (mb = 0 && objectBad mb kind obj, 18), (v ≠ 0xFFFF && !s.ownsVector mb v, 20), (1000 < e.u16 22, 22)],
    failIf ((kind = 4 || kind = 9) && obj < 128 && s.portCount ≤ obj || mb = 0 && kind = 8 && !s.blockPresent obj) 0x09 18,
    failIf (!s.mayMap mb kind obj) 0x03 18]) <|
    let o := if kind ≤ 3 then (s.mboxRing mb obj).getD 0 else obj
    let rest := s.host.maps.filter (fun m => !(m.mbox == mb && m.kind == kind && m.object == o))
    let maps := if v = 0xFFFF then rest else rest ++ [{ mbox := mb, kind := kind, object := o, vector := v, minGap := e.u16 22 }]
    .done { s with host := { s.host with maps := maps } }

def execVectorMapSet (mb : Fin 129) (e : Entry) (s : State) : Result := runCmd rowVectorMapSet bodyVectorMapSet mb e none s

end Sys2Proof.Machine
end

