-- ==== Sys2Proof/Machine/Tandem.lean ====
section
/-! DEFINITION. Chapter 15: forming, joining and leaving a pair, the journal, and the application of its records and of a
snapshot by the Stoker. -/
namespace Sys2Proof.Machine
open Sys2Proof

/-! ### Commands as the journal carries them (R409, R410) -/

/-- The effect of the opcodes that the Stoker does not accept, which are those that the journal carries (Table 2-13). -/
def journalBody (op : Nat) : Option Body :=
  match op with
  | 0x0202 => some bodyRuleBankSwap
  | 0x0204 => some bodyGearSet
  | 0x0401 => some bodyPortConfig
  | 0x0402 => some bodyPortEnable
  | 0x0403 => some bodyPortModeSet
  | 0x0404 => some bodyPortPauseSet
  | 0x0501 => some bodyParseGraphLoad
  | 0x0502 => some bodyCustomerStoreLoad
  | 0x0503 => some bodyPatternSetLoad
  | 0x0504 => some bodyPatternSetBind
  | 0x0505 => some bodyLifelineSet
  | 0x0601 => some bodyEmInsert
  | 0x0602 => some bodyEmDelete
  | 0x0603 => some bodyEmUpdate
  | 0x0606 => some bodyLpmAdd
  | 0x0607 => some bodyLpmDelete
  | 0x0608 => some bodyLearnConfig
  | 0x0609 => some bodyAgeingConfig
  | 0x0701 => some bodyRuleInsert
  | 0x0702 => some bodyRuleDelete
  | 0x0704 => some bodyActionProgramLoad
  | 0x0705 => some bodyIsolationMatrixSet
  | 0x0706 => some bodyRecircConfig
  | 0x0801 => some bodyQueueThresholdSet
  | 0x0802 => some bodyEcnConfig
  | 0x0803 => some bodyMcastGroupSet
  | 0x0804 => some bodySpillConfig
  | 0x0901 => some bodyNodeConfig
  | 0x0902 => some bodyShaperSet
  | 0x0903 => some bodyWfqWeightSet
  | 0x0904 => some bodyPolicerSet
  | 0x0905 => some bodyClassSchedSet
  | 0x0B01 => some bodySliceCreate
  | 0x0B02 => some bodySliceResize
  | 0x0B03 => some bodySliceDestroy
  | 0x0B04 => some bodySliceReset
  | 0x0C03 => some bodyProbeSet
  | 0x0E05 => some bodyPelotonConfig
  | _ => none

/-- A command of the journal is applied under the rules of its mailbox, without a response: the status that it reaches and
the state. One whose response would be posted later has been accepted. -/
def State.replay (s : State) (j : JournalCommand) : Nat × State :=
  let m := (s.mbox j.mailbox).muted
  let t := (s.setMbox j.mailbox { s.mbox j.mailbox with muted := true }).setTandem { s.tandem with applying := true }
  let back (t : State) : State :=
    (t.setMbox j.mailbox { t.mbox j.mailbox with muted := m }).setTandem { t.tandem with applying := false }
  match journalBody j.opcode.toNat with
  | none => (0x01, s)
  | some body => match body t j.mailbox j.entry j.buf with
    | .ok t _ _ => (0, back t)
    | .hold t => (0, back t)
    | .part t st _ _ => (st, back t)
    | .fail st _ _ => (st, s)

/-- Apply commands in order, up to one that meets an operation still in progress (BUSY); what is left is applied later. A status
other than the Captain's ends eligibility (R410). -/
def State.applyCommands (s : State) (seq : BitVec 32) (l : List JournalCommand) : List JournalCommand × State :=
  match l with
  | [] => ([], s)
  | j :: r =>
    let o := s.replay j
    if o.1 = 0x08 then (l, s)
    else
      let t := o.2
      let t := t.setTandem { t.tandem with lastSeq := tset t.tandem.lastSeq (0, 0) j.mailbox (j.entry.seq, seq) }
      let t := if o.1 = 0 then t else (t.setTandem { t.tandem with barred := true }).tandemRecord 6 0 j.opcode.toNat
      t.applyCommands seq r

/-- Apply the held mirror messages that no unapplied record precedes. -/
def State.applyMirrors (s : State) (l : List (Nat × MirrorMessage)) : State :=
  match l with
  | [] => s
  | (0, m) :: r => ((s.setTandem { s.tandem with mirrors := r }).mirrorApply m).applyMirrors r
  | _ :: _ => s

/-- Apply the records held, in order (R410). -/
def State.applyRecords (s : State) (l : List JournalRecord) : State :=
  match l with
  | [] => s.setTandem { s.tandem with records := [] }
  | r :: rest =>
    let o := s.applyCommands r.seq r.commands
    let s := o.2
    if o.1.isEmpty then
      let s := s.setTandem { s.tandem with
        journalSeq := r.seq, configSeq := if r.commands.isEmpty then s.tandem.configSeq else r.seq, changing := false,
        mirrors := s.tandem.mirrors.map (fun m => (m.1 - 1, m.2)) }
      ((s.tandemCount 4 1).applyMirrors s.tandem.mirrors).applyRecords rest
    else s.setTandem { s.tandem with records := { r with commands := o.1 } :: rest, changing := true }

/-- A learned entry of the snapshot is placed as the Captain holds it. -/
def State.placeLearned (s : State) (e : LearnedEntry) : State :=
  s.mirrorEffect { epoch := 0, serial := 0, kind := .learn, table := e.table, key := e.key, arg := e.arg, program := e.program, port := e.port }

/-- Load what is left of a snapshot: its commands, then its learned entries. -/
def State.loadSnapshot (s : State) : State :=
  match s.tandem.loading with
  | none => s
  | some (cmds, learned) =>
    let o := s.applyCommands s.tandem.journalSeq cmds
    let s := o.2
    if o.1.isEmpty then
      let s := forAll learned s (fun e s => s.placeLearned e)
      let s := s.setTandem { s.tandem with loading := some ([], []) }
      s.applyMirrors s.tandem.mirrors
    else s.setTandem { s.tandem with loading := some (o.1, learned) }

/-- The Stoker, or a unit that has just taken over, applies what it holds. A joining unit that has applied everything is SYNCED
(step 5 of R408); one that has caught up regains what lag and a lost link took (R410, R412). -/
def State.catchUp (s : State) : State :=
  let s := s.loadSnapshot
  let busy := match s.tandem.loading with | some (c, _) => !c.isEmpty | none => s.tandem.sync == SyncState.syncing
  if busy then s
  else
    let s := s.applyRecords s.tandem.records
    if !s.tandem.records.isEmpty then s
    else
      let t := s.tandem
      let s := s.setTandem { t with
        lagging := false, linkLost := if t.linkUp then false else t.linkLost, mustApply := false, loading := none,
        sync := if t.sync = SyncState.syncing then SyncState.synced else t.sync }
      let s := if t.sync = SyncState.syncing then s.event 12 0 else s
      s.lowerRank

/-! ### The join (R408) -/

/-- The settings of the opcodes that the Stoker does not accept return to the default configuration; everything else is kept. -/
def State.joinDefault (s : State) : State :=
  let probes := (tsome s.cad.timers).filter (fun t => t.2.use == TimerUse.probes)
  let s := forAll probes s (fun t s =>
    ({ s with cad := { s.cad with timers := tset s.cad.timers none t.1 none } }).release 2 t.1)
  let s := forAll (tkeys s.far.blocks) s (fun k s => s.freeBlock k)
  let s := forAll (tkeys s.far.channels) s (fun c s => s.setChannel c { s.channel c with rt := [], wr := [], writing := [] })
  let te := s.te
  let s := { s with
    fw := { s.fw with journal := [] },
    mboxes := tset [] Mailbox.reset 0 (s.mbox 0),
    gears := Gears.reset,
    swap := { count := 0, mb := none },
    fences := [],
    cad := { s.cad with probes := [] },
    slices := (tkeys s.slices).foldl (fun t n => tset t Slice.reset n { Slice.reset with gen := (s.slice n).gen, released := (s.slice n).released }) [],
    far := { s.far with flushed := [] },
    ports := [],
    pipes := (tkeys s.pipes).foldl (fun t p => tset t Pipe.reset p { Pipe.reset with
      parseCnt := (s.pipe p).parseCnt, matchCnt := (s.pipe p).matchCnt, actionCnt := (s.pipe p).actionCnt, isoDrop := (s.pipe p).isoDrop }) [],
    tables := { Tables.reset with te := { TableEngine.reset with
      trapMicroPc := te.trapMicroPc, trapLoop := te.trapLoop, trapTemp := te.trapTemp, trapCause := te.trapCause,
      bank := te.bank, parityLog := te.parityLog, parityDropped := te.parityDropped, passCount := te.passCount,
      lastPass := te.lastPass, counters := te.counters, stale := te.stale, failures := te.failures } },
    sw := { Switching.reset with
      nextFrame := s.sw.nextFrame, nextPacket := s.sw.nextPacket, counters := s.sw.counters, schedCnt := s.sw.schedCnt,
      rotation := s.sw.rotation },
    peloton := { s.peloton with joined := false, paired := false } }
  s.initStores.applyDefault

/-- The snapshot of the Captain arrives: it is loaded, and records and messages that it includes have no effect. A gap in what is
held is one that the history could not fill (R412). -/
def State.snapshot (s : State) (x : JoinSnapshot) : State :=
  let t := s.tandem
  if t.role ≠ .stoker || t.sync ≠ .syncing || !t.linkUp || t.loading.isSome then s
  else
    let rs := t.records.filter (fun r => r.epoch == x.epoch && serialAfter 32 r.seq.toNat x.seq.toNat)
    let early := t.records.length - rs.length
    let ms := t.mirrors.filter (fun m => m.2.epoch == x.epoch && serialAfter 32 m.2.serial.toNat x.serial.toNat)
    let ms := ms.map (fun m => (m.1 - early, m.2))
    let gap := (List.range rs.length).any (fun i => match rs[i]? with | some r => r.seq != x.seq + BitVec.ofNat 32 (i + 1) | none => false) ||
      (List.range ms.length).any (fun i => match ms[i]? with | some m => m.2.serial != x.serial + BitVec.ofNat 32 (i + 1) | none => false)
    let s := s.setTandem { t with
      epoch := x.epoch, strict := x.strict, journalSeq := x.seq, configSeq := x.configSeq,
      serialIn := x.serial + BitVec.ofNat 32 ms.length, records := rs, mirrors := ms, loading := some (x.commands, x.learned) }
    if gap then s.unsync else s.catchUp

def execJoinSnapshotReceived (snapshot : JoinSnapshot) (s : State) : Result := .next (s.snapshot snapshot).gearCheck

/-! ### TANDEM_CONFIG (R407) -/

/-- The unit forms a pair, without a partner. -/
def State.formPair (s : State) (strict noTakeover : Bool) : State :=
  let s := s.setTandem { s.tandem with
    role := .captain, sync := .none, epoch := 1, strict := strict, noTakeover := noTakeover, journalSeq := 0, configSeq := 0, changing := false,
    records := [], mirrors := [], loading := none, history := [], lastSeq := [], joining := false }
  (s.memberBell true).gateReview

/-- Step 1 of a join. -/
def State.joinPair (s : State) : State :=
  let s := s.setTandem { s.tandem with
    role := .stoker, sync := .syncing, epoch := s.tandem.epoch + 1, strict := false, noTakeover := false, barred := false, lagging := false,
    linkLost := false, journalSeq := 0, configSeq := 0, changing := false, records := [], mirrors := [], loading := none, history := [],
    lastSeq := [], joining := false }
  ((s.memberBell true).gateReview).joinDefault

def bodyTandemConfig : Body := fun s mb e _ =>
  let op := e.u8 16
  let flags := e.f 17 0 2
  let solo := s.tandem.role == .standalone
  andThen (firstSome [
    entryCheck rowTandemConfig s mb e [(16, 0, 8), (17, 0, 2)] [(3 < op, 16), (op = 2 && flags ≠ 0, 17)],
    failIf (!s.hasTandem) 0x09 0,
    failIf ((op = 1 || op = 2) && !solo) 0x08 0x0E01,
    failIf (op = 2 && !(s.tandem.linkUp && (match s.partner with | some f => claimRole f == 1 | none => false))) 0x06 0,
    failIf (op = 3 && solo) 0x08 0x0E01]) <|
    match op with
    | 0 => .done (if solo then s else s.goStandalone)
    | 1 => .done (s.formPair (flags % 2 == 1) (2 ≤ flags))
    | 2 => .done s.joinPair
    | _ => .done (s.setTandem { s.tandem with
        strict := if s.tandem.role = .captain then flags % 2 == 1 else s.tandem.strict, noTakeover := 2 ≤ flags })

def execTandemConfig (mb : Fin 129) (e : Entry) (s : State) : Result := runCmd rowTandemConfig bodyTandemConfig mb e none s

/-! ### The journal and ROLE_HANDOVER (R409, R421) -/

/-- The Captain closes its current record and sends it; its history covers 100 ms. -/
def State.journalSend (s : State) : State :=
  let t := s.tandem
  let cmds := s.fw.journal
  let r : JournalRecord := { epoch := t.epoch, seq := t.journalSeq + 1, commands := cmds }
  let h := t.history ++ [r]
  let s := { s with fw := { s.fw with journal := [] } }
  (s.setTandem { t with
    journalSeq := r.seq, configSeq := if cmds.isEmpty then t.configSeq else r.seq, changing := false, history := h.drop (h.length - 100),
    lastSeq := cmds.foldl (fun l (j : JournalCommand) => tset l (0, 0) j.mailbox (j.entry.seq, r.seq)) t.lastSeq }).tandemCount 4 1

def bodyRoleHandover : Body := fun s mb e _ =>
  andThen (firstSome [entryCheck rowRoleHandover s mb e [] [], failIf (!s.hasTandem) 0x09 0]) <|
    match s.tandem.role with
    | .standalone => .fail 0x08 0x0E01 0
    | .stoker => .ok s.takeover 0 (resultOf [(16, 1, s.tandem.sync.num)])
    | .captain =>
      if match s.partner with | some f => claimEligible f | none => false then
        let s := s.journalSend
        .hold (s.setTandem { s.tandem with handover := some s.tandem.journalSeq })
      else .fail 0x08 0x0E01 0

def execRoleHandover (mb : Fin 129) (e : Entry) (s : State) : Result := runCmd rowRoleHandover bodyRoleHandover mb e none s

end Sys2Proof.Machine
end

