-- ==== Sys2Proof/Machine/Limits.lean ====
section
/-! DEFINITION. A class C command at its time limit (R42): what its rollback undoes, and where a batch stops. -/
namespace Sys2Proof.Machine
open Sys2Proof

/-- Switches of a kind that pipes have not made are withdrawn. -/
def State.withdraw (s : State) (k : Switch → Bool) : State :=
  forAll (tkeys s.pipes) s (fun p s => s.modPipe p (fun x => { x with switches := x.switches.filter (fun w => !k w) }))

/-- Every pipe that has left what is in force has gone back to it, between two packets, when the response is posted (R39, R69). -/
def State.switchBack (s : State) (f : Pipe → Pipe) : State := forAll s.presentPipes s (fun p s => s.modPipe p f)

/-- The open step of a table gear change commits, and its routines end (R70). -/
def State.gearRoutinesEnd (s : State) (mb : Nat) : State :=
  let mine (r : LongRoutine) : Bool := (r.id == 4 || r.id == 6) && r.mb == some mb
  let s := match s.te.running with
    | some r => if mine r then
        let s := match r.target with | some src => (s.dropSource src r.dest).teCount 8 | none => s
        s.setTe { s.te with running := none }
      else s
    | none => s
  s.setTe { s.te with queued := s.te.queued.filter (fun r => !mine r) }

/-- GEAR_SET: the old position stays in effect. -/
def State.gearRollback (s : State) (mb : Nat) : State :=
  match s.gears.change with
  | none => s
  | some c =>
    let s := s.gearUndo
    match c.domain with
    | 1 => s.gearRoutinesEnd mb
    | 3 => (s.withdraw (fun w => match w with | .matchGear _ => true | _ => false)).switchBack
        (fun x => { x with matchGear := s.gears.matcher })
    | 4 => (s.withdraw (fun w => match w with | .latencyGear _ => true | _ => false)).switchBack
        (fun x => { x with latencyGear := s.gears.latency })
    | _ => s

/-- PARSE_GRAPH_LOAD and CUSTOMER_STORE_LOAD: the bank that was current is current again. -/
def State.graphRollback (s : State) : State :=
  let b := !s.ctl.graphBank
  ({ s with ctl := { s.ctl with graphBank := b, graphMb := none } }.withdraw (· == Switch.graph)).switchBack (fun x => { x with graphBank := b })
def State.customerRollback (s : State) : State :=
  let b := !s.ctl.custBank
  ({ s with ctl := { s.ctl with custBank := b, custMb := none } }.withdraw (· == Switch.customer)).switchBack (fun x => { x with custBank := b })

/-- PATTERN_SET_LOAD: the set has its old contents again. -/
def State.setRollback (s : State) (mb : Nat) : State :=
  let mine (l : SetLoad) : Bool := l.mb == mb
  let s := forAll (s.ctl.setLoads.filter mine) s (fun l s => { s with ctl := { s.ctl with sets := tset s.ctl.sets none l.set l.old } })
  { s with ctl := { s.ctl with setLoads := s.ctl.setLoads.filter (fun l => !mine l) } }

/-- CHAIN_AUDIT_RUN: the walks end, and nothing is reclaimed. -/
def State.auditStop (s : State) : State :=
  { s with sw := { s.sw with audit := none } }

/-- SLICE_DESTROY and SLICE_RESET: the slice is as it was. -/
def State.sliceRollback (s : State) (mb : Nat) : State :=
  forAll ((tsome s.undo).filter (fun p => p.2.mb == mb)) s (fun p s => s.sliceBack p.1 p.2)

/-- UNIT_UNFENCE: the unit stays fenced. -/
def State.unfenceEnd (s : State) (mb : Nat) : State :=
  let mine (r : LongRoutine) : Bool := r.id == 16 && r.mb == some mb
  s.setTe { s.te with
    running := match s.te.running with | some r => if mine r then none else some r | none => none,
    queued := s.te.queued.filter (fun r => !mine r) }

/-- No command waits for the training of channels any more. -/
def State.trainForget (s : State) : State := { s with far := { s.far with trainMb := none, trainMask := 0 } }

/-- DRAM_TRAIN: the policy and speed that it replaced are in force again (R39). -/
def State.trainRollback (s : State) : State :=
  let s := match s.far.trainWas with
    | some w => { s with far := { s.far with
        idleNs := w.idleNs, panicNs := w.panicNs, retryS := w.retryS, speed := w.speed, lowEn := w.lowEn, lowEnter := w.lowEnter,
        lowExit := w.lowExit, trainWas := none } }
    | none => s
  s.trainForget

/-- What the rollback of an opcode undoes. -/
def State.rollback (s : State) (mb op : Nat) : State :=
  match op with
  | 0x0201 => s.setFence mb none
  | 0x0204 => s.gearRollback mb
  | 0x0301 => s.persistLost
  | 0x0501 => s.graphRollback
  | 0x0502 => s.customerRollback
  | 0x0503 => s.setRollback mb
  | 0x0805 => s.auditStop
  | 0x0A01 => s.trainRollback
  | 0x0A03 => s.trainForget
  | 0x0B03 => s.sliceRollback mb
  | 0x0B04 => s.sliceRollback mb
  | 0x0D03 => (if s.far.trainMb = some mb then s.trainForget else s).unfenceEnd mb
  | 0x0E03 => (s.setTandem { s.tandem with handover := none }).answerAll
  | _ => s

/-- The class C command in execution on a mailbox reaches its limit: it is rolled back, but a batch is stopped with the items that it
has applied (R39, R42). -/
def State.timeLimit (s : State) (mb : Nat) : State :=
  match (s.mbox mb).inExec with
  | none => s
  | some x =>
    match opRow? x.opcode.toNat with
    | none => s
    | some r =>
      if r.classOf x.entry ≠ .c then s
      else match x.batch with
        | some b => (s.ruleFinish mb).complete mb r 0x0E (s.elapsed mb) b.1 0
        | none => (s.rollback mb r.op).timeOut mb r

def execCommandTimeLimit (mb : Fin 129) (s : State) : Result := .next (s.timeLimit mb.val).gearCheck

end Sys2Proof.Machine
end

