-- ==== Sys2Proof/Machine/Lines.lean ====
section
/-! DEFINITION. Chapter 13: the line power feed (R356–R362) and the optics modules (R363–R365). -/
namespace Sys2Proof.Machine
open Sys2Proof

/-! ### Sensor words (R356) -/

/-- One bit of the CRC-8 with polynomial 0x07. -/
def crc8Bit (r : Nat) (b : Bool) : Nat := (if bitAt r 7 != b then 7 else 0) ^^^ (2 * r % 256)

/-- The CRC-8 over bits [31:8] of a word, most significant first. -/
def crc8 (w : Nat) : Nat := (List.range 24).foldl (fun r i => crc8Bit r (bitAt w (31 - i))) 0

def wordVolt (w : Nat) : Nat := bitsAt w 20 12
def wordCurr (w : Nat) : Nat := bitsAt w 8 12

/-- A word with a bad CRC or a code of 0xFFF. -/
def wordBad (w : Nat) : Bool := crc8 w != w % 256 || wordVolt w == 0xFFF || wordCurr w == 0xFFF

/-! ### Trips and retries (R357, R359, R360) -/

def LineState.num (x : LineState) : Nat := match x with | .off => 0 | .on => 1 | .tripped => 2 | .latched => 3

/-- A channel trips: LINE_EN goes low, with the record, the event and the fault code. The manager's own cause leaves it OFF. -/
def State.lineTrip (s : State) (c cause : Nat) : State :=
  let x := s.line c
  let retry := decide (cause ≤ 4) && x.set.retryMs != 0 && x.retriesLeft != 0
  let st : LineState := if cause = 5 then .off else if retry then .tripped else .latched
  let s := s.setLine c { x with
    enabled := false, enablePending := false, state := st, cause := cause, overCount := 0, voltCount := 0, inrush := false }
  ((s.counterEvent 0 6 0 c cause (x.currentMa + x.voltageMv * 4294967296) x.retriesLeft).event 6 c).raise cadBlock 24 (c + cause * 256) false

/-- The condition of cause 3 or 4 still holds. -/
def LineChannel.held (x : LineChannel) : Bool := decide (3 ≤ x.badCount) || x.alarmNow

/-- A sensor period begins: an enable or a retry that waits is made. A retry waits on while its condition holds. -/
def State.lineEnable (s : State) (c : Nat) : State :=
  let x := s.line c
  let retry := x.state = .tripped
  if !x.enablePending || (retry && x.held) then s
  else
    let s := s.setLine c { x with
      enabled := true, enablePending := false, state := .on, overCount := 0, voltCount := 0, inrush := x.set.inrushMs != 0,
      retriesLeft := if retry then x.retriesLeft - 1 else x.retriesLeft }
    if x.alarmNow then s.lineTrip c 4 else s

def execLineChannelEnable (ch : Fin 32) (s : State) : Result := .next (s.lineEnable ch.val)

/-- The inrush period ends: the limits of R357 for the time after it apply from the next sample. -/
def execInrushEnd (ch : Fin 32) (s : State) : Result := .next (s.setLine ch.val { s.line ch.val with inrush := false, voltCount := 0 })

/-- RETRY_MS after a trip: the retry is to be made. -/
def State.lineRetry (s : State) (c : Nat) : State :=
  let x := s.line c
  if x.state = .tripped then s.setLine c { x with enablePending := true } else s

def execLineRetryExpiry (ch : Fin 32) (s : State) : Result := .next (s.lineRetry ch.val)

/-- 60 s enabled without a trip. -/
def State.lineRestore (s : State) (c : Nat) : State :=
  let x := s.line c
  if x.enabled then s.setLine c { x with retriesLeft := x.set.retryMax } else s

def execLineRetryRestore (ch : Fin 32) (s : State) : Result := .next (s.lineRestore ch.val)

/-- The alarm GPIO of a channel is low. -/
def State.lineAlarm (s : State) (c : Nat) : State :=
  let x := s.line c
  if x.set.alarmGpio = 0xFF then s
  else
    let s := s.setLine c { x with alarmNow := true }
    let s := s.setGpio x.set.alarmGpio { s.gpio x.set.alarmGpio with level := false }
    if x.enabled then s.lineTrip c 4 else s

def execLineAlarmInput (ch : Fin 32) (s : State) : Result := .next (s.lineAlarm ch.val)

/-- A channel after a plausible sample. -/
def LineChannel.sample (x : LineChannel) (w : Nat) : LineChannel :=
  let ua := wordCurr w * x.set.iLsbUa
  let uv := wordVolt w * x.set.vLsbUv
  let limit := if x.inrush then x.set.inrushMa else x.set.tripMa
  let volts := !x.inrush && (decide (uv < x.set.uvMv * 1000) || decide (x.set.ovMv * 1000 < uv))
  { x with
    currentMa := ua / 1000, voltageMv := uv / 1000, badCount := 0,
    overCount := if x.enabled && decide (limit * 1000 ≤ ua) then x.overCount + 1 else 0,
    voltCount := if x.enabled && volts then x.voltCount + 1 else 0 }

/-- A channel after an implausible sample. -/
def LineChannel.implausibleSample (x : LineChannel) : LineChannel :=
  { x with badCount := x.badCount + 1, overCount := 0, voltCount := 0, implausible := x.implausible + 1 }

/-- The trip cause that a channel's samples meet. -/
def LineChannel.due (x : LineChannel) : Option Nat :=
  if !x.enabled then none
  else if x.set.confirm ≤ x.overCount && x.overCount ≠ 0 then some 1
  else if 20 ≤ x.voltCount then some 2
  else if 3 ≤ x.badCount then some 3
  else none

/-- A channel evaluates its word; none for a missing frame. -/
def State.lineWord (s : State) (c : Nat) (w : Option Nat) : State :=
  let x := s.line c
  let y := match w with | some v => if wordBad v then x.implausibleSample else x.sample v | none => x.implausibleSample
  let s := s.setLine c y
  match y.due with | some cause => s.lineTrip c cause | none => s

/-- A frame of a sensor bus is evaluated. An armed injection (KIND 5 of R389) corrupts its first word. -/
def State.sensorFrame (s : State) (b : Nat) (words : Option (List Nat)) : State :=
  let arm := if words.isSome then s.armedAt 5 b else none
  let inj := arm.isSome
  let ws : List (Option Nat) := match words with
    | some l => (List.range 8).map (fun i => (l[i]?).map (fun w => if inj && i == 0 then w ^^^ 1 else w))
    | none => List.replicate 8 none
  let real := (List.range 8).any (fun i => !(inj && i == 0) && (match ws.getD i none with | some w => wordBad w | none => true))
  let s := match arm with | some k => (s.disarm k 5).raise cadBlock 25 b true | none => s
  let s := if words.isSome then s.perfEvent cadBlock 0x0100 1 else s
  let s := if real then s.raise cadBlock 25 b false else s
  let s := if real || inj then s.perfEvent cadBlock 0x0101 1 else s
  forAll (List.range 8) s (fun i s => s.lineWord (8 * b + i) (ws.getD i none))

def execLineSensorFrame (bus : Fin 4) (words : Option (List (BitVec 32))) (s : State) : Result :=
  .next (s.sensorFrame bus.val (words.map (fun l => l.map (·.toNat))))

/-! ### LINE_CHANNEL_SET and LINE_CHANNEL_STATUS (R361, R362) -/

def lineBad (e : Entry) : List (Bool × Nat) :=
  let on := e.u8 17 = 1
  [fld (31 < e.u8 16) 16, fld (1 < e.u8 17) 17, fld (e.u8 18 < 1 || 2 < e.u8 18) 18, fld (31 < e.u8 19 && e.u8 19 ≠ 0xFF) 19,
   fld (on && e.u16 24 = 0) 24, fld (on && e.u16 26 = 0) 26, fld (1000 < e.u16 28) 28, fld ((on && e.u16 30 = 0) || e.u16 32 ≤ e.u16 30) 30,
   fld (on && e.u16 32 = 0) 32, fld (e.u16 34 ≠ 0 && (e.u16 34 < 100 || 60000 < e.u16 34)) 34, fld (15 < e.u8 36) 36]

def lineSettings (e : Entry) : LineSettings :=
  { confirm := e.u8 18, alarmGpio := e.u8 19, vLsbUv := e.u16 20, iLsbUa := e.u16 22, tripMa := e.u16 24, inrushMa := e.u16 26,
    inrushMs := e.u16 28, uvMv := e.u16 30, ovMv := e.u16 32, retryMs := e.u16 34, retryMax := e.u8 36 }

/-- The claim of a channel's alarm ball follows its settings. -/
def State.lineClaim (s : State) (c old new : Nat) : State :=
  let s := if old ≠ 0xFF && old ≠ new then s.release 1 old else s
  if new = 0xFF then s else s.setClaim 1 new 0x0C07 c

/-- The settings and ENABLE of a LINE_CHANNEL_SET are applied. -/
def State.lineApply (s : State) (c : Nat) (e : Entry) : State :=
  let x := s.line c
  let set := lineSettings e
  let s := s.lineClaim c x.set.alarmGpio set.alarmGpio
  let y := { x with set := set, alarmNow := x.alarmNow && x.set.alarmGpio == set.alarmGpio }
  if e.u8 17 = 1 then
    if x.enabled then s.setLine c { y with retriesLeft := set.retryMax }
    else s.setLine c { y with state := .on, enablePending := true, retriesLeft := set.retryMax }
  else if x.enabled then (s.setLine c y).lineTrip c 5
  else s.setLine c { y with state := .off, enablePending := false }

def bodyLineChannelSet : Body := fun s mb e _ =>
  let c := e.u8 16
  let g := e.u8 19
  andThen (entryCheck rowLineChannelSet s mb e
      [(16, 0, 8), (17, 0, 8), (18, 0, 8), (19, 0, 8), (20, 0, 16), (22, 0, 16), (24, 0, 16), (26, 0, 16), (28, 0, 16), (30, 0, 16),
       (32, 0, 16), (34, 0, 16), (36, 0, 8)] (lineBad e)) <|
    if g ≠ 0xFF && s.claimBusy 1 g 0x0C07 c then s.conflict 1 g
    else
      let t := s.lineApply c e
      .ok t 0 (resultOf [(16, 1, (t.line c).state.num)])

def execLineChannelSet (mb : Fin 129) (e : Entry) (s : State) : Result := runCmd rowLineChannelSet bodyLineChannelSet mb e none s

/-- LINE_CH_c (Table 13-20). A reading beyond its 16 bits shows a free value. -/
def LineChannel.word (x : LineChannel) (free : Nat) : Nat :=
  let fit (v k : Nat) : Nat := if v < 65536 then v else bitsAt free k 16
  fit x.currentMa 0 * 2 ^ 48 + fit x.voltageMv 16 * 2 ^ 32 + x.retriesLeft * 4096 + x.cause * 256 + x.state.num

def bodyLineChannelStatus : Body := fun s mb e _ =>
  andThen (entryCheck rowLineChannelStatus s mb e [(16, 0, 8)] [(31 < e.u8 16, 16)]) <|
    let x := s.line (e.u8 16)
    .ok s.draw.2 0 (resultOf [(16, 8, x.word s.draw.1.toNat), (24, 8, x.implausible.toNat)])

def execLineChannelStatus (mb : Fin 129) (e : Entry) (s : State) : Result :=
  runCmd rowLineChannelStatus bodyLineChannelStatus mb e none s

/-! ### Optics modules (R363–R365) -/

def State.moduleBus (s : State) (b : Nat) : ModuleBus := tget s.cad.modules ModuleBus.reset b
def State.setModuleBus (s : State) (b : Nat) (x : ModuleBus) : State :=
  { s with cad := { s.cad with modules := tset s.cad.modules ModuleBus.reset b x } }

/-- The expander of a bus answers with its inputs, active low: a change updates MOD_BUS_b and raises kind 7. -/
def State.expanderRead (s : State) (b v : Nat) : State :=
  let x := s.moduleBus b
  let y := { x with present := ~~~ BitVec.ofNat 8 v, int := ~~~ BitVec.ofNat 8 (v / 256) }
  if y = x then s else (s.setModuleBus b y).event 7 b

def moduleBad (e : Entry) : List (Bool × Nat) :=
  let op := e.u8 16
  let len := e.u8 23
  [fld (2 < op) 16, fld (15 < e.u8 17) 17] ++
  (if op = 2 then [fld (1 < e.u8 19) 19]
   else [fld (7 < e.u8 18) 18, fld (127 < e.u8 19) 19,
         fld (len < 1 || (if op = 0 then 16 else 32) < len || 256 < e.u8 22 + len) 23])

/-- An access with PAGED writes the bank and page selects where they differ from its last write. -/
def ModuleBus.select (x : ModuleBus) (e : Entry) : ModuleBus :=
  if e.bit 24 0 && 128 ≤ e.u8 22 then { x with selected := tset x.selected none (e.u8 18) (some (e.u8 20, e.u8 21)) } else x

/-- MODULE_ACCESS (R365). DESIGN CHOICE (log entry 163): the bus of an absent spoke is absent here, though VECTOR_MAP_SET kind 7 takes
its number on every part. -/
def bodyModuleAccess (reply : ModuleReply) : Body := fun s mb e _ =>
  let b := e.u8 17
  andThen (firstSome [
    entryCheck rowModuleAccess s mb e [(16, 0, 8), (17, 0, 8), (18, 0, 8), (19, 0, 8), (20, 0, 8), (21, 0, 8), (22, 0, 8), (23, 0, 8),
      (24, 0, 1), (32, 0, 256)] (moduleBad e),
    failIf (s.spokes ≤ b) 0x09 17]) <|
    let x := s.moduleBus b
    if e.u8 16 = 2 then
      .done (s.setModuleBus b { x with fast := e.bit 19 0, muxAddr := e.u8 20, expAddr := e.u8 21 })
    else if !x.present.getLsbD (e.u8 18) then .fail 0x06 0 0
    else match reply with
      | .noAck => .fail 0x06 0 0
      | .stretched =>
        .part ((s.draw.2.setModuleBus b { x with held := true }).perfEvent cadBlock 0x0102 1) 0x0E (s.draw.1.toNat % 2 ^ 32) 0
      | .ack data =>
        .ok ((s.setModuleBus b { (x.select e) with held := false }).perfEvent cadBlock 0x0102 1) 0
          (if e.u8 16 = 0 then BitVec.ofNat 128 (leNat (data.take (e.u8 23))) else 0)

def execModuleAccess (mb : Fin 129) (e : Entry) (reply : ModuleReply) (s : State) : Result :=
  runCmd rowModuleAccess (bodyModuleAccess reply) mb e none s

end Sys2Proof.Machine
end

