-- ==== Sys2Proof/Machine/Cycle.lean ====
section
/-! DEFINITION. The passing of time, and the work of a cadence cycle boundary (R335, R364, R393, R397, R409, R410). -/
namespace Sys2Proof.Machine
open Sys2Proof

/-! ### Time (R335, R353) -/

/-- The local clock of a block in kHz (Table 1-2); the switch core's is the crossbar's. -/
def blockClock (b : Nat) : Nat :=
  if b < 2 then 1000000 else if b < 26 then 1250000 else if b < 50 then 1066625
  else if b = 50 then 1875000 else if b = 51 then 1000000 else 1250000

/-- The events of Table 13-11 that hold in a block. -/
def State.levels (s : State) (b : Nat) : List Nat :=
  let spoke (n : Nat) : List Nat :=
    (if (upFrom (8 * n) 8).any (fun k => decide (s.fifoSize k < 2 * s.fifoUsed k)) then [0x0102] else []) ++
    (if s.gateOpen then [] else [0x0103]) ++ (if s.spokePaused n then [0x0104] else [])
  let pipe (p : Nat) : List Nat :=
    (if (s.pipe p).heads.isEmpty then [0x0101] else []) ++ (if (s.pipe p).matching.isEmpty then [] else [0x0104])
  if b = 1 then (if s.mboxes.all (fun m => m.2.inExec.isNone) then [0x0101] else [])
  else if b < 2 then []
  else if b < 18 then spoke (b - 2)
  else if b < 26 then pipe (b - 18)
  else if b < 50 then (if (s.channel (b - 26)).panic then [0x0102] else [])
  else if b = 50 then (if (tsome s.sw.nodes).any (fun e => keyLevel e.1 == 4 && s.refillWait (keyIndex e.1)) then [0x0105] else [])
  else []

/-- Notification interrupts held back to one in 10 µs per table are raised when that time is up (R171). -/
def State.notifyDue (s : State) : State :=
  forAll ((tkeys s.tables.learn).filter (fun t => (s.learnCfg t).intPending)) s (fun t s => s.notifyInt t)

/-- 2 ms after the release of reset the boot ROM has read the slot headers (Table 4-2). -/
def State.bootPass (s : State) : State :=
  if s.boot.phase = .romBoot && 2000000 ≤ s.now then { s with boot := { s.boot with phase := .authenticating } } else s

/-- `n` ns pass: time, and the clocks that the performance counters of each unfenced block count. -/
def State.pass (s : State) (n : Nat) : State :=
  let before := s.now
  let t := { s with cad := s.cad.advance n }.notifyDue.fencesCheck.bootPass
  forAll ((tkeys s.blocks).filter (fun b => s.blockPresent b && !s.blockFenced b)) t (fun b t =>
    t.setBlock b ((t.block b).clocks ((before + n) * blockClock b / 1000000 - before * blockClock b / 1000000) (s.levels b)))

/-! ### The lifeline watch (R393) -/

/-- HELD: marked frames and copies that the stores and the transmit staging hold for a port. -/
def State.lifelineHeld (s : State) (k : Nat) : Nat :=
  let stored := (tsome s.sw.frames).foldl (fun (n : Nat) (f : Nat × Frame) =>
    if !f.2.lifeline then n
    else n + (if f.2.store < 8 && f.2.dest == FrameDest.port k then 1 else 0) +
      f.2.targets.foldl (fun (m : Nat) (t : Target) => m + (match t with
        | .plain p _ _ => if p == k then 1 else 0
        | .intake _ _ q => (q.filter (fun x => x.1 == k)).length
        | .fabric _ _ _ _ => 0)) 0) 0
  let intake := s.sw.intakes.foldl (fun (n : Nat) (e : Nat × List Intake) =>
    n + (e.2.filter (fun i => i.done && i.frame.lifeline)).foldl (fun (m : Nat) (i : Intake) =>
      m + (i.queues.filter (fun x => x.1 == k)).length) 0) 0
  let queued := (s.queuesUnder k).foldl (fun n q => match s.classQueue q with
    | some x => n + (x.near.filter (fun f => match s.frame f with | some y => y.lifeline | none => false)).length +
        (x.far.filter (fun f => f.frame.lifeline)).length
    | none => n) 0
  let p := s.port k
  stored + intake + queued + ((p.staging ++ p.sending.toList).filter (fun t => t.lifeline && (t.complete || t.queue.isSome))).length

/-- The watch of one (port, slice) pair at a boundary, given its loss in the cycle. -/
def State.watchPair (s : State) (k n loss : Nat) : State :=
  let w := tget s.sw.watches LifelineWatch.reset (k * 256 + n)
  let recent := (loss :: w.recent).take 10
  let recent := if recent.all (· == 0) then [] else recent
  let above := decide ((s.slice n).budget < recent.foldl (· + ·) 0)
  let s := { s with sw := { s.sw with
    watches := tset s.sw.watches LifelineWatch.reset (k * 256 + n) { recent := recent, now := 0, assigned := false, overBudget := above } } }
  if above && !w.overBudget then (s.raise swBlock 23 (k + n * 256) false).event 9 k else s

/-- The watch of a port: unaccounted frames are charged to every slice that had marked frames assigned to it. -/
def State.watchPort (s : State) (k : Nat) : State :=
  let p := s.port k
  let open_ : Int := (p.llIn : Int) - p.llOut - p.llLost - s.lifelineHeld k
  let lost := (open_ - p.llSeen).toNat
  let s := s.modPort k (fun p => { p with llSeen := open_ })
  forAll ((tkeys s.sw.watches).filter (fun w => w / 256 == k)) s (fun w s =>
    let x := tget s.sw.watches LifelineWatch.reset w
    s.watchPair k (w % 256) (x.now + (if x.assigned && (s.slice (w % 256)).lifeline then lost else 0)))

def State.lifelineWatch (s : State) : State := forAll (tkeys s.ports) s (fun k s => s.watchPort k)

/-! ### The boundary -/

/-- The windows of a cycle close: FEC_DEGRADE, suppressed requests, and the codewords that a channel corrected. -/
def State.windowsClose (s : State) : State :=
  let s := forAll (tkeys s.ports) s (fun k s => s.modPort k (fun p => { p with link := { p.link with fecDegrade := p.link.fecBadNow, fecBadNow := false } }))
  let s := forAll (tkeys s.tables.learn) s (fun t s =>
    let c := s.learnCfg t
    s.setLearn t { c with suppressedPrev := c.suppressed, suppressed := 0, limitWritten := false })
  forAll (tkeys s.far.channels) s (fun c s => let x := s.channel c; s.setChannel c { x with correctedAt := tget x.counters 0 7 })

/-- The firmware reads the expanders of the module buses. -/
def State.expanders (s : State) (l : List (BitVec 16)) : State :=
  forAll (List.range (min l.length s.spokes)) s (fun b s => match l[b]? with | some v => s.expanderRead b v.toNat | none => s)

/-- What the firmware does at a boundary: it reads the expanders, applies what the journal has brought, and as the Captain sends
its record. -/
def State.firmwareCycle (s : State) (l : List (BitVec 16)) : State :=
  if !s.fw.fwReady || s.fw.halted then s
  else
    let s := s.expanders l
    let s := if s.tandem.role = .stoker || s.tandem.mustApply then s.catchUp else s
    if s.tandem.role = .captain then s.journalSend else s

/-- Time reaches the next cycle boundary, and the work of the cycle that ends is done. -/
def State.cadence (s : State) (l : List (BitVec 16)) : State :=
  if !s.running then s
  else
    let s := s.pass (1000000 - s.now % 1000000)
    let s := { s with wear := { s.wear with equivalent := s.wear.equivalent + Config.accelFactor s.wear.hottest } }
    (s.lifelineWatch.windowsClose).firmwareCycle l

/-- The firmware goes on with the batches in execution. -/
def State.batchesNext (s : State) : State := if s.fw.halted then s else forAll (tkeys s.mboxes) s (fun mb s => s.batchNext mb)

/-- A tick of the system reference while no command waits (log entry 1). -/
def State.tick (s : State) : State := if s.running then (s.pass 1).batchesNext else s

def execCadenceCycle (expanders : List (BitVec 16)) (s : State) : Result := .next (s.cadence expanders).gearCheck

end Sys2Proof.Machine
end

