-- ==== Sys2Proof/Machine/Host.lean ====
section
/-! DEFINITION. The events of chapter 12: doorbells, the frames of ring pairs, DMA reads and writes that fail, and MSI-X gaps. -/
namespace Sys2Proof.Machine
open Sys2Proof

/-! ### Doorbells (R318) -/

def State.txDoorbell (s : State) (g : Nat) (tail : BitVec 16) : State :=
  let r := (s.ring g).tx
  if r.state ≠ .running then s
  else if 2 ^ r.log2 < (tail - r.done).toNat then s.txFail g .doorbellRange
  else s.modTx g (fun r => { r with tail := tail })

def State.rxDoorbell (s : State) (g : Nat) (tail : BitVec 16) : State :=
  let r := (s.ring g).rx
  if r.state ≠ .running then s
  else if 2 ^ r.log2 < (tail - r.head).toNat then s.rxFail g .doorbellRange
  else (s.modRx g (fun r => { r with tail := tail })).rxFetch g

def execRingTxDoorbell (ring : Fin 4096) (tail : BitVec 16) (s : State) : Result := .next (s.txDoorbell ring.val tail)
def execRingRxDoorbell (ring : Fin 4096) (tail : BitVec 16) (s : State) : Result := .next (s.rxDoorbell ring.val tail)

/-! ### Frames (R322–R330) -/

def execHostRxFrame (s : State) : Result := .next s.hostRx.gearCheck

def execRxDescriptorFetchDone (ring : Fin 4096) (descs : List (BitVec 256)) (s : State) : Result :=
  .next ((s.rxFetched ring.val descs).ringSettle ring.val)

def execTxFetch (ring : Fin 4096) (s : State) : Result := .next (s.txFetch ring.val)

def execTxDescriptorsReceived (ring : Fin 4096) (descs : List (BitVec 256)) (start : Bytes) (s : State) : Result :=
  .next ((s.txDescs ring.val descs start).ringSettle ring.val).gearCheck

def execTxBufferReadDone (ring : Fin 4096) (data : Bytes) (s : State) : Result :=
  .next ((s.txRead ring.val data).ringSettle ring.val).gearCheck

def execRingStopped (ring : Fin 4096) (_ : Bool) (s : State) : Result := .next (s.ringSettle ring.val)

/-! ### Reads and writes that fail (R307, R451) -/

/-- The ring pair of a read. -/
def readRing (r : DmaRead) : Nat := match r with | .rxDescriptors g => g.val | .txDescriptors g => g.val | .txBuffer g => g.val

def execDmaCompletionTimeout (read : DmaRead) (s : State) : Result :=
  .next ((s.readFailed read).ringSettle (readRing read)).gearCheck

/-- The frame concerned completes with INCOMPLETE: the frame that the ring is writing, or the one whose completion was written last
(R325). -/
def State.markIncomplete (s : State) (g : Nat) : State :=
  let r := (s.ring g).rx
  match r.writing with
  | some w => s.modRx g (fun r => { r with writing := some { w with fault := true } })
  | none =>
    let a := ringSlot r.base r.log2 (r.head - 1) + 2
    match memAt (s.memFor ((s.ringSlice g).getD 128)) a with
    | some b => if r.state = .running then s.ringDma g a [b ||| 4] else s
    | none => s

/-- A write of a command's indirect buffer was in error: the command that is still in execution completes with TIMEOUT (R38); a batch
keeps the items that it has applied. -/
def State.bufferLost (s : State) (mb : Nat) : State :=
  match (s.mbox mb).inExec with
  | none => s
  | some x =>
    match opRow? x.opcode.toNat with
    | none => s
    | some r =>
      if !x.entry.indirect then s
      else match x.batch with
        | some b => (s.ruleFinish mb).complete mb r 0x0E 0xFFFFFFFF b.1 0
        | none => (s.rollback mb r.op).complete mb r 0x0E 0xFFFFFFFF 0 0

/-- A write that the PCIe logic found in error: PCIE, and what the owning rule adds. No count goes back. -/
def State.writeFailed (s : State) (w : DmaWrite) (aer : BitVec 32) : State :=
  let s := s.raise 0 17 aer.toNat false
  match w with
  | .rxBuffer g => s.markIncomplete g.val
  | .shadow =>
    if s.te.shadowValid then (s.setTe { s.te with shadowValid := false }).raise swBlock 21 0 false else s
  | .response _ => s
  | .indirect mb => s.bufferLost mb.val
  | .completion _ => s
  | .record => s

def execPcieWriteError (write : DmaWrite) (aer : BitVec 32) (s : State) : Result := .next (s.writeFailed write aer).gearCheck

/-! ### MSI-X (R308, R331) -/

/-- A vector's gap has passed: the merged event is sent, or discarded with its generation. -/
def State.gapExpired (s : State) (v : Nat) : State :=
  match (tget s.host.vectors Vector.reset v).merged with
  | none => s
  | some none => s.vectorDeliver v
  | some (some (n, gen)) =>
    if gen = (s.slice n).gen then s.vectorDeliver v
    else (s.setVector v { tget s.host.vectors Vector.reset v with merged := none }).genDiscard n 1

def execMsixGapExpiry (vector : Fin 2048) (s : State) : Result := .next (s.gapExpired vector.val).fencesCheck

end Sys2Proof.Machine
end

