-- ==== Sys2Proof/Machine/Readings.lean ====
section
/-! DEFINITION. What the registers of BAR0 and BAR2 read (chapters 02 to 15). A register of access type RS reads as its last
sample. A reserved address, an absent block and a slice page that is NONE read zero. -/
namespace Sys2Proof.Machine
open Sys2Proof

/-- Register `i` of an array of `n` at `base`, `stride` bytes apart, when the offset is one. -/
def regArray (off base stride n : Nat) (f : Nat → Nat) : Option Nat :=
  if base ≤ off && off < base + n * stride && (off - base) % stride = 0 then some (f ((off - base) / stride)) else none

/-- A single register. -/
def reg (off at_ v : Nat) : Option Nat := if off = at_ then some v else none

/-- 64-bit counter `i` of a table. -/
def cnt (t : Tab (BitVec 64)) (i : Nat) : Nat := (tget t 0 i).toNat

/-- A bitmap over 0 to n − 1. -/
def bitmap (n : Nat) (f : Nat → Bool) : Nat := ((List.range n).filter f).foldl (fun m i => m + 2 ^ i) 0

/-! ### The common header (Tables 2-24, 2-25, 13-9, 14-2 to 14-4a, 14-10) -/

/-- KIND and INSTANCE of a block. -/
def blockKind (b : Nat) : Nat × Nat :=
  if b < 2 then (b, 0) else if b < 18 then (2, b - 2) else if b < 26 then (3, b - 18) else if b < 50 then (4, b - 26) else (b - 45, 0)

def HistEntry.words (h : HistEntry) : Nat × Nat :=
  (h.time, h.code + h.severity * 256 + bit h.inj * 1024 + h.count * 65536 + h.detail.toNat * 2 ^ 32)

def PerfCounter.select (c : PerfCounter) : Nat := c.event.toNat + c.mode.toNat * 2 ^ 16 + bit c.chain * 2 ^ 18 + bit c.ovf * 2 ^ 32

def Block.histStatus (x : Block) : Nat := x.next.toNat + x.total.toNat * 2 ^ 32
def Block.inject (x : Block) : Nat := x.injCode.toNat + bit x.fatalOk * 256

def State.headerReg (s : State) (b off : Nat) : Option Nat :=
  let x := s.block b
  let k := blockKind b
  let perf (i : Nat) : PerfCounter := tget x.perf PerfCounter.reset i
  firstSome [
    reg off 0x000 (1 + 1 * 2 ^ 16 + k.2 * 2 ^ 24 + k.1 * 2 ^ 32 + b * 2 ^ 40 + s.partCode * 2 ^ 48),
    reg off 0x010 (s.errStatus b), reg off 0x018 x.mask.toNat, reg off 0x020 x.inject, reg off 0x028 x.histStatus,
    regArray off 0x040 16 8 (fun i => match tget x.history none i with | some h => h.words.1 | none => 0),
    regArray off 0x048 16 8 (fun i => match tget x.history none i with | some h => h.words.2 | none => 0),
    regArray off 0x100 8 8 (fun i => (perf i).select), regArray off 0x140 8 8 (fun i => (perf i).sampled.toNat),
    regArray off 0x180 8 8 (fun i => (perf i).ticked.toNat), reg off 0x1C0 x.sampleTime.toNat, reg off 0x1C8 x.sampleCycle.toNat ]

/-! ### Mailboxes and rings (Tables 2-1 to 2-8, 12-18 to 12-20) -/

def RunState.num (x : RunState) : Nat := match x with | .disabled => 0 | .running => 1 | .error => 2 | .stopping => 3
def MboxCause.num (x : MboxCause) : Nat :=
  match x with
  | .none => 0 | .badBase => 1 | .badVector => 2 | .fetchFault => 3 | .seqGap => 4 | .doorbellRange => 5 | .headRange => 6
def RingCause.num (x : RingCause) : Nat := match x with | .none => 0 | .doorbellRange => 1 | .fetchFault => 2

/-- MBOX_STATUS. -/
def Mailbox.status (m : Mailbox) : Nat :=
  m.state.num + m.errCause.num * 256 + m.cmdHead.toNat * 2 ^ 16 + m.rspTail.toNat * 2 ^ 32 + m.cmdTail.toNat * 2 ^ 48

/-- MBOX_CFG. -/
def Mailbox.cfg (m : Mailbox) : Nat :=
  m.cmdLog2.toNat + m.rspLog2.toNat * 256 + m.intMode.toNat * 2 ^ 14 + m.vector.toNat * 2 ^ 16

def Mailbox.regAt (m : Mailbox) (off : Nat) : Option Nat :=
  firstSome [reg off 0x00 m.cmdBase.toNat, reg off 0x08 m.rspBase.toNat, reg off 0x10 m.cfg,
    reg off 0x18 (bit m.enable + m.seqInit.toNat * 2 ^ 32), reg off 0x20 m.status, reg off 0x28 0, reg off 0x30 m.rspHead.toNat]

/-- RING_STATE and RING_TAILS. -/
def RingPair.stateWord (r : RingPair) : Nat :=
  r.rx.state.num + r.tx.state.num * 4 + r.rx.cause.num * 2 ^ 8 + r.tx.cause.num * 2 ^ 12 + r.rx.head.toNat * 2 ^ 16 +
    r.tx.head.toNat * 2 ^ 32 + r.tx.done.toNat * 2 ^ 48
def RingPair.tailsWord (r : RingPair) : Nat := r.rx.tail.toNat + r.tx.tail.toNat * 2 ^ 16

/-! ### The global page (Tables 2-14 to 2-18, 4-3, 12-2, 14-8) -/

/-- CAP_WORD_0 to 3. -/
def State.capWord (s : State) (i : Nat) : Nat :=
  match i with
  | 0 => if !s.boot.capValid then 0 else match s.fuses.part with
    | .bx6400 => 0x011FFFFFFFFFFFFF | .bx6240 => 0x011EFFFFFFFFFFFF | .bx6120 => 0x01180000000F00FF
  | 1 => if !s.boot.capValid then 0 else match s.fuses.part with
    | .bx6400 => 0x0800204080803000 | .bx6240 => 0x0800204080801800 | .bx6120 => 0x0800202040803000
  | 2 => if !s.boot.capValid then 0 else
    s.fuses.siliconStep.toNat + s.fuses.romRelease.toNat * 2 ^ 8 + 0x1000 * 2 ^ 16 + 0x20 * 2 ^ 32 + 0x20 * 2 ^ 40 + 0x10 * 2 ^ 48
  | _ => bit s.fw.fwReady + s.fw.commandLevel.toNat * 2 ^ 16 + s.fw.fwMinor.toNat * 2 ^ 32 + s.fw.fwMajor.toNat * 2 ^ 48

def DumpState.num (x : DumpState) : Nat := match x with | .off => 0 | .armed => 1 | .writing => 2 | .done => 3

/-- BELL_CTRL. -/
def State.bellCtrl (s : State) : Nat :=
  bit s.bell.hostStop + s.bell.dumpState.num * 2 ^ 32 + s.bellCause * 2 ^ 40 + s.bell.rateHz.toNat * 2 ^ 48

/-- 64 bits of the pending bit array. -/
def State.pendingWord (s : State) (j : Nat) : Nat := bitmap 64 (fun i => (tget s.host.vectors Vector.reset (64 * j + i)).pending)

def State.globalReg (s : State) (off : Nat) : Option Nat :=
  let vec (i : Nat) : Vector := tget s.host.vectors Vector.reset i
  firstSome [
    regArray off 0x400 8 4 s.capWord, reg off 0x440 s.boot.word, reg off 0x460 s.bellCtrl, reg off 0x468 0,
    (if 0x500 ≤ off && off < 0x540 then (s.mbox 0).regAt (off - 0x500) else none),
    regArray off 0x3000 16 256 (fun g => (s.ring g).stateWord), regArray off 0x3008 16 256 (fun g => (s.ring g).tailsWord),
    regArray off 0x7F00 8 32 s.pendingWord, regArray off 0x8000 16 2048 (fun i => (vec i).addr.toNat),
    regArray off 0x8008 16 2048 (fun i => (vec i).data.toNat + bit (vec i).masked * 2 ^ 32) ]

/-! ### The Tsuska page (Tables 4-10, 4-11) -/

/-- MATCH_n of a bank. -/
def State.matchReg (s : State) (k : Nat) (bank : Bool) (n : Nat) : Nat :=
  match (s.bankPatch k bank).entries[n]? with
  | some e => e.1.toNat + e.2.toNat * 2 ^ 32 + 2 ^ 63
  | none => 0

/-- A sequencer type has an activation in progress. -/
def State.seqSwitching (s : State) (k : Nat) : Bool :=
  match s.fw.activation with
  | some a => a.started && (if k = 2 then a.tablePending else s.switching (· == Switch.patch))
  | none => false

/-- SEQ_PATCH_STATUS_k. -/
def State.seqStatus (s : State) (k : Nat) : Nat :=
  let id := match s.fw.active with | some b => b.id.toNat % 2 ^ 32 | none => 0
  bit (if k = 2 then s.te.bank else s.fw.bank) + bit (s.seqSwitching k) * 2 +
    (if k = 2 then 0 else min 255 (s.flying 4 (!s.fw.bank))) * 2 ^ 8 + (s.bankPatch k s.fw.bank).words.length * 2 ^ 16 + id * 2 ^ 32

def State.tsuskaReg (s : State) (off : Nat) : Option Nat :=
  let bank (k base : Nat) : Option Nat :=
    firstSome [regArray off base 8 64 (s.matchReg k false), regArray off (base + 0x200) 8 64 (s.matchReg k true)]
  firstSome [bank 0 0x800, bank 1 0xC00, bank 2 0x1000, regArray off 0x1400 8 3 s.seqStatus]

/-! ### Spoke pages (Tables 5-5 to 5-14) -/

/-- SPOKE_LAYOUT: four bits per lane. -/
def State.spokeLayout (s : State) (n : Nat) : Nat :=
  (List.range 8).foldl (fun v c =>
    let l := 8 * n + c
    let x := match s.portOfLane l with | some k => if k = l then (s.port k).cfg.width else 15 | none => 0
    v + x * 16 ^ c) 0

/-- A port's transmitters are on. -/
def State.transmits (s : State) (k : Nat) : Bool := s.lineSignal k != .electricalIdle

def State.spokeGate (s : State) (n : Nat) : Nat := bitmap 8 (fun k => !s.transmits (8 * n + k)) + bit s.gateOpen * 256

def PortPause.word (p : PortPause) : Nat :=
  p.rxMask.toNat + p.txMask.toNat * 2 ^ 8 + p.mode * 2 ^ 16 + p.watchdogMs * 2 ^ 18 + p.rxQuantaMax * 2 ^ 32 + p.txQuanta * 2 ^ 48

/-- LANE_STATUS of a lane. -/
def State.laneWord (s : State) (l : Nat) : Nat :=
  let x := s.lane l
  let k := s.portOfLane l
  bit (match k with | some k => !s.transmits k | none => true) * 8 + bit (match k with | some k => s.trainingNow k | none => false) * 16 +
    bit x.lock * 32 + bit x.cdr * 64 + bit x.sd * 128 + x.snrCb.toNat * 2 ^ 16

def PausePrio.word (p : PausePrio) : Nat := p.xoff + p.xon * 2 ^ 20 + p.headroom * 2 ^ 40

def State.spokeReg (s : State) (n off : Nat) : Option Nat :=
  let port (k : Nat) : Port := s.port (8 * n + k)
  firstSome [
    reg off 0x400 (s.spokeLayout n), reg off 0x408 (s.spokeGate n), regArray off 0x500 0x40 8 (fun k => (port k).cfg.word),
    regArray off 0x508 0x40 8 (fun k => s.portStateWord (8 * n + k)), regArray off 0x510 0x40 8 (fun k => (port k).pause.word),
    regArray off 0x518 0x40 8 (fun k => (port k).cfg.tsRx.toNat + (port k).cfg.tsTx.toNat * 2 ^ 16),
    regArray off 0x700 8 8 (fun c => s.laneWord (8 * n + c)),
    regArray off 0x800 8 64 (fun i => ((port (i / 8)).prio (i % 8)).word),
    regArray off 0x2000 8 256 (fun i => if i % 32 ≤ 24 then cnt (port (i / 32)).counters (i % 32) else 0) ]

/-! ### Pipe pages (Tables 6-9 to 6-14, 8-10 to 8-15) -/

def State.pipeReg (s : State) (p off : Nat) : Option Nat :=
  let x := s.pipe p
  let held (kind : Nat) (bank : Bool) : Nat := min 0xFFFF (x.flying kind (!bank))
  let used := (tsome x.rules).length
  firstSome [
    reg off 0x1000 (bit x.graphBank + bit (held 1 x.graphBank != 0) * 2 + bit x.custBank * 4 + bit (held 2 x.custBank != 0) * 8 +
      held 1 x.graphBank * 2 ^ 16 + held 2 x.custBank * 2 ^ 32),
    regArray off 0x1100 8 16 (cnt x.parseCnt), reg off 0x1400 (x.matchGear + bit (s.isFenced 4 p) * 4),
    regArray off 0x1410 8 16 (fun j => (s.port (16 * p + j)).patternSet), regArray off 0x1500 8 8 (cnt x.matchCnt),
    reg off 0x1800 (bit (s.isFenced 3 p) + s.tcamSize / 256 * 2 ^ 8 + s.tcamSize * 2 ^ 16 + used * 2 ^ 32),
    reg off 0x1808 (bit x.actBank + bit (held 3 x.actBank != 0) * 2 + held 3 x.actBank * 2 ^ 16),
    reg off 0x1810 (x.recirc.share + bit x.recirc.enable * 2 ^ 8 + x.recirc.limit * 2 ^ 16 + s.cellsOf (s.queueOf (qRecirc p)) * 2 ^ 32),
    reg off 0x1818 (bit x.matrixCopy + x.matrixLoads.toNat * 2 ^ 16), regArray off 0x1900 8 16 (cnt x.actionCnt),
    regArray off 0x1C00 8 129 (cnt x.isoDrop) ]

/-! ### The switch core page (Tables 7-10 to 7-18, 9-15 to 9-20, 10-11 to 10-15) -/

/-- TE_STATUS. -/
def State.teStatus (s : State) : Nat :=
  let r := match s.te.running with | some r => r.id * 2 ^ 48 + r.step % 2 ^ 32 | none => 0
  r + s.quarters * 2 ^ 36 + min 255 s.te.queued.length * 2 ^ 40

/-- EM_OCCUPANCY: bucket slots used and in all, overflow units used. -/
def State.emOccupancy (s : State) : Nat :=
  let units (f : Nat → Bool) : Nat := (tsome s.tables.entries).foldl (fun n e => if f e.1 then n + s.entrySlots e.2 else n) 0
  let fenced := ((List.range 128).filter (fun b => s.isFenced 5 b)).length
  units (fun i => decide (overflowBase ≤ i)) * 2 + (128 - fenced) * 8192 * s.quarters * 2 ^ 18 + units (fun i => decide (i < overflowBase)) * 2 ^ 41

def State.scrubStatus (s : State) : Nat := s.te.lastPass.toNat + s.te.passCount.toNat * 2 ^ 32 + bit s.te.shadowValid * 2 ^ 63

/-- TABLE_STATE_t. -/
def State.tableState (s : State) (t : Nat) : Nat :=
  let c := s.learnCfg t
  let n := ((s.entriesOf t).filter (fun e => !(match e.2.twin with | some j => decide (j < e.1) | none => false))).length
  bit (c.flags.getLsbD 0 && s.tableChange.isNone && s.tandem.role != .stoker) + s.learnedOf t * 2 ^ 18 + n * 2 ^ 41

def Store.auditWord (x : Store) : Nat := bit x.mismatch + bit (x.overdue != 0) * 2 + x.leaked * 2 ^ 8 + x.lastCycle.toNat * 2 ^ 32

/-- The class queues in existence. -/
def State.queuesAll (s : State) : List Nat :=
  ((tsome s.sw.nodes).filter (fun e => keyLevel e.1 == 4)).map (fun e => keyIndex e.1)

/-- SCHED_STATUS. -/
def State.schedStatus (s : State) : Nat :=
  let l := s.queuesAll
  let paused (q : Nat) : Bool := match s.rootPort (nodeKey 4 q), s.classQueue q with
    | some k, some x => (!x.near.isEmpty || !x.far.isEmpty) && (s.port k).paused (q % 8) s.now
    | _, _ => false
  bit s.sw.ready + min 0xFFFF (l.filter paused).length * 2 ^ 16 + min 0xFFFF (l.filter s.refillWait).length * 2 ^ 32

def State.switchReg (s : State) (off : Nat) : Option Nat :=
  let sample := cnt s.host.samples (0x700000 + off)
  firstSome [
    regArray off 0x1000 8 9 (fun _ => sample), reg off 0x1048 sample, regArray off 0x1100 8 10 (fun n => (s.store n).auditWord),
    regArray off 0x1200 8 2 (fun j => bitmap 64 (fun b => (s.port (64 * j + b)).flushing)), regArray off 0x1400 8 8 (cnt s.sw.counters),
    regArray off 0x2000 8 2048 (fun i => cnt (s.port (i / 16)).drops (i % 16)), reg off 0x8000 s.teStatus,
    reg off 0x8008 (s.te.seed0.toNat + s.te.seed1.toNat * 2 ^ 32), reg off 0x8010 s.emOccupancy,
    reg off 0x8018 (unitsTotal s.gears.table * 2 ^ 16 + s.unitsUsed * 2 ^ 40), reg off 0x8020 s.scrubStatus,
    regArray off 0x8030 8 2 (fun j => bitmap 64 (fun b => s.isFenced 5 (64 * j + b))), regArray off 0x8100 8 16 (cnt s.te.counters),
    regArray off 0x8400 8 129 (cnt s.te.stale), regArray off 0x9000 8 256 s.tableState, reg off 0xA000 s.schedStatus,
    regArray off 0xA008 8 4 (fun i => ((tsome s.sw.nodes).filter (fun e => keyLevel e.1 == i + 1)).length),
    reg off 0xA040 ((s.sw.policers.filter (fun e => e.2.mode != 0)).length), regArray off 0xA100 8 8 (cnt s.sw.schedCnt) ]

/-! ### DRAM channel pages (Tables 11-7 to 11-11) -/

def ChannelState.num (x : ChannelState) : Nat :=
  match x with | .init => 0 | .inService => 1 | .retraining => 2 | .selfRefresh => 3 | .fenced => 4

def State.channelReg (s : State) (c off : Nat) : Option Nat :=
  let x := s.channel c
  firstSome [
    reg off 0x400 (x.mr4.toNat * 2 ^ 13 + x.owed.foldl (fun n e => max n e.2) 0 * 2 ^ 16 + bit s.far.lowTraffic * 2 ^ 20 +
      bit x.panic * 2 ^ 21 + x.attempts * 2 ^ 22 + x.cause * 2 ^ 24 + x.state.num * 2 ^ 28 + x.lastTrain.toNat * 2 ^ 32),
    reg off 0x408 (s.far.retryS + x.density * 2 ^ 16 + s.far.speed * 2 ^ 20 + s.far.panicNs * 2 ^ 32 + s.far.idleNs * 2 ^ 48),
    reg off 0x410 (x.free + x.total * 2 ^ 32), regArray off 0x500 8 16 (cnt x.counters) ]

/-! ### The Cadence page (Tables 13-15 to 13-21) -/

def ModuleBus.word (x : ModuleBus) : Nat := bit x.fast + bit x.held * 2 + x.present.toNat * 2 ^ 8 + x.int.toNat * 2 ^ 16

def State.cadenceReg (s : State) (off : Nat) : Option Nat :=
  firstSome [
    regArray off 0x400 8 3 (fun i => cnt s.host.samples (0x780400 + 8 * i)), reg off 0x418 s.cycle.toNat,
    reg off 0x420 (bit s.cad.slew.isSome + bit s.cad.pps.enable * 2 + (s.cad.freq % 2 ^ 32).toNat * 2 ^ 32),
    reg off 0x428 (bitmap 16 (fun t => (tget s.cad.timers none t).isSome)), regArray off 0x500 8 32 (fun c => (s.line c).word s.draw.1.toNat),
    regArray off 0x600 8 16 (fun b => (s.moduleBus b).word), regArray off 0x700 8 4 (cnt s.cad.counters) ]

/-! ### The Tandem page (Tables 15-9 to 15-13) -/

def State.tandemReg (s : State) (off : Nat) : Option Nat :=
  firstSome [reg off 0x400 s.tandemState, reg off 0x408 s.tandemJournal, regArray off 0x500 8 3 s.fabricLinkReg,
    regArray off 0x600 8 16 (cnt s.tandem.counters)]

/-! ### Slice pages (Tables 12-14 to 12-20) -/


def State.slicePage (s : State) (n off : Nat) : Option Nat :=
  let x := s.slice n
  if x.state = .none then none
  else
    let r := s.rangeOf n 16
    let v := s.rangeOf n 17
    firstSome [
      reg off 0x0000 (x.state.num + n * 2 ^ 8 + x.gen.toNat * 2 ^ 16), reg off 0x0008 (r.first + r.count * 2 ^ 16),
      reg off 0x0010 (v.first + v.count * 2 ^ 16), (if 0x100 ≤ off && off < 0x140 then (s.mbox (n + 1)).regAt (off - 0x100) else none),
      regArray off 0x8000 16 r.count (fun i => (s.ring (r.first + i)).stateWord),
      regArray off 0x8008 16 r.count (fun i => (s.ring (r.first + i)).tailsWord) ]

/-! ### The dump window (Table 14-9) -/

/-- What the dump window returns at an 8-byte offset, for the parts whose layout the spec gives: the blocks and the log. -/
def Dump.wordAt (d : Dump) (s : State) (off : Nat) : Option Nat :=
  if 0x100 ≤ off && off < 0x100 + 53 * 160 then
    let b := (off - 0x100) / 160
    let o := (off - 0x100) % 160
    let t := { s with blocks := d.blocks }
    let x := t.block b
    if o = 0 then some (t.errStatus b) else if o = 8 then some x.mask.toNat else if o = 16 then some x.histStatus
    else if o < 152 then some (match tget x.history none ((o - 24) / 16) with
      | some h => if (o - 24) % 16 = 0 then h.words.1 else h.words.2
      | none => 0)
    else some 0
  else if 0x8000 ≤ off && off < 0x8000 + 7168 * 32 then
    some (match d.log[(off - 0x8000) / 32]? with | some r => leAt r.bytes ((off - 0x8000) % 32) 8 | none => 0)
  else none

/-! ### The pages of BAR0 (Table 1-1) -/

/-- The block and the page offset of an address. -/
def pageOf (a : Nat) : Option (Nat × Nat) :=
  if a < 0x10000 then some (0, a)
  else if a < 0x20000 then some (1, a - 0x10000)
  else if 0x100000 ≤ a && a < 0x200000 then some (spokeBlock ((a - 0x100000) / 0x10000), a % 0x10000)
  else if 0x400000 ≤ a && a < 0x600000 then some (pipeBlock ((a - 0x400000) / 0x40000), a % 0x40000)
  else if 0x600000 ≤ a && a < 0x618000 then some (channelBlock ((a - 0x600000) / 0x1000), a % 0x1000)
  else if 0x700000 ≤ a && a < 0x780000 then some (swBlock, a - 0x700000)
  else if 0x780000 ≤ a && a < 0x7C0000 then some (cadBlock, a - 0x780000)
  else if 0x7C0000 ≤ a && a < 0x800000 then some (tandemBlock, a - 0x7C0000)
  else none

/-- A register of a block page beyond its header. -/
def State.blockReg (s : State) (b off : Nat) : Option Nat :=
  if b = 0 then s.globalReg off else if b = 1 then s.tsuskaReg off else if b < 18 then s.spokeReg (b - 2) off
  else if b < 26 then s.pipeReg (b - 18) off else if b < 50 then s.channelReg (b - 26) off else if b = 50 then s.switchReg off
  else if b = 51 then s.cadenceReg off else s.tandemReg off

/-- What a 64-bit read of BAR0 returns; none where the spec gives the contents no layout. In phase FAILED only the global page
reads. -/
def State.bar0Read (s : State) (a : Nat) : Option Nat :=
  if 0x800000 ≤ a then
    match s.bell.dumpState, s.bell.dump with
    | .done, some d => d.wordAt s (a - 0x800000)
    | _, _ => some 0
  else match pageOf a with
    | none => some 0
    | some (b, off) =>
      if !s.blockPresent b || (s.boot.phase = .failed && b ≠ 0) then some 0
      else some ((firstSome [s.headerReg b off, s.blockReg b off]).getD 0)

/-- What a 64-bit read of BAR2 returns. -/
def State.bar2Read (s : State) (a : Nat) : Nat :=
  if s.boot.phase = .failed then 0 else (s.slicePage (a / 0x10000) (a % 0x10000)).getD 0

/-! ### Output balls (R443, Table 16-7) -/

/-- The output balls of Table 16-7. -/
inductive OutBall where
  | bell | claimOut | modTxdis (n : Nat) | lineEn (c : Nat) | ppsOut | synceOut (n : Nat) | lineSense (b : Nat) | spi | gpio (n : Nat)
  | moduleBus (n : Nat) | avs | tdo
deriving DecidableEq, Repr

/-- What a ball shows: nothing, as at high impedance or released; a level; its idle state; or its signal. -/
inductive BallLevel where
  | highZ | low | high | idle | signal
deriving DecidableEq, Repr

/-- The column 'SYS_RESET_N low'. -/
def OutBall.inReset (b : OutBall) : BallLevel :=
  match b with
  | .modTxdis _ => .high
  | .spi | .gpio _ | .moduleBus _ | .tdo => .highZ
  | .avs => .idle
  | .bell | .claimOut | .lineEn _ | .ppsOut | .synceOut _ | .lineSense _ => .low

/-- The column 'From reset release'. FREE_NS counts from the release (R335). -/
def State.ballLive (s : State) (b : OutBall) : BallLevel :=
  match b with
  | .bell => if s.bellRuns then .signal else .low
  | .claimOut | .lineSense _ => if s.now < 100000 then .low else .signal
  | .modTxdis n => if s.transmits n then .low else .high
  | .lineEn c => if (s.line c).enabled then .high else .low
  | .ppsOut => if s.now < s.cad.pps.endNs then .high else .low
  | .synceOut n => if (s.synceOut n).enable && !(s.synceOut n).squelched then .signal else .low
  | .spi => if s.balls.spiDriven then .signal else .highZ
  | .gpio n => if (s.gpio n).function = 2 then (if (s.gpio n).value then .high else .low) else .highZ
  | .moduleBus _ | .tdo => .highZ
  | .avs => if s.now < 60000000 then .idle else .signal

/-- What an output ball shows. A module bus is driven within a MODULE_ACCESS only, and TDO is not modelled (log entry 169). -/
def State.ballLevel (s : State) (b : OutBall) : BallLevel :=
  if !s.balls.powered then .highZ else if !s.balls.sysResetN then b.inReset else s.ballLive b

end Sys2Proof.Machine
end

