-- ==== Sys2Proof/Machine/Registers.lean ====
section
/-! DEFINITION. Host accesses to registers (R10, R12, R28): performance counter selects and samples, the samples of RS
registers, and writes of any register of BAR0 and BAR2. -/
namespace Sys2Proof.Machine
open Sys2Proof

/-! ### Performance counters (R353, R354) -/

def Block.counter (x : Block) (i : Nat) : PerfCounter := tget x.perf PerfCounter.reset i
def Block.setCounter (x : Block) (i : Nat) (c : PerfCounter) : Block := { x with perf := tset x.perf PerfCounter.reset i c }

/-- Change a block that is present. -/
def State.modBlock (s : State) (b : Nat) (f : Block → Block) : State :=
  if s.blockPresent b then s.setBlock b (f (s.block b)) else s

/-- The low half of PERF_SEL_i is written (Table 13-9): a change of EVENT, MODE or CHAIN, or CLEAR, zeros the counter. -/
def PerfCounter.selectWrite (c : PerfCounter) (v : BitVec 32) : PerfCounter :=
  let ev : BitVec 16 := v.extractLsb' 0 16
  let m : BitVec 2 := v.extractLsb' 16 2
  let ch := v.getLsbD 18
  { c with event := ev, mode := m, chain := ch,
           count := if c.event ≠ ev || c.mode ≠ m || c.chain ≠ ch || v.getLsbD 19 then 0 else c.count }

def State.perfSelect (s : State) (b i : Nat) (v : BitVec 32) : State :=
  s.modBlock b (fun x => x.setCounter i ((x.counter i).selectWrite v))
def State.perfClear (s : State) (b i : Nat) : State := s.modBlock b (fun x => x.setCounter i { x.counter i with count := 0 })
def State.perfOvf (s : State) (b i : Nat) : State := s.modBlock b (fun x => x.setCounter i { x.counter i with ovf := false })

/-- A counter that counts the carries of the one below it. -/
def Block.chained (x : Block) (i : Nat) : Bool := i != 0 && (x.counter i).chain

/-- The counters chained above `i`, upwards. -/
def Block.above (x : Block) (fuel i : Nat) : List Nat :=
  match fuel with
  | 0 => []
  | k + 1 => if i + 1 < 8 && x.chained (i + 1) then (i + 1) :: x.above k (i + 1) else []

/-- A read of an unchained counter samples it and every counter chained above it. -/
def Block.sampleChain (x : Block) (i : Nat) : Block :=
  if x.chained i then x
  else (i :: x.above 8 i).foldl (fun x j => x.setCounter j { x.counter j with sampled := (x.counter j).count }) x

def execPerfSelConfig (block : Fin 53) (i : Fin 8) (value : BitVec 32) (s : State) : Result :=
  .next (s.perfSelect block.val i.val value)
def execPerfCounterClear (block : Fin 53) (i : Fin 8) (s : State) : Result := .next (s.perfClear block.val i.val)
def execPerfOvfClear (block : Fin 53) (i : Fin 8) (s : State) : Result := .next (s.perfOvf block.val i.val)
def execPerfCounterSample (block : Fin 53) (i : Fin 8) (s : State) : Result :=
  .next (s.modBlock block.val (fun x => x.sampleChain i.val))

/-! ### Samples of RS registers (R10, R223, R366) -/

/-- The sample that an RS register at a BAR0 address returns. -/
def State.setSample (s : State) (a v : Nat) : State :=
  { s with host := { s.host with samples := tset s.host.samples 0 a (BitVec.ofNat 64 v) } }

/-- FAR_COUNT (Table 9-17). -/
def State.farSample (s : State) : State :=
  let c := s.storeCounts 9
  if s.hasFar then s.setSample 0x701048 (c.2.1 + c.2.2.1 * 2 ^ 25 + c.2.2.2 * 2 ^ 50) else s

/-- CHAIN_COUNT_n (Table 9-16); store 9 has FAR_COUNT. -/
def State.chainSample (s : State) (n : Nat) : State :=
  if n = 9 then s.farSample
  else
    let c := s.storeCounts n
    if s.storePresent n then s.setSample (0x701000 + 8 * n) (c.2.1 + c.2.2.1 * 2 ^ 21 + c.2.2.2 * 2 ^ 42) else s

/-- TIME_SAMPLE_SEC, TIME_SAMPLE_NS and TIME_SAMPLE_FREE, at one instant. -/
def State.timeSample (s : State) : State :=
  ((s.setSample 0x780400 (s.ptpSec + s.cad.stepCount.toNat * 2 ^ 48)).setSample 0x780408 s.ptpNs).setSample 0x780410 s.now

def execChainCountSample (store : Fin 10) (s : State) : Result := .next (s.chainSample store.val)
def execFarCountSample (s : State) : Result := .next s.farSample
def execTimeSample (s : State) : Result := .next s.timeSample

/-! ### Register writes (R10, R12, R28) -/

/-- The halves that a write carries, low and high. -/
structure Halves where
  lo : Option (BitVec 32)
  hi : Option (BitVec 32)
deriving DecidableEq, Repr

/-- A 32-bit access carries the half that its address names. -/
def halvesOf (a : Nat) (w : RegWidth) (v : BitVec 64) : Halves :=
  match w with
  | .full => { lo := some (v.extractLsb' 0 32), hi := some (v.extractLsb' 32 32) }
  | .half => if a % 8 = 4 then { lo := none, hi := some (v.extractLsb' 0 32) } else { lo := some (v.extractLsb' 0 32), hi := none }

/-- A stored value with the written halves. -/
def Halves.over_ (h : Halves) (v : BitVec 64) : BitVec 64 :=
  (h.hi.getD (v.extractLsb' 32 32)) ++ (h.lo.getD (v.extractLsb' 0 32))

/-- The bits that a write carries; a half that it leaves out carries zeros. -/
def Halves.bits (h : Halves) : BitVec 64 := h.over_ 0

/-- A write of a mailbox register (Tables 2-1 to 2-8). -/
def State.mboxWrite (s : State) (mb off : Nat) (h : Halves) : State :=
  let m := s.mbox mb
  let base (v : BitVec 64) : BitVec 64 := h.over_ v &&& ~~~ 0xFFF#64
  let config (f : Mailbox → Mailbox) : State :=
    if s.mboxLive mb && m.state = .disabled then s.setMbox mb (f m) else s
  match off with
  | 0x00 => config (fun m => { m with cmdBase := base m.cmdBase })
  | 0x08 => config (fun m => { m with rspBase := base m.rspBase })
  | 0x10 => match h.lo with
    | some v => config (fun m => { m with cmdLog2 := v.extractLsb' 0 4, rspLog2 := v.extractLsb' 8 4, intMode := v.extractLsb' 14 2,
                                          vector := v.extractLsb' 16 11 })
    | none => s
  | 0x18 => match h.lo with
    | some v => if v.getLsbD 0 then s.mboxEnable mb h.hi else s.mboxDisable mb h.hi
    | none => if s.mboxLive mb then s.setMbox mb { m with seqInit := h.hi.getD m.seqInit } else s
  | 0x28 => match h.lo with | some v => s.mboxDoorbell mb (v.extractLsb' 0 16) | none => s
  | 0x30 => match h.lo with | some v => s.mboxRspHead mb (v.extractLsb' 0 16) | none => s
  | _ => s

/-- ERR_MASK keeps no bit of a fatal code (R370). -/
def maskBits (b : Nat) (w : BitVec 48) : BitVec 48 :=
  (List.range 48).foldl (fun m c => if severity b c = 2 then setCode m c false else m) w

/-- A write of the common header of a block page. -/
def State.headerWrite (s : State) (b off : Nat) (h : Halves) : State :=
  if !s.blockPresent b then s
  else match off with
    | 0x010 => forAll ((List.range 48).filter (fun c => h.bits.getLsbD c)) s (fun c s => s.clearCode b c)
    | 0x018 => s.modBlock b (fun x => { x with mask := maskBits b ((h.over_ (x.mask.setWidth 64)).setWidth 48) })
    | 0x020 =>
      let x := s.block b
      s.errInject b (h.over_ (BitVec.ofNat 64 (x.injCode.toNat + bit x.fatalOk * 256)))
    | _ =>
      if 0x100 ≤ off && off < 0x140 && off % 8 = 0 then
        let i := (off - 0x100) / 8
        let s := match h.lo with | some v => s.perfSelect b i v | none => s
        match h.hi with | some v => if v.getLsbD 0 then s.perfOvf b i else s | none => s
      else s

/-- A write of an entry of the MSI-X table: its address, or its data and control. A vector that is unmasked sends what is
pending. -/
def State.vectorWrite (s : State) (v : Nat) (second : Bool) (h : Halves) : State :=
  let x := tget s.host.vectors Vector.reset v
  if second then
    let y := { x with data := h.lo.getD x.data, masked := match h.hi with | some c => c.getLsbD 0 | none => x.masked }
    let s := s.setVector v y
    if x.masked && !y.masked && y.pending then s.vectorDeliver v else s
  else s.setVector v { x with addr := h.over_ x.addr &&& ~~~ 3#64 }

/-- A doorbell write of a ring pair: TX, or RX 8 bytes above it. -/
def State.ringWrite (s : State) (g : Nat) (rx : Bool) (h : Halves) : State :=
  match h.lo with
  | some v => if rx then s.rxDoorbell g (v.extractLsb' 0 16) else s.txDoorbell g (v.extractLsb' 0 16)
  | none => s

/-- A write of BELL_CTRL (Table 14-8). -/
def State.bellWrite (s : State) (v : BitVec 32) : State :=
  let s := { s with bell := { s.bell with hostStop := v.getLsbD 0 } }
  if v.getLsbD 1 && s.bell.dumpState = .done then { s with bell := { s.bell with dumpState := .armed, dump := none } } else s

/-- A write of the global page beyond its header. -/
def State.globalWrite (s : State) (off : Nat) (h : Halves) : State :=
  if off = 0x460 then (match h.lo with | some v => s.bellWrite v | none => s)
  else if off = 0x468 then
    if s.running && bitsAt h.bits.toNat 16 16 = 0xB1C7 && h.bits.getLsbD 0 then s.hardReset.release_ s.balls.bootSrc s.balls.unitId
    else s
  else if 0x500 ≤ off && off < 0x540 then s.mboxWrite 0 (off - 0x500) h
  else if 0x2000 ≤ off && off < 0x3000 then
    (match s.globalRing 128 ((off - 0x2000) / 16) with | some g => s.ringWrite g (off % 16 == 8) h | none => s)
  else if 0x8000 ≤ off && off < 0x10000 then s.vectorWrite ((off - 0x8000) / 16) (off % 16 == 8) h
  else s

/-- A write of a slice page (R334). -/
def State.sliceWrite (s : State) (n off : Nat) (h : Halves) : State :=
  if (s.slice n).state = .none then s
  else if 0x100 ≤ off && off < 0x140 then s.mboxWrite (n + 1) (off - 0x100) h
  else if 0x1000 ≤ off && off < 0x5000 then
    (match s.globalRing n ((off - 0x1000) / 16) with | some g => s.ringWrite g (off % 16 == 8) h | none => s)
  else s

/-- A write of BAR0 at the register of an address; every register that is not the host's to write ignores it. -/
def State.bar0Write (s : State) (a : Nat) (h : Halves) : State :=
  match pageOf a with
  | none => s
  | some (b, off) =>
    if s.boot.phase = .failed && b ≠ 0 then s
    else if off < 0x200 then s.headerWrite b off h
    else if b = 0 then s.globalWrite off h else s

/-- A host write of a register; while the device is in reset or its PCIe link is down no access reaches it. -/
def State.regWrite (s : State) (bar2 : Bool) (a : Nat) (w : RegWidth) (v : BitVec 64) : State :=
  let h := halvesOf a w v
  let r := a - a % 8
  if !s.running || !s.host.linkUp then s
  else if bar2 then (if s.boot.phase = .failed then s else s.sliceWrite (r / 0x10000) (r % 0x10000) h) else s.bar0Write r h

def execRegisterWrite (bar2 : Bool) (addr : BitVec 24) (width : RegWidth) (value : BitVec 64) (s : State) : Result :=
  .next (s.regWrite bar2 addr.toNat width value).gearCheck

end Sys2Proof.Machine
end

