-- ==== Sys2Proof/Machine/Dispatch.lean ====
section
/-! DEFINITION. The one match that gives each command its meaning. -/
namespace Sys2Proof.Machine
open Sys2Proof

/-- A command's effect on everything but the queue of waiting commands. -/
def exec (i : Instr) (s : State) : Host.Outcome State Fault Refusal :=
  match i with
  | .deviceInfo mb e => Sys2Proof.Machine.execDeviceInfo mb e s
  | .nop mb e => Sys2Proof.Machine.execNop mb e s
  | .claimQuery mb e => Sys2Proof.Machine.execClaimQuery mb e s
  | .fwLogRead mb e buf => Sys2Proof.Machine.execFwLogRead mb e buf s
  | .fence mb e => Sys2Proof.Machine.execFence mb e s
  | .ruleBankSwap mb e => Sys2Proof.Machine.execRuleBankSwap mb e s
  | .ruleBankStatus mb e => Sys2Proof.Machine.execRuleBankStatus mb e s
  | .gearSet mb e => Sys2Proof.Machine.execGearSet mb e s
  | .gearStatus mb e => Sys2Proof.Machine.execGearStatus mb e s
  | .patchStage mb e buf => Sys2Proof.Machine.execPatchStage mb e buf s
  | .patchActivate mb e => Sys2Proof.Machine.execPatchActivate mb e s
  | .patchStatus mb e => Sys2Proof.Machine.execPatchStatus mb e s
  | .patchRevert mb e => Sys2Proof.Machine.execPatchRevert mb e s
  | .fuseRead mb e => Sys2Proof.Machine.execFuseRead mb e s
  | .rollbackAdvance mb e burnFail => Sys2Proof.Machine.execRollbackAdvance mb e burnFail s
  | .portConfig mb e => Sys2Proof.Machine.execPortConfig mb e s
  | .portEnable mb e => Sys2Proof.Machine.execPortEnable mb e s
  | .portModeSet mb e => Sys2Proof.Machine.execPortModeSet mb e s
  | .portPauseSet mb e => Sys2Proof.Machine.execPortPauseSet mb e s
  | .portStatus mb e => Sys2Proof.Machine.execPortStatus mb e s
  | .portStatsRead mb e => Sys2Proof.Machine.execPortStatsRead mb e s
  | .parseGraphLoad mb e buf => Sys2Proof.Machine.execParseGraphLoad mb e buf s
  | .customerStoreLoad mb e buf => Sys2Proof.Machine.execCustomerStoreLoad mb e buf s
  | .patternSetLoad mb e buf => Sys2Proof.Machine.execPatternSetLoad mb e buf s
  | .patternSetBind mb e => Sys2Proof.Machine.execPatternSetBind mb e s
  | .lifelineSet mb e => Sys2Proof.Machine.execLifelineSet mb e s
  | .emInsert mb e buf => Sys2Proof.Machine.execEmInsert mb e buf s
  | .emDelete mb e buf => Sys2Proof.Machine.execEmDelete mb e buf s
  | .emUpdate mb e => Sys2Proof.Machine.execEmUpdate mb e s
  | .emLookup mb e => Sys2Proof.Machine.execEmLookup mb e s
  | .emReadIndex mb e => Sys2Proof.Machine.execEmReadIndex mb e s
  | .lpmAdd mb e buf => Sys2Proof.Machine.execLpmAdd mb e buf s
  | .lpmDelete mb e buf => Sys2Proof.Machine.execLpmDelete mb e buf s
  | .learnConfig mb e => Sys2Proof.Machine.execLearnConfig mb e s
  | .ageingConfig mb e => Sys2Proof.Machine.execAgeingConfig mb e s
  | .parityLogRead mb e => Sys2Proof.Machine.execParityLogRead mb e s
  | .ruleInsert mb e buf => Sys2Proof.Machine.execRuleInsert mb e buf s
  | .ruleDelete mb e buf => Sys2Proof.Machine.execRuleDelete mb e buf s
  | .ruleRead mb e => Sys2Proof.Machine.execRuleRead mb e s
  | .actionProgramLoad mb e buf => Sys2Proof.Machine.execActionProgramLoad mb e buf s
  | .isolationMatrixSet mb e buf => Sys2Proof.Machine.execIsolationMatrixSet mb e buf s
  | .recircConfig mb e => Sys2Proof.Machine.execRecircConfig mb e s
  | .queueThresholdSet mb e => Sys2Proof.Machine.execQueueThresholdSet mb e s
  | .ecnConfig mb e => Sys2Proof.Machine.execEcnConfig mb e s
  | .mcastGroupSet mb e => Sys2Proof.Machine.execMcastGroupSet mb e s
  | .spillConfig mb e => Sys2Proof.Machine.execSpillConfig mb e s
  | .chainAuditRun mb e => Sys2Proof.Machine.execChainAuditRun mb e s
  | .storeStatus mb e => Sys2Proof.Machine.execStoreStatus mb e s
  | .nodeConfig mb e => Sys2Proof.Machine.execNodeConfig mb e s
  | .shaperSet mb e => Sys2Proof.Machine.execShaperSet mb e s
  | .wfqWeightSet mb e => Sys2Proof.Machine.execWfqWeightSet mb e s
  | .policerSet mb e => Sys2Proof.Machine.execPolicerSet mb e s
  | .classSchedSet mb e => Sys2Proof.Machine.execClassSchedSet mb e s
  | .schedRead mb e => Sys2Proof.Machine.execSchedRead mb e s
  | .dramTrain mb e => Sys2Proof.Machine.execDramTrain mb e s
  | .dramStatus mb e => Sys2Proof.Machine.execDramStatus mb e s
  | .dramRetry mb e => Sys2Proof.Machine.execDramRetry mb e s
  | .dramCaptureSet mb e => Sys2Proof.Machine.execDramCaptureSet mb e s
  | .sliceCreate mb e => Sys2Proof.Machine.execSliceCreate mb e s
  | .sliceResize mb e => Sys2Proof.Machine.execSliceResize mb e s
  | .sliceDestroy mb e => Sys2Proof.Machine.execSliceDestroy mb e s
  | .sliceReset mb e => Sys2Proof.Machine.execSliceReset mb e s
  | .sliceStatus mb e => Sys2Proof.Machine.execSliceStatus mb e s
  | .ringPairSet mb e => Sys2Proof.Machine.execRingPairSet mb e s
  | .vectorMapSet mb e => Sys2Proof.Machine.execVectorMapSet mb e s
  | .timeSet mb e => Sys2Proof.Machine.execTimeSet mb e s
  | .timeAdjust mb e => Sys2Proof.Machine.execTimeAdjust mb e s
  | .probeSet mb e => Sys2Proof.Machine.execProbeSet mb e s
  | .probeRead mb e => Sys2Proof.Machine.execProbeRead mb e s
  | .counterSnapshot mb e buf => Sys2Proof.Machine.execCounterSnapshot mb e buf s
  | .perfSelect mb e => Sys2Proof.Machine.execPerfSelect mb e s
  | .lineChannelSet mb e => Sys2Proof.Machine.execLineChannelSet mb e s
  | .lineChannelStatus mb e => Sys2Proof.Machine.execLineChannelStatus mb e s
  | .moduleAccess mb e reply => Sys2Proof.Machine.execModuleAccess mb e reply s
  | .synceOutSet mb e => Sys2Proof.Machine.execSynceOutSet mb e s
  | .ppsOutSet mb e => Sys2Proof.Machine.execPpsOutSet mb e s
  | .gpioSet mb e => Sys2Proof.Machine.execGpioSet mb e s
  | .faultStatusRead mb e => Sys2Proof.Machine.execFaultStatusRead mb e s
  | .unitFence mb e => Sys2Proof.Machine.execUnitFence mb e s
  | .unitUnfence mb e checkOk => Sys2Proof.Machine.execUnitUnfence mb e checkOk s
  | .faultInject mb e => Sys2Proof.Machine.execFaultInject mb e s
  | .bellConfig mb e => Sys2Proof.Machine.execBellConfig mb e s
  | .wearRead mb e => Sys2Proof.Machine.execWearRead mb e s
  | .tandemConfig mb e => Sys2Proof.Machine.execTandemConfig mb e s
  | .tandemStatus mb e => Sys2Proof.Machine.execTandemStatus mb e s
  | .roleHandover mb e => Sys2Proof.Machine.execRoleHandover mb e s
  | .claimRankSet mb e => Sys2Proof.Machine.execClaimRankSet mb e s
  | .pelotonConfig mb e => Sys2Proof.Machine.execPelotonConfig mb e s
  | .fabricStatus mb e => Sys2Proof.Machine.execFabricStatus mb e s
  | .digestRead mb e => Sys2Proof.Machine.execDigestRead mb e s
  | .mboxEnable mb seqInit => Sys2Proof.Machine.execMboxEnable mb seqInit s
  | .mboxDisable mb seqInit => Sys2Proof.Machine.execMboxDisable mb seqInit s
  | .mboxDoorbell mb tail => Sys2Proof.Machine.execMboxDoorbell mb tail s
  | .mboxRspHead mb head => Sys2Proof.Machine.execMboxRspHead mb head s
  | .mboxCommandFetch mb opcode entry => Sys2Proof.Machine.execMboxCommandFetch mb opcode entry s
  | .commandTimeLimit mb => Sys2Proof.Machine.execCommandTimeLimit mb s
  | .classLimit mb => Sys2Proof.Machine.execClassLimit mb s
  | .ringTxDoorbell ring tail => Sys2Proof.Machine.execRingTxDoorbell ring tail s
  | .ringRxDoorbell ring tail => Sys2Proof.Machine.execRingRxDoorbell ring tail s
  | .errStatusClear block mask => Sys2Proof.Machine.execErrStatusClear block mask s
  | .errInjectArm block value => Sys2Proof.Machine.execErrInjectArm block value s
  | .perfSelConfig block ctr value => Sys2Proof.Machine.execPerfSelConfig block ctr value s
  | .perfCounterClear block ctr => Sys2Proof.Machine.execPerfCounterClear block ctr s
  | .perfOvfClear block ctr => Sys2Proof.Machine.execPerfOvfClear block ctr s
  | .perfCounterSample block ctr => Sys2Proof.Machine.execPerfCounterSample block ctr s
  | .chainCountSample store => Sys2Proof.Machine.execChainCountSample store s
  | .farCountSample => Sys2Proof.Machine.execFarCountSample s
  | .timeSample => Sys2Proof.Machine.execTimeSample s
  | .hostStop value => Sys2Proof.Machine.execHostStop value s
  | .dumpRearm => Sys2Proof.Machine.execDumpRearm s
  | .deviceReset value bootSrc unitId => Sys2Proof.Machine.execDeviceReset value bootSrc unitId s
  | .registerWrite bar2 addr width value => Sys2Proof.Machine.execRegisterWrite bar2 addr width value s
  | .sysResetAssert => Sys2Proof.Machine.execSysResetAssert s
  | .resetRelease bootSrc unitId => Sys2Proof.Machine.execResetRelease bootSrc unitId s
  | .fuseLoadComplete fuses => Sys2Proof.Machine.execFuseLoadComplete fuses s
  | .bootBundleRead slot data other => Sys2Proof.Machine.execBootBundleRead slot data other s
  | .memoryInitComplete failedUnits failedBlock => Sys2Proof.Machine.execMemoryInitComplete failedUnits failedBlock s
  | .serdesCalibrationComplete target ok => Sys2Proof.Machine.execSerdesCalibrationComplete target ok s
  | .defaultConfiguration => Sys2Proof.Machine.execDefaultConfiguration s
  | .perst => Sys2Proof.Machine.execPerst s
  | .functionLevelReset => Sys2Proof.Machine.execFunctionLevelReset s
  | .pcieRefclkLoss => Sys2Proof.Machine.execPcieRefclkLoss s
  | .pcieLinkUp => Sys2Proof.Machine.execPcieLinkUp s
  | .laneSignalDetect lane value => Sys2Proof.Machine.execLaneSignalDetect lane value s
  | .laneLockChange lane cdr lock => Sys2Proof.Machine.execLaneLockChange lane cdr lock s
  | .linkTrainingComplete port => Sys2Proof.Machine.execLinkTrainingComplete port s
  | .linkFaultChange port localFault remoteFault => Sys2Proof.Machine.execLinkFaultChange port localFault remoteFault s
  | .linkUpHoldExpiry port => Sys2Proof.Machine.execLinkUpHoldExpiry port s
  | .linkDownHoldExpiry port => Sys2Proof.Machine.execLinkDownHoldExpiry port s
  | .flushComplete port => Sys2Proof.Machine.execFlushComplete port s
  | .laneSkewMeasured port => Sys2Proof.Machine.execLaneSkewMeasured port s
  | .rxFrameStart port bytes start => Sys2Proof.Machine.execRxFrameStart port bytes start s
  | .pipeHeadTaken port => Sys2Proof.Machine.execPipeHeadTaken port s
  | .packetPass pipe => Sys2Proof.Machine.execPacketPass pipe s
  | .matcherResult pipe => Sys2Proof.Machine.execMatcherResult pipe s
  | .recircHead pipe => Sys2Proof.Machine.execRecircHead pipe s
  | .ingressCellWrite port => Sys2Proof.Machine.execIngressCellWrite port s
  | .rxFrameEnd port fcs symbols fec => Sys2Proof.Machine.execRxFrameEnd port fcs symbols fec s
  | .statUpdate => Sys2Proof.Machine.execStatUpdate s
  | .xbarGrant queue => Sys2Proof.Machine.execXbarGrant queue s
  | .sinkCreditReturn sink cells => Sys2Proof.Machine.execSinkCreditReturn sink cells s
  | .mcastReplicate pipe cls => Sys2Proof.Machine.execMcastReplicate pipe cls s
  | .plainClassSelect port => Sys2Proof.Machine.execPlainClassSelect port s
  | .txFrameStart port => Sys2Proof.Machine.execTxFrameStart port s
  | .txFrameEnd port => Sys2Proof.Machine.execTxFrameEnd port s
  | .pauseTimerExpiry port prio => Sys2Proof.Machine.execPauseTimerExpiry port prio s
  | .pauseWatchdogTrip port prio => Sys2Proof.Machine.execPauseWatchdogTrip port prio s
  | .pauseWatchdogEnd port prio => Sys2Proof.Machine.execPauseWatchdogEnd port prio s
  | .xoffRefresh port prio => Sys2Proof.Machine.execXoffRefresh port prio s
  | .subscriberAdmission pipe => Sys2Proof.Machine.execSubscriberAdmission pipe s
  | .spillWriteDone ch => Sys2Proof.Machine.execSpillWriteDone ch s
  | .refillStart queue => Sys2Proof.Machine.execRefillStart queue s
  | .refillReadDone queue ok => Sys2Proof.Machine.execRefillReadDone queue ok s
  | .subscriberSelect port => Sys2Proof.Machine.execSubscriberSelect port s
  | .shaperRefill level index => Sys2Proof.Machine.execShaperRefill level index s
  | .loanOverdue store loan => Sys2Proof.Machine.execLoanOverdue store loan s
  | .chainAuditWalkDone store => Sys2Proof.Machine.execChainAuditWalkDone store s
  | .hostRxFrame => Sys2Proof.Machine.execHostRxFrame s
  | .rxDescriptorFetchDone ring descs => Sys2Proof.Machine.execRxDescriptorFetchDone ring descs s
  | .txFetch ring => Sys2Proof.Machine.execTxFetch ring s
  | .txDescriptorsReceived ring descs start => Sys2Proof.Machine.execTxDescriptorsReceived ring descs start s
  | .txBufferReadDone ring data => Sys2Proof.Machine.execTxBufferReadDone ring data s
  | .dmaCompletionTimeout read => Sys2Proof.Machine.execDmaCompletionTimeout read s
  | .pcieWriteError write aer => Sys2Proof.Machine.execPcieWriteError write aer s
  | .ringStopped ring tx => Sys2Proof.Machine.execRingStopped ring tx s
  | .generationDrained slice => Sys2Proof.Machine.execGenerationDrained slice s
  | .msixGapExpiry vector => Sys2Proof.Machine.execMsixGapExpiry vector s
  | .fenceIslandAck mb island => Sys2Proof.Machine.execFenceIslandAck mb island s
  | .drainComplete mb => Sys2Proof.Machine.execDrainComplete mb s
  | .pipeSwitch pipe => Sys2Proof.Machine.execPipeSwitch pipe s
  | .islandTimeStep island => Sys2Proof.Machine.execIslandTimeStep island s
  | .stagedFirmwareReady => Sys2Proof.Machine.execStagedFirmwareReady s
  | .patchReadyTimeout => Sys2Proof.Machine.execPatchReadyTimeout s
  | .patchPersistDone ok => Sys2Proof.Machine.execPatchPersistDone ok s
  | .learnRequest => Sys2Proof.Machine.execLearnRequest s
  | .teMicroTrap => Sys2Proof.Machine.execTeMicroTrap s
  | .teLongRoutineStart => Sys2Proof.Machine.execTeLongRoutineStart s
  | .teLongStep => Sys2Proof.Machine.execTeLongStep s
  | .ageingSweepStart => Sys2Proof.Machine.execAgeingSweepStart s
  | .scrubPassStart => Sys2Proof.Machine.execScrubPassStart s
  | .overflowCompactionStart => Sys2Proof.Machine.execOverflowCompactionStart s
  | .shadowCopyDone => Sys2Proof.Machine.execShadowCopyDone s
  | .parityRepair => Sys2Proof.Machine.execParityRepair s
  | .dramRequest ch cls outcome => Sys2Proof.Machine.execDramRequest ch cls outcome s
  | .dramPanicRaise ch => Sys2Proof.Machine.execDramPanicRaise ch s
  | .dramPanicClear ch => Sys2Proof.Machine.execDramPanicClear ch s
  | .dramRefreshDue ch bank mr4 => Sys2Proof.Machine.execDramRefreshDue ch bank mr4 s
  | .dramWriteBatch ch => Sys2Proof.Machine.execDramWriteBatch ch s
  | .retrainStart ch => Sys2Proof.Machine.execRetrainStart ch s
  | .dramTrainingDone ch result => Sys2Proof.Machine.execDramTrainingDone ch result s
  | .dramRetryTimer ch => Sys2Proof.Machine.execDramRetryTimer ch s
  | .lowTrafficEntry => Sys2Proof.Machine.execLowTrafficEntry s
  | .selfRefreshEntry ch => Sys2Proof.Machine.execSelfRefreshEntry ch s
  | .selfRefreshWake ch => Sys2Proof.Machine.execSelfRefreshWake ch s
  | .captureRegionReserved => Sys2Proof.Machine.execCaptureRegionReserved s
  | .captureReplayDone => Sys2Proof.Machine.execCaptureReplayDone s
  | .dumpReserved => Sys2Proof.Machine.execDumpReserved s
  | .dumpComplete => Sys2Proof.Machine.execDumpComplete s
  | .cadenceCycle expanders => Sys2Proof.Machine.execCadenceCycle expanders s
  | .periodicSnapshotTick timer => Sys2Proof.Machine.execPeriodicSnapshotTick timer s
  | .snapshotDone timer => Sys2Proof.Machine.execSnapshotDone timer s
  | .probeWindowEnd timer => Sys2Proof.Machine.execProbeWindowEnd timer s
  | .perfSampleTick => Sys2Proof.Machine.execPerfSampleTick s
  | .slewComplete => Sys2Proof.Machine.execSlewComplete s
  | .ppsPulse => Sys2Proof.Machine.execPpsPulse s
  | .synceResume output => Sys2Proof.Machine.execSynceResume output s
  | .gpioEdge gpio rising => Sys2Proof.Machine.execGpioEdge gpio rising s
  | .lineSensorFrame bus words => Sys2Proof.Machine.execLineSensorFrame bus words s
  | .lineAlarmInput ch => Sys2Proof.Machine.execLineAlarmInput ch s
  | .lineChannelEnable ch => Sys2Proof.Machine.execLineChannelEnable ch s
  | .inrushEnd ch => Sys2Proof.Machine.execInrushEnd ch s
  | .lineRetryExpiry ch => Sys2Proof.Machine.execLineRetryExpiry ch s
  | .lineRetryRestore ch => Sys2Proof.Machine.execLineRetryRestore ch s
  | .heartbeat => Sys2Proof.Machine.execHeartbeat s
  | .heartbeatExpiry => Sys2Proof.Machine.execHeartbeatExpiry s
  | .handshakeTimeout block => Sys2Proof.Machine.execHandshakeTimeout block s
  | .sysclkMonitor bad kHz => Sys2Proof.Machine.execSysclkMonitor bad kHz s
  | .serdesRefclkMonitor target bad ppm => Sys2Proof.Machine.execSerdesRefclkMonitor target bad ppm s
  | .thermalSample temps slowdown demandMv => Sys2Proof.Machine.execThermalSample temps slowdown demandMv s
  | .wearMargin mV => Sys2Proof.Machine.execWearMargin mV s
  | .voltageLimit shortfallPs => Sys2Proof.Machine.execVoltageLimit shortfallPs s
  | .claimFrameReceived path frame => Sys2Proof.Machine.execClaimFrameReceived path frame s
  | .claimPathTimeout path => Sys2Proof.Machine.execClaimPathTimeout path s
  | .holdoffExpiry => Sys2Proof.Machine.execHoldoffExpiry s
  | .bellInTimeout => Sys2Proof.Machine.execBellInTimeout s
  | .tandemLinkDown => Sys2Proof.Machine.execTandemLinkDown s
  | .tandemLinkUp => Sys2Proof.Machine.execTandemLinkUp s
  | .linkDownIneligible => Sys2Proof.Machine.execLinkDownIneligible s
  | .journalRecordReceived record => Sys2Proof.Machine.execJournalRecordReceived record s
  | .mirrorMessageReceived message => Sys2Proof.Machine.execMirrorMessageReceived message s
  | .tandemControlMessage message => Sys2Proof.Machine.execTandemControlMessage message s
  | .joinSnapshotReceived snapshot => Sys2Proof.Machine.execJoinSnapshotReceived snapshot s
  | .stokerAppliedReport report => Sys2Proof.Machine.execStokerAppliedReport report s
  | .sealTimer half => Sys2Proof.Machine.execSealTimer half s
  | .sealReceived port mark late => Sys2Proof.Machine.execSealReceived port mark late s
  | .digestBlockReceived block => Sys2Proof.Machine.execDigestBlockReceived block s
  | .partnerBlockTimeout port => Sys2Proof.Machine.execPartnerBlockTimeout port s
  | .refereeCodesReceived codes => Sys2Proof.Machine.execRefereeCodesReceived codes s
  | .fabricFrameArrival link frame => Sys2Proof.Machine.execFabricFrameArrival link frame s
  | .fabricCreditReturn link cls cells => Sys2Proof.Machine.execFabricCreditReturn link cls cells s
  | .fabricLinkControlWord link word => Sys2Proof.Machine.execFabricLinkControlWord link word s
  | .fabricLaneLockLoss link lane => Sys2Proof.Machine.execFabricLaneLockLoss link lane s
  | .fabricSpareTrained link => Sys2Proof.Machine.execFabricSpareTrained link s
  | .lockstepMismatch pair => Sys2Proof.Machine.execLockstepMismatch pair s
  | .bellInEdge => Sys2Proof.Machine.execBellInEdge s
  | .perstRelease => Sys2Proof.Machine.execPerstRelease s
  | .pcieRefclkReturn => Sys2Proof.Machine.execPcieRefclkReturn s
  | .fabricLinkDown link => Sys2Proof.Machine.execFabricLinkDown link s
  | .fabricLinkUp link word => Sys2Proof.Machine.execFabricLinkUp link word s
  | .powerApplied => Sys2Proof.Machine.execPowerApplied s
  | .powerRemoved => Sys2Proof.Machine.execPowerRemoved s

end Sys2Proof.Machine
end

