-- ==== Sys2Proof/Certificates/Slice0/Obligations.lean ====
section
/-! DEFINITION. The statements for the provers, from the numbered rules of spec/, and the words they are written in.

A statement about a command of a mailbox speaks of the state in which the command has started (`begun`): the check hypotheses
are those of Table 2-12 on it, and `Answers` says that the response is posted for the state that the effect leaves. What posting
a response does is a statement of its own. -/
open Sys2Proof Sys2Proof.Machine

namespace Sys2Proof.Claims

/-- The state in which a command of a mailbox has been taken into execution. -/
def begun (s : State) (row : OpRow) (mb : Fin 129) (e : Entry) (buf : Option Bytes := none) : State :=
  s.started mb.val row.op e buf

/-- The command is the next of its mailbox and may start (R34, R41), and steps 2 to 5 of Table 2-12 pass: reserved bytes zero
beside the given fields, FLAGS, GEN and TIME_LIMIT permitted, the mailbox and the role allowed. Ranges are stated separately. -/
abbrev Accepted (s : State) (row : OpRow) (mb : Fin 129) (e : Entry) (used : List Field) : Prop :=
  s.cmdReady mb.val row.op e = true ∧ entryCheck row s mb.val e used [] = none

/-- `exec` answers a next state: the command completes with OK, COUNT `n` and RESULT `res` on the state `u` of its effect. -/
def Answers (c : Instr) (s : State) (row : OpRow) (mb : Fin 129) (n : Nat) (res : BitVec 128) (u : State) : Prop :=
  exec c s = .next (u.complete mb.val row 0 0 n res)

/-- A field of a RESULT: the `n` bytes at response offset `off` (16–31). -/
def field (res : BitVec 128) (off n : Nat) : Nat := bitsAt res.toNat ((off - 16) * 8) (8 * n)

/-- Two states agree in everything that no reply, detection, event or log record touches: ports, lanes, pipes, stores, tables,
slices, rings, the Cadence unit, DRAM, the gears, the boot and the far side of the bell. -/
def sameBeside (t u : State) : Prop :=
  t.balls = u.balls ∧ t.boot = u.boot ∧ t.fuses = u.fuses ∧ t.flash = u.flash ∧ t.claims = u.claims ∧ t.gears = u.gears ∧
  t.swap = u.swap ∧ t.fences = u.fences ∧ t.slices = u.slices ∧ t.rings = u.rings ∧ t.cad = u.cad ∧ t.wear = u.wear ∧
  t.fenced = u.fenced ∧ t.ports = u.ports ∧ t.lanes = u.lanes ∧ t.pipes = u.pipes ∧ t.ctl = u.ctl ∧ t.tables = u.tables ∧
  t.sw = u.sw ∧ t.far = u.far ∧ t.peloton = u.peloton ∧ t.pending = u.pending

/-- A mailbox that its rules let act: the manager's, or a slice's whose slice exists (R30). -/
abbrev live (s : State) (mb : Fin 129) : Prop := mb.val = 0 ∨ (s.slice (mb.val - 1)).state ≠ .none

/-- What a reset leaves: every field at its reset value but the queue, the count of free values, the fuses, the flash (a slot whose
write is cut off is left partly written), the host's memory and the levels that the host drives. -/
def afterReset (s : State) (powered : Bool) : State :=
  { State.reset with
    pending := s.pending, freeIx := s.freeIx, fuses := s.fuses,
    flash := match s.fw.persist with | some p => tset s.flash none p.2.1 none | none => s.flash,
    balls := { powered := powered, sysResetN := false, bootSrc := 0, unitId := 0, spiDriven := false },
    host := { HostIf.reset with mem := s.host.mem, spaces := s.host.spaces, perstN := s.host.perstN, refclk := s.host.refclk } }

/-- The fuses read as the OR of their two stored copies (R85). -/
def fusesAgree (f : Fuses) : Prop := f.readBack f.first f.second = f

/-- The state in which the short routine of a table command runs: a long routine in progress has been trapped (R94). -/
def trapState (s : State) (row : OpRow) (mb : Fin 129) (e : Entry) (buf : Option Bytes := none) : State :=
  ((begun s row mb e buf).shortRoutine none).2

/-- A batch whose items the firmware applies at once answers the state that they leave and their number: OK when all are applied, else
the status and detail of the one that fails. -/
def BatchAnswers (c : Instr) (s : State) (row : OpRow) (mb : Fin 129) (v : State) (f : State → Nat → Bytes → ItemOut)
    (items : List Bytes) : Prop :=
  ∀ (u : State) (k : Nat) (x : Check), applyItems f v 0 items = (u, k, x) → u.te.ruleWork = none →
    (x = none → exec c s = .next (u.complete mb.val row 0 0 k 0)) ∧
    (∀ st d, x = some (st, d) → st < 256 → exec c s = .next (u.complete mb.val row st d k 0))

end Sys2Proof.Claims
open Sys2Proof.Claims

/-- A step is the front command run with the rest of the queue (spec/95_what_each_step_holds.md). -/
def Obligations.StepRunsFrontCommand : Prop :=
  ∀ (s : State) (c : Instr) (rest : List Instr), s.pending = c :: rest → step s = exec c { s with pending := rest }

/-- On an empty queue one nanosecond passes while the device runs (the model's choice, log entry 1) (spec/13_cadence.md). -/
def Obligations.EmptyQueueTicks : Prop :=
  (∀ s : State, s.pending = [] → s.running = true → ∃ t : State, step s = .next t ∧ t.cad.freeNs = s.cad.freeNs + 1 ∧ t.pending = [] ∧
    ((∀ m, (s.mbox m).inExec = none) → (∀ m, s.fenceOf m = none) → t.ports = s.ports ∧ t.pipes = s.pipes ∧
      t.tables.entries = s.tables.entries ∧ t.mboxes = s.mboxes)) ∧
  (∀ s : State, s.pending = [] → s.running = false → step s = .next s)

/-- What reset leaves: the reset values of the registers that the spec gives (spec/01_architecture.md, spec/02_mailbox.md, spec/05_spokes.md, spec/13_cadence.md, spec/14_faults.md, spec/15_tandem.md). -/
def Obligations.ResetValues : Prop :=
  State.reset.gears.table = 1 ∧ State.reset.gears.buffer = 1 ∧ State.reset.gears.matcher = 1 ∧ State.reset.gears.latency = 2 ∧
  (∀ m, (State.reset.mbox m).state = .disabled ∧ (State.reset.mbox m).cmdTail = 0 ∧ (State.reset.mbox m).cmdHead = 0 ∧
    (State.reset.mbox m).rspTail = 0 ∧ (State.reset.mbox m).rspHead = 0) ∧
  State.reset.swap.count = 0 ∧ (∀ c i, State.reset.claim c i = none) ∧ (∀ k, (State.reset.port k).cfg.width = 0) ∧
  (∀ b, (State.reset.block b).codes = 0 ∧ (State.reset.block b).mask = 0) ∧ State.reset.bell.rateHz = 1000 ∧
  State.reset.bell.hostStop = false ∧ State.reset.cad.freeNs = 0 ∧ State.reset.tandem.role = .standalone ∧
  (∀ m, State.reset.fenceOf m = none) ∧ (∀ k i, State.reset.isFenced k i = false) ∧ State.reset.pending = []

/-! ### Mailboxes (chapter 02) -/

/-- A 0-to-1 transition of ENABLE zeroes the counts and is accepted or refused with its cause; ENABLE = 0 stops the mailbox (spec/02_mailbox.md). -/
def Obligations.MailboxEnableAndDisable : Prop :=
  (∀ (s : State) (mb : Fin 129) (q : Option (BitVec 32)), live s mb → (s.mbox mb.val).enable = false →
    (s.mbox mb.val).state = .disabled → s.fw.fwReady = true → s.fw.halted = false →
    let m := { s.mbox mb.val with
      seqInit := q.getD (s.mbox mb.val).seqInit, enable := true, cmdTail := 0, cmdHead := 0, rspTail := 0, rspHead := 0 }
    exec (.mboxEnable mb q) s = .next (s.setMbox mb.val (
      if m.cmdBase = 0 ∨ m.rspBase = 0 ∨ m.cmdLog2 < 4 ∨ 12 < m.cmdLog2 ∨ m.rspLog2 < 4 ∨ 12 < m.rspLog2 then
        { m with errCause := .badBase }
      else if mb.val ≠ 0 ∧ ¬ ((s.rangeOf (mb.val - 1) 17).first ≤ m.vector.toNat ∧
          m.vector.toNat < (s.rangeOf (mb.val - 1) 17).first + (s.rangeOf (mb.val - 1) 17).count) then
        { m with errCause := .badVector }
      else { m with errCause := .none, state := .running, nextSeq := m.seqInit, fetched := [] }))) ∧
  (∀ (s : State) (mb : Fin 129) (q : Option (BitVec 32)), live s mb → (s.mbox mb.val).enable = false →
    (s.mbox mb.val).state ≠ .disabled → exec (.mboxEnable mb q) s = .next (s.setMbox mb.val { s.mbox mb.val with
      seqInit := q.getD (s.mbox mb.val).seqInit, enable := true, cmdTail := 0, cmdHead := 0, rspTail := 0, rspHead := 0 })) ∧
  (∀ (s : State) (mb : Fin 129) (q : Option (BitVec 32)), live s mb → (s.mbox mb.val).enable = true →
    exec (.mboxEnable mb q) s = .next (s.setMbox mb.val { s.mbox mb.val with seqInit := q.getD (s.mbox mb.val).seqInit })) ∧
  (∀ (s : State) (mb : Fin 129) (q : Option (BitVec 32)), live s mb →
    exec (.mboxDisable mb q) s = .next (s.setMbox mb.val { s.mbox mb.val with
      seqInit := q.getD (s.mbox mb.val).seqInit, enable := false, fetched := [],
      state := if (s.mbox mb.val).state ≠ .disabled ∧ (s.mbox mb.val).inExec.isSome then .stopping else .disabled })) ∧
  (∀ (s : State) (mb : Fin 129) (q : Option (BitVec 32)), ¬ live s mb →
    exec (.mboxEnable mb q) s = .next s ∧ exec (.mboxDisable mb q) s = .next s)

/-- Doorbell and response-head writes: in range stored, beyond range an ERROR of that mailbox alone, in other states ignored (spec/02_mailbox.md). -/
def Obligations.DoorbellAndResponseHead : Prop :=
  (∀ (s : State) (mb : Fin 129) (tail : BitVec 16), live s mb → (s.mbox mb.val).state = .running →
    (tail = (s.mbox mb.val).cmdTail → exec (.mboxDoorbell mb tail) s = .next s) ∧
    (tail ≠ (s.mbox mb.val).cmdTail → (tail - (s.mbox mb.val).cmdHead).toNat ≤ 2 ^ (s.mbox mb.val).cmdLog2.toNat →
      exec (.mboxDoorbell mb tail) s = .next (s.setMbox mb.val { s.mbox mb.val with cmdTail := tail })) ∧
    (tail ≠ (s.mbox mb.val).cmdTail → 2 ^ (s.mbox mb.val).cmdLog2.toNat < (tail - (s.mbox mb.val).cmdHead).toNat →
      ∃ t : State, exec (.mboxDoorbell mb tail) s = .next t ∧
        t.mbox mb.val = { s.mbox mb.val with state := .error, errCause := .doorbellRange } ∧
        (∀ n, n ≠ mb.val → t.mbox n = s.mbox n) ∧ sameBeside t s)) ∧
  (∀ (s : State) (mb : Fin 129) (tail : BitVec 16), (s.mbox mb.val).state ≠ .running → exec (.mboxDoorbell mb tail) s = .next s) ∧
  (∀ (s : State) (mb : Fin 129) (head : BitVec 16), live s mb →
    ((s.mbox mb.val).state = .disabled → exec (.mboxRspHead mb head) s = .next s) ∧
    ((s.mbox mb.val).rspTail - (s.mbox mb.val).rspHead < head - (s.mbox mb.val).rspHead →
      ((s.mbox mb.val).state = .running → ∃ t : State, exec (.mboxRspHead mb head) s = .next t ∧
        t.mbox mb.val = { s.mbox mb.val with state := .error, errCause := .headRange } ∧ sameBeside t s) ∧
      ((s.mbox mb.val).state ≠ .running → exec (.mboxRspHead mb head) s = .next s)) ∧
    (¬ (s.mbox mb.val).rspTail - (s.mbox mb.val).rspHead < head - (s.mbox mb.val).rspHead → (s.mbox mb.val).state ≠ .disabled →
      ∃ t : State, exec (.mboxRspHead mb head) s = .next t ∧ (t.mbox mb.val).rspHead = head ∧ sameBeside t s))

/-- A fetched command must carry the expected number; a wrong number or a failed read puts the mailbox in ERROR (spec/02_mailbox.md). -/
def Obligations.CommandFetchChecksSequence : Prop :=
  (∀ (s : State) (mb : Fin 129) (op : BitVec 16) (e : Entry), s.serves mb.val = true →
    (s.mbox mb.val).cmdHead ≠ (s.mbox mb.val).cmdTail →
    (e.seq = (s.mbox mb.val).nextSeq →
      ((s.mbox mb.val).inExec.isSome ∨ ∃ x, ((s.mbox mb.val).fetched ++ [(op, e)]).head? = some x ∧ (opRow? x.1.toNat).isSome) →
      exec (.mboxCommandFetch mb op (some e)) s = .next (s.setMbox mb.val { s.mbox mb.val with
        cmdHead := (s.mbox mb.val).cmdHead + 1, nextSeq := (s.mbox mb.val).nextSeq + 1,
        fetched := (s.mbox mb.val).fetched ++ [(op, e)] })) ∧
    (e.seq = (s.mbox mb.val).nextSeq → (s.mbox mb.val).inExec = none → (s.mbox mb.val).fetched = [] →
      (s.mbox mb.val).room = true → opRow? op.toNat = none →
      exec (.mboxCommandFetch mb op (some e)) s = .next ((s.setMbox mb.val { s.mbox mb.val with
        cmdHead := (s.mbox mb.val).cmdHead + 1, nextSeq := (s.mbox mb.val).nextSeq + 1 }).postResponse
          mb.val op.toNat e 0x01 0 0 0)) ∧
    (e.seq ≠ (s.mbox mb.val).nextSeq → ∃ t : State, exec (.mboxCommandFetch mb op (some e)) s = .next t ∧
      t.mbox mb.val = { s.mbox mb.val with state := .error, errCause := .seqGap } ∧
      (∀ n, n ≠ mb.val → t.mbox n = s.mbox n) ∧ sameBeside t s)) ∧
  (∀ (s : State) (mb : Fin 129) (op : BitVec 16), s.serves mb.val = true → (s.mbox mb.val).cmdHead ≠ (s.mbox mb.val).cmdTail →
    ∃ t : State, exec (.mboxCommandFetch mb op none) s = .next t ∧
      t.mbox mb.val = { s.mbox mb.val with state := .error, errCause := .fetchFault } ∧
      (∀ n, n ≠ mb.val → t.mbox n = s.mbox n) ∧ sameBeside t s)

/-- A completion writes the response entry at its slot, advances RSP_TAIL and frees the mailbox; all else is as before (spec/02_mailbox.md). -/
def Obligations.CompletionPostsResponse : Prop :=
  (∀ (s : State) (mb : Nat) (r : OpRow) (x : InExec) (st d n : Nat) (res : BitVec 128),
    (s.mbox mb).inExec = some x → x.opcode.toNat = r.op → (s.mbox mb).muted = false → (s.mbox mb).fetched = [] →
    (s.mbox mb).intMode = 0 → s.host.linkUp = true →
    slotAddr (s.mbox mb).rspBase (s.mbox mb).rspTail (s.mbox mb).rspLog2 32 + 32 ≤ 2 ^ 64 →
    let a := slotAddr (s.mbox mb).rspBase (s.mbox mb).rspTail (s.mbox mb).rspLog2 32
    let t := s.complete mb r st d n res
    (t.mbox mb).rspTail = (s.mbox mb).rspTail + 1 ∧ (t.mbox mb).inExec = none ∧
    (∀ k < 32, memAt (t.memFor (mboxSlice mb)) (a + k) = (leBytes 2 r.op ++
      [BitVec.ofNat 8 st, if (s.mbox mb).rspTail.getLsbD (s.mbox mb).rspLog2.toNat then 0 else 1] ++
      leBytes 4 x.entry.seq.toNat ++ leBytes 4 n ++ leBytes 4 d ++ leBytes 16 res.toNat)[k]?) ∧
    (∀ c, (c < a ∨ a + 32 ≤ c) → memAt (t.memFor (mboxSlice mb)) c = memAt (s.memFor (mboxSlice mb)) c)) ∧
  (∀ (s : State) (mb : Nat) (r : OpRow) (st d n : Nat) (res : BitVec 128), sameBeside (s.complete mb r st d n res) s ∧
    ∀ k, k ≠ mb → (s.complete mb r st d n res).mbox k = s.mbox k)

/-- NOP, DEVICE_INFO, CLAIM_QUERY and FW_LOG_READ complete with OK and the results of their tables (spec/02_mailbox.md). -/
def Obligations.DeviceCommandsAnswer : Prop :=
  (∀ (s : State) (mb : Fin 129) (e : Entry), Accepted s rowNop mb e [] →
    Answers (.nop mb e) s rowNop mb 0 0 (begun s rowNop mb e)) ∧
  (∀ (s : State) (mb : Fin 129) (e : Entry), Accepted s rowDeviceInfo mb e [] →
    ∃ res : BitVec 128, Answers (.deviceInfo mb e) s rowDeviceInfo mb 0 res (begun s rowDeviceInfo mb e) ∧
      field res 16 2 = s.partCode ∧ field res 18 2 = s.fw.fwMajor.toNat ∧ field res 20 2 = s.fw.fwMinor.toNat ∧
      field res 22 2 = s.fw.commandLevel.toNat ∧ field res 24 1 = s.gears.table % 256 ∧ field res 25 1 = s.gears.buffer % 256 ∧
      field res 26 1 = s.gears.matcher % 256 ∧ field res 27 1 = s.gears.latency % 256 ∧
      field res 28 1 = (match s.tandem.role with | .standalone => 0 | .captain => 1 | .stoker => 2) ∧
      field res 29 1 = s.boot.unitId.toNat ∧
      field res 30 2 = (if mb.val = 0 then 0 else (s.slice (mb.val - 1)).gen.toNat)) ∧
  (∀ (s : State) (mb : Fin 129) (e : Entry), Accepted s rowClaimQuery mb e [(16, 0, 8), (17, 0, 8)] →
    1 ≤ e.u8 16 → e.u8 16 ≤ 5 → e.u8 17 < claimIndices (e.u8 16) →
    ∃ res : BitVec 128, Answers (.claimQuery mb e) s rowClaimQuery mb 0 res (begun s rowClaimQuery mb e) ∧
      match s.claim (e.u8 16) (e.u8 17) with
      | some c => field res 16 4 = c.object % 2 ^ 32 ∧ field res 20 2 = c.opcode.toNat ∧ field res 22 1 = 1
      | none => res = 0) ∧
  (∀ (s : State) (mb : Fin 129) (e : Entry) (b : Bytes), Accepted s rowFwLogRead mb e [(32, 0, 32)] →
    let out := (s.fw.log.filter (fun r => !serialAfter 32 (e.u32 32) r.seq.toNat)).take (e.bufLen / 32)
    ∃ (res : BitVec 128) (u : State), Answers (.fwLogRead mb e (some b)) s rowFwLogRead mb 0 res u ∧ field res 16 4 = out.length % 2 ^ 32 ∧
      (out ≠ [] → (s.mbox mb.val).muted = false → u = (begun s rowFwLogRead mb e (some b)).dmaFor (mboxSlice mb.val)
        e.bufAddr (out.flatMap FwRecord.bytes)))

/-! ### Fences, rule banks and gears (chapter 03) -/

/-- FENCE responds only when every island that it awaits has acknowledged, its owner's events are out, and with DRAIN all it covers has left (spec/03_consistency.md). -/
def Obligations.FenceWaitsForEveryIsland : Prop :=
  (∀ (s : State) (mb : Fin 129) (e : Entry), Accepted s rowFence mb e [(16, 0, 1)] →
    exec (.fence mb e) s = .next ((begun s rowFence mb e).setFence mb.val
      (some { drain := e.bit 16 0, acked := [], left := s.downIslands, lastAck := none, stamps := [], done := none, empty := false,
              vectors := [], learns := [], snaps := [] }))) ∧
  (∀ (s : State) (mb : Fin 129) (i : Fin 33) (f : PendingFence), s.fenceOf mb.val = some f → f.done = none →
    i.val ∈ s.awaited f → i.val ∉ f.acked → (i.val = 26 → s.te.running = none ∨ s.wordsQuiet = true) →
    let st := if 16 ≤ i.val ∧ i.val < 24 then tput f.stamps (i.val - 16) s.now else if i.val = 30 then tput f.stamps 8 s.now else f.stamps
    let g := { f with acked := f.acked ++ [i.val], stamps := st, lastAck := some s.now }
    let out := s.mergedOf mb.val = [] ∧ s.heldNotices mb.val = [] ∧ s.snapsRunning mb.val = []
    ((∃ j ∈ s.awaited f, j ≠ i.val ∧ j ∉ f.acked) → ∃ t : State, exec (.fenceIslandAck mb i) s = .next t ∧ t.fenceOf mb.val = some g ∧
      (16 ≤ i.val → i.val < 24 → (t.pipe (i.val - 16)).fenceStamp = s.now) ∧ (i.val = 30 → t.hostStamp = s.now) ∧
      t.mboxes = s.mboxes ∧ t.host = s.host ∧ t.ports = s.ports ∧ t.tables.entries = s.tables.entries ∧ t.sw = s.sw) ∧
    ((∀ j ∈ s.awaited f, j = i.val ∨ j ∈ f.acked) → f.drain = true ∨ ¬ out → ∃ t : State, exec (.fenceIslandAck mb i) s = .next t ∧
      t.fenceOf mb.val = some { g with
        done := some s.now, vectors := s.mergedOf mb.val, learns := s.heldNotices mb.val, snaps := s.snapsRunning mb.val } ∧
      t.mboxes = s.mboxes ∧ t.tables.entries = s.tables.entries) ∧
    ((∀ j ∈ s.awaited f, j = i.val ∨ j ∈ f.acked) → f.drain = false → out →
      ∃ (u : State) (res : BitVec 128), exec (.fenceIslandAck mb i) s = .next (u.complete mb.val rowFence 0 0 0 res) ∧ u.fenceOf mb.val = none ∧
        u.mboxes = s.mboxes ∧ u.tables.entries = s.tables.entries ∧ field res 16 8 = s.now ∧
        field res 24 4 = s.now / 1000000 % 2 ^ 32)) ∧
  (∀ (s : State) (mb : Fin 129) (f : PendingFence) (n : Nat), s.fenceOf mb.val = some f → f.drain = true → f.done = some n →
    (s.drained mb.val f = true → s.eventsOut mb.val f = true → ∃ res : BitVec 128, exec (.drainComplete mb) s =
      .next ((s.setFence mb.val none).complete mb.val rowFence 0 0 0 res) ∧ field res 16 8 = n % 2 ^ 64 ∧
        field res 24 4 = n / 1000000 % 2 ^ 32) ∧
    (s.drained mb.val f = true → s.eventsOut mb.val f = false → exec (.drainComplete mb) s =
      .next (s.setFence mb.val (some { f with empty := true }))) ∧
    (s.drained mb.val f = false → exec (.drainComplete mb) s = .next s))

/-- A rule bank swap tells every live pipe to switch; each switches on its own, and the last one advances the swap count and responds (spec/03_consistency.md). -/
def Obligations.RuleBankSwapBetweenPackets : Prop :=
  (∀ (s : State) (mb : Fin 129) (e : Entry), Accepted s rowRuleBankSwap mb e [] → s.swap.mb = none → s.ruleHeld = false →
    s.livePipes ≠ [] → ∃ u : State, exec (.ruleBankSwap mb e) s = .next u ∧ u.swap = { s.swap with mb := some mb.val } ∧
      (∀ p, (u.pipe p).switches = (s.pipe p).switches ++ (if p ∈ s.livePipes then [Switch.ruleBank] else []) ∧
        (u.pipe p).ruleBank = (s.pipe p).ruleBank)) ∧
  (∀ (s : State) (p : Fin 8) (w : Switch) (r : List Switch), (s.pipe p.val).switches = w :: r → s.isFenced 2 p.val = false →
    ∃ t : State, exec (.pipeSwitch p) s = .next t ∧ (∀ q, q ≠ p.val → t.pipe q = s.pipe q) ∧
      t.pipe p.val = (match w with
        | .ruleBank => { s.pipe p.val with switches := r, ruleBank := !s.swap.count.getLsbD 0 }
        | .matchGear g => { s.pipe p.val with switches := r, matchGear := g }
        | .latencyGear g => { s.pipe p.val with switches := r, latencyGear := g }
        | .graph => { s.pipe p.val with switches := r, graphBank := s.ctl.graphBank }
        | .customer => { s.pipe p.val with switches := r, custBank := s.ctl.custBank }
        | .action => { s.pipe p.val with switches := r, actBank := s.ctl.actBank }
        | .matrix => { s.pipe p.val with
            switches := r, matrixCopy := s.ctl.matCopy, matrixLoads := (s.pipe p.val).matrixLoads + 1 }
        | .patch => { s.pipe p.val with switches := r, patchBank := !s.fw.bank }) ∧
      (∀ m, s.swap.mb = some m → Switch.ruleBank ∉ r → (∀ q ∈ s.livePipes, q ≠ p.val → Switch.ruleBank ∉ (s.pipe q).switches) →
        t.swap = { count := s.swap.count + 1, mb := none } ∧
        (s.gears.change = none → s.ctl.graphMb = none → s.ctl.custMb = none → s.ctl.actMb = none → s.ctl.matMb = none →
          s.fw.activation = none → ∃ u : State, t = u.complete m rowRuleBankSwap 0 0 0 0 ∧ u.mboxes = s.mboxes))) ∧
  (∀ (s : State) (mb : Fin 129) (e : Entry), Accepted s rowRuleBankStatus mb e [] →
    ∃ res : BitVec 128, Answers (.ruleBankStatus mb e) s rowRuleBankStatus mb 0 res (begun s rowRuleBankStatus mb e) ∧
      let n := s.flying 0 (!s.swap.count.getLsbD 0)
      field res 16 2 = s.swap.count.toNat ∧ field res 18 1 = (if s.swap.count.getLsbD 0 then 1 else 0) ∧
      field res 19 1 = (if n = 0 then 0 else 1) ∧ field res 20 4 = n % 2 ^ 32)

/-- GEAR_SET answers at once when the domain is in the gear already, and otherwise begins the one gear change of the device (spec/01_architecture.md, spec/03_consistency.md). -/
def Obligations.GearSetAndStatus : Prop :=
  (∀ (s : State) (mb : Fin 129) (e : Entry), Accepted s rowGearSet mb e [(16, 0, 8), (17, 0, 8)] → 1 ≤ e.u8 16 → e.u8 16 ≤ 4 →
    1 ≤ e.u8 17 → e.u8 17 ≤ (if e.u8 16 = 1 then 4 else 3) → (e.u8 16 = 3 → e.u8 17 ≠ 1 → s.fuses.part = .bx6400) →
    s.gears.change = none →
    (s.gearOf (e.u8 16) = e.u8 17 → Answers (.gearSet mb e) s rowGearSet mb 0 0 (begun s rowGearSet mb e)) ∧
    (s.gearOf (e.u8 16) ≠ e.u8 17 → 3 ≤ e.u8 16 → s.livePipes ≠ [] → ∃ u : State, exec (.gearSet mb e) s = .next u ∧
      u.gears = { s.gears with change := some { mb := mb.val, domain := e.u8 16, target := e.u8 17, done := 0, total := 0 } } ∧
      ∀ p, (u.pipe p).switches = (s.pipe p).switches ++ (if p ∈ s.livePipes then
        [if e.u8 16 = 3 then Switch.matchGear (e.u8 17) else Switch.latencyGear (e.u8 17)] else [])) ∧
    (s.gearOf (e.u8 16) ≠ e.u8 17 → e.u8 16 = 1 → s.gearRefusal 1 (e.u8 17) = none → ∃ u : State, exec (.gearSet mb e) s = .next u ∧
      u.gears.change = some { mb := mb.val, domain := 1, target := e.u8 17, done := 0, total := (s.misplaced (5 - e.u8 17)).length } ∧
      u.gears.table = s.gears.table ∧
      u.te.queued.map (·.id) = s.te.queued.map (·.id) ++ [4, 6] ∧ u.tables.entries = s.tables.entries) ∧
    (s.gearOf (e.u8 16) ≠ e.u8 17 → e.u8 16 = 2 → s.gearRefusal 2 (e.u8 17) = none → ∃ t : State, exec (.gearSet mb e) s = .next t ∧
      (∀ i ∈ s.losers (e.u8 17), (t.store i).limit = s.storeSize i (e.u8 17)) ∧
      ((t.gears.buffer = e.u8 17 ∧ t.gears.change = none) ∨
        ∃ c, t.gears.change = some c ∧ c.mb = mb.val ∧ c.domain = 2 ∧ c.target = e.u8 17 ∧ t.gears.buffer = s.gears.buffer))) ∧
  (∀ (s : State) (mb : Fin 129) (e : Entry), Accepted s rowGearStatus mb e [] →
    ∃ res : BitVec 128, Answers (.gearStatus mb e) s rowGearStatus mb 0 res (begun s rowGearStatus mb e) ∧
      field res 16 1 = s.gears.table % 256 ∧ field res 17 1 = s.gears.buffer % 256 ∧ field res 18 1 = s.gears.matcher % 256 ∧
      field res 19 1 = s.gears.latency % 256 ∧
      match s.gears.change with
      | some c => field res 20 1 = c.domain % 256 ∧ field res 21 1 = c.target % 256 ∧ field res 24 4 = c.done % 2 ^ 32 ∧
          field res 28 4 = c.total % 2 ^ 32
      | none => field res 20 4 = 0 ∧ field res 24 8 = 0)

/-! ### Bundles, fuses, boot and resets (chapters 04, 12, 14, 16) -/

/-- PATCH_STAGE stages only an authentic bundle; activation waits for the ready point and for every sequencer to switch (spec/04_boot_microcode.md). -/
def Obligations.PatchStageAndActivate : Prop :=
  (∀ (s : State) (mb : Fin 129) (e : Entry) (b : Bytes), Accepted s rowPatchStage mb e [(32, 0, 2)] → e.f 32 0 2 ≠ 0 →
    b.length = e.bufLen →
    let u := begun s rowPatchStage mb e (some b)
    (∀ step, s.fuses.authenticate (!s.fw.bank) b = .inl step →
      exec (.patchStage mb e (some b)) s = .next (u.complete mb.val rowPatchStage 0x0D step 0 0)) ∧
    (∀ x, s.fuses.authenticate (!s.fw.bank) b = .inr x → e.f 32 0 2 ≠ 2 →
      x.fwMajor ≠ s.fw.fwMajor ∨ s.runningFormat < x.stateFormatMin →
      exec (.patchStage mb e (some b)) s = .next (u.complete mb.val rowPatchStage 0x02 32 0 0)) ∧
    (∀ x, s.fuses.authenticate (!s.fw.bank) b = .inr x →
      e.f 32 0 2 = 2 ∨ (x.fwMajor = s.fw.fwMajor ∧ x.stateFormatMin ≤ s.runningFormat) →
      (e.f 32 0 2 = 1 → ∃ (res : BitVec 128) (v : State), Answers (.patchStage mb e (some b)) s rowPatchStage mb 0 res v ∧ v.fw.staged = some x ∧
        v.fw.previous = none ∧ v.fw.active = s.fw.active ∧ field res 16 8 = leAt b 8 8 % 2 ^ 64) ∧
      (2 ≤ e.f 32 0 2 → ∃ v, exec (.patchStage mb e (some b)) s = .next v ∧
        v.fw.persist = some (mb.val, s.persistSlot, bundleBytes b) ∧ v.balls.spiDriven = true ∧ v.mboxes = u.mboxes ∧
        v.flash = s.flash ∧ v.fw.active = s.fw.active ∧ v.fw.staged = (if e.f 32 0 2 = 3 then some x else s.fw.staged) ∧
        v.fw.previous = (if e.f 32 0 2 = 3 then none else s.fw.previous)))) ∧
  (∀ (s : State) (mb slot : Nat) (b : Bytes), s.fw.persist = some (mb, slot, b) →
    (∃ (res : BitVec 128) (u : State), exec (.patchPersistDone true) s = .next (u.complete mb rowPatchStage 0 0 0 res) ∧
      u.flash = tset s.flash none slot (some b) ∧ u.fw.persist = none ∧ u.balls.spiDriven = false ∧ u.fw.active = s.fw.active) ∧
    (∃ u : State, exec (.patchPersistDone false) s = .next (u.complete mb rowPatchStage 0x0E (s.elapsed mb) 0 0) ∧
      u.flash = tset s.flash none slot none ∧ u.fw.persist = none ∧ u.balls.spiDriven = false ∧ u.fw.active = s.fw.active ∧
      ∀ y, (s.mbox mb).inExec = some y → u.fw.staged = (if y.entry.bit 32 0 then none else s.fw.staged))) ∧
  (∀ (s : State) (mb : Fin 129) (e : Entry) (x : Bundle), Accepted s rowPatchActivate mb e [(32, 0, 64)] → s.fw.staged = some x →
    x.id.toNat = e.u64 32 → s.activationBusy = none →
    let u := begun s rowPatchActivate mb e
    exec (.patchActivate mb e) s =
      .next { u with fw := { u.fw with activation := some { mb := mb.val, revert := false, started := false, tablePending := false } } }) ∧
  (∀ (s : State) (mb : Fin 129) (e : Entry), Accepted s rowPatchRevert mb e [] → s.fw.previous.isSome → s.activationBusy = none →
    let u := begun s rowPatchRevert mb e
    exec (.patchRevert mb e) s =
      .next { u with fw := { u.fw with activation := some { mb := mb.val, revert := true, started := false, tablePending := false } } }) ∧
  (∀ (s : State) (a : Activation), s.fw.activation = some a → a.started = false →
    (s.livePipes ≠ [] → ∃ t : State, exec .stagedFirmwareReady s = .next t ∧
      t.fw.activation = some { a with started := true, tablePending := s.te.running.isSome } ∧
      ∀ p, (t.pipe p).switches = (s.pipe p).switches ++ (if p ∈ s.livePipes then [Switch.patch] else [])) ∧
    (∃ u : State, exec .patchReadyTimeout s = .next ((u.complete a.mb (if a.revert then rowPatchRevert else rowPatchActivate) 0x0E
        (s.elapsed a.mb) 0 0).answerAll) ∧ u.fw.activation = none ∧ u.fw.active = s.fw.active ∧ u.fw.bank = s.fw.bank ∧
        u.pipes = s.pipes)) ∧
  (∀ (s : State) (a : Activation) (p : Fin 8) (r : List Switch) (x : Bundle), s.fw.activation = some a → a.started = true →
    (s.pipe p.val).switches = .patch :: r → s.isFenced 2 p.val = false → (if a.revert then s.fw.previous else s.fw.staged) = some x →
    ∃ t : State, exec (.pipeSwitch p) s = .next t ∧ (t.pipe p.val).patchBank = !s.fw.bank ∧
      (a.tablePending = true ∨ Switch.patch ∈ r ∧ p.val ∈ s.livePipes ∨ (∃ q ∈ s.livePipes, q ≠ p.val ∧ Switch.patch ∈ (s.pipe q).switches) →
        t.fw.activation = some a ∧ t.fw.active = s.fw.active ∧ t.fw.bank = s.fw.bank) ∧
      (a.tablePending = false → Switch.patch ∉ r → (∀ q ∈ s.livePipes, q ≠ p.val → Switch.patch ∉ (s.pipe q).switches) →
        t.fw.activation = none ∧ t.fw.active = some x ∧ t.fw.previous = s.fw.active ∧ t.fw.bank = !s.fw.bank)) ∧
  (∀ (s : State) (mb : Fin 129) (e : Entry), Accepted s rowPatchStatus mb e [] →
    ∃ res : BitVec 128, Answers (.patchStatus mb e) s rowPatchStatus mb 0 res (begun s rowPatchStatus mb e) ∧
      field res 16 8 = bundleId s.fw.active % 2 ^ 64 ∧ field res 24 8 = bundleId s.fw.staged % 2 ^ 64)

/-- FUSE_READ shows the fuses; ROLLBACK_ADVANCE burns only forward and only up to the active bundle's version (spec/04_boot_microcode.md). -/
def Obligations.FuseReadAndRollback : Prop :=
  (∀ (s : State) (mb : Fin 129) (e : Entry), Accepted s rowFuseRead mb e [] →
    ∃ res : BitVec 128, Answers (.fuseRead mb e) s rowFuseRead mb 0 res (begun s rowFuseRead mb e) ∧ field res 16 8 = s.fuses.serial.toNat ∧
      field res 24 1 = s.fuses.provisioned.toNat + 16 * s.fuses.revoked.toNat ∧ field res 25 1 = s.fuses.rollbackValue % 256 ∧
      field res 26 1 = (if s.fuses.debugLock then 1 else 0)) ∧
  (∀ (s : State) (mb : Fin 129) (e : Entry) (f : Option Nat), Accepted s rowRollbackAdvance mb e [(32, 0, 7)] →
    (match s.fw.active with | some x => x.version | none => 0) < e.f 32 0 7 →
    exec (.rollbackAdvance mb e f) s = .next ((begun s rowRollbackAdvance mb e).complete mb.val rowRollbackAdvance 0x02 32 0 0)) ∧
  (∀ (s : State) (mb : Fin 129) (e : Entry) (x : Bundle), Accepted s rowRollbackAdvance mb e [(32, 0, 7)] → s.fw.active = some x →
    e.f 32 0 7 ≤ x.version →
    let due (k : Nat) : Bool := x.revokeMask.getLsbD k && k != x.keySlot
    (∀ f, e.f 32 0 7 ≤ s.fuses.rollbackValue →
      Answers (.rollbackAdvance mb e f) s rowRollbackAdvance mb 0 0 (begun s rowRollbackAdvance mb e)) ∧
    (s.fuses.rollbackValue < e.f 32 0 7 → fusesAgree s.fuses →
      ∃ u : State, Answers (.rollbackAdvance mb e none) s rowRollbackAdvance mb 0 0 u ∧
        (∀ i, u.fuses.rollback.getLsbD i = (s.fuses.rollback.getLsbD i || i == e.f 32 0 7 - 1)) ∧
        (∀ k < 4, u.fuses.revoked.getLsbD k = (s.fuses.revoked.getLsbD k || due k)) ∧
        u.fuses.serial = s.fuses.serial ∧ u.fuses.keyHash = s.fuses.keyHash ∧ u.fuses.provisioned = s.fuses.provisioned ∧
        u.fuses.bundleKey = s.fuses.bundleKey ∧ u.fuses.debugLock = s.fuses.debugLock ∧
        u.fw = (begun s rowRollbackAdvance mb e).fw ∧ u.ports = s.ports ∧ u.tables = s.tables) ∧
    (s.fuses.rollbackValue < e.f 32 0 7 → ∃ u : State, exec (.rollbackAdvance mb e (some 0)) s =
      .next (u.complete mb.val rowRollbackAdvance 0x0E ((begun s rowRollbackAdvance mb e).elapsed mb.val) 0 0) ∧
      u.fuses = s.fuses) ∧
    (∀ k < 4, s.fuses.rollbackValue < e.f 32 0 7 → fusesAgree s.fuses → due k = true →
      ∃ u : State, exec (.rollbackAdvance mb e (some (k + 1))) s =
        .next (u.complete mb.val rowRollbackAdvance 0x0E ((begun s rowRollbackAdvance mb e).elapsed mb.val) 0 0) ∧
        (∀ i, u.fuses.rollback.getLsbD i = (s.fuses.rollback.getLsbD i || i == e.f 32 0 7 - 1)) ∧
        (∀ j < 4, u.fuses.revoked.getLsbD j = (s.fuses.revoked.getLsbD j || (due j && decide (j < k))))))

/-- Power, SYS_RESET_N and DEVICE_RESET return every register to its reset value; fuses, flash, host memory and the queue stay (spec/04_boot_microcode.md, spec/14_faults.md, spec/16_balls.md). -/
def Obligations.ResetsReturnToResetValues : Prop :=
  (∀ s : State, exec .powerRemoved s = .next (afterReset s false) ∧
    exec .sysResetAssert s = .next (afterReset s s.balls.powered) ∧
    (s.balls.powered = false → exec .powerApplied s = .next (afterReset s true)) ∧
    (s.balls.powered = true → exec .powerApplied s = .next s)) ∧
  (∀ (s : State) (b : OutBall), (afterReset s false).ballLevel b = .highZ ∧ (afterReset s true).ballLevel b = b.inReset) ∧
  (∀ (s : State) (src uid : BitVec 2), (s.balls.powered = true → s.balls.sysResetN = false →
    ∃ t : State, exec (.resetRelease src uid) s = .next t ∧ t.balls = { s.balls with sysResetN := true, bootSrc := src, unitId := uid } ∧
      t.boot = { Boot.reset with phase := .fuseLoad, bootSrc := src, unitId := uid } ∧ t.fuses = s.fuses ∧ t.flash = s.flash ∧
      t.fw.active = s.fw.active ∧ t.pending = s.pending ∧ (t.host.training = (s.host.perstN && s.host.refclk && !s.host.linkUp)) ∧
      ∀ k, (t.port k).cfg = (s.port k).cfg) ∧
    (s.balls.powered = false ∨ s.balls.sysResetN = true → exec (.resetRelease src uid) s = .next s)) ∧
  (∀ (s : State) (v : BitVec 64) (src uid : BitVec 2),
    (s.running = true → v.extractLsb' 16 16 = 0xB1C7#16 ∧ v.getLsbD 0 = true →
      exec (.deviceReset v src uid) s = exec (.resetRelease src uid) (afterReset s true)) ∧
    (s.running = false ∨ ¬ (v.extractLsb' 16 16 = 0xB1C7#16 ∧ v.getLsbD 0 = true) → exec (.deviceReset v src uid) s = .next s) ∧
    (s.running = true → v.extractLsb' 16 16 = 0xB1C7#16 ∧ v.getLsbD 0 = true → ∃ t : State, exec (.deviceReset v src uid) s = .next t ∧
      t.balls = { powered := true, sysResetN := true, bootSrc := src, unitId := uid, spiDriven := false } ∧ t.boot.phase = .fuseLoad ∧
      t.fuses = s.fuses ∧ t.slices = [] ∧ t.tables = Tables.reset ∧ t.fw.active = none))

/-- The boot goes from fuse load through authentication to READY, or ends in FAILED, phase by phase (spec/04_boot_microcode.md). -/
def Obligations.BootPhases : Prop :=
  (∀ (s : State) (m : FuseMap), s.boot.phase = .fuseLoad → ∃ t : State, exec (.fuseLoadComplete m) s = .next t ∧ t.boot.capValid = true ∧
    t.boot.phase = (if s.boot.bootSrc = 3 then .hold else .romBoot) ∧ t.balls.spiDriven = decide (s.boot.bootSrc ≠ 3) ∧
    t.fuses.part = m.part ∧ t.fuses.serial = m.serial ||| m.second.serial ∧
    t.fuses.provisioned = m.provisioned ||| m.second.provisioned ∧
    t.fuses.rollback = (m.rollback ||| s.fuses.first.rollback) ||| (m.second.rollback ||| s.fuses.second.rollback) ∧
    t.fuses.revoked = (m.revoked ||| s.fuses.first.revoked) ||| (m.second.revoked ||| s.fuses.second.revoked) ∧
    t.fw = s.fw ∧ t.ports = s.ports) ∧
  (∀ s : State, s.pending = [] → s.running = true → s.boot.phase = .romBoot → s.now < 2000000 → ∃ t : State, step s = .next t ∧
    t.boot.phase = (if s.now + 1 = 2000000 then .authenticating else .romBoot)) ∧
  (∀ (s : State) (slot : Fin 2) (d o : Bytes), s.inBootRom = true → s.bootTries slot.val d o = true →
    (∀ x, s.fuses.authenticate false d = .inr x → ∃ t : State, exec (.bootBundleRead slot d o) s = .next t ∧ t.boot.phase = .firmwareInit ∧
      t.boot.slotBooted = BitVec.ofNat 2 slot.val ∧ t.boot.stepOf slot.val = 15 ∧ t.fw.active = some x ∧ t.fw.fwMajor = x.fwMajor ∧
      t.balls.spiDriven = false) ∧
    (∀ n, s.fuses.authenticate false d = .inl n → ∃ t : State, exec (.bootBundleRead slot d o) s = .next t ∧
      t.boot.stepOf slot.val = BitVec.ofNat 4 n ∧ t.boot.stepOf (1 - slot.val) = s.boot.stepOf (1 - slot.val) ∧
      (s.boot.bootSrc = 0 ∧ s.boot.stepOf (1 - slot.val) = 0 → t.boot.phase = .authenticating ∧ t.balls.spiDriven = true) ∧
      (¬ (s.boot.bootSrc = 0 ∧ s.boot.stepOf (1 - slot.val) = 0) → t.boot.phase = .failed ∧ t.balls.spiDriven = false) ∧
      t.fw = s.fw)) ∧
  (∀ (s : State) (l : List UnitRef) (b : Option (Fin 53)), s.booting = true → s.boot.memReady = false →
    ∃ t : State, exec (.memoryInitComplete l b) s = .next t ∧ t.boot.memReady = true ∧
      t.boot.failed = s.boot.failed ++ l.filter (fun u => 1 ≤ u.kind && u.kind ≤ 5 && s.unitPresent u.kind u.index) ∧
      (∀ n ∈ s.onChip, (t.store n).total = s.storeSize n 1 ∧ (t.store n).free = s.storeSize n 1 ∧ (t.store n).queued = 0) ∧
      ((∀ n, b = some n → ¬ (n.val = 0 ∨ n.val = 1 ∨ 50 ≤ n.val)) →
        t.boot.phase = s.boot.phase ∧ t.boot.initFail = s.boot.initFail) ∧
      (∀ n, b = some n → n.val = 0 ∨ n.val = 1 ∨ 50 ≤ n.val → t.boot.initFail = true ∧ t.boot.initBlock.toNat = n.val ∧
        t.balls.spiDriven = false ∧ (s.boot.phase ≠ .hold → t.boot.phase = .failed))) ∧
  (∀ (s : State) (x : CalTarget), s.booting = true →
    (match x with | .spoke n => n.val < s.spokes | .tandemLink => s.hasTandem = true | .fabricLink _ => True) →
    calUnit x ∉ s.boot.failed →
    exec (.serdesCalibrationComplete x true) s = .next s ∧
    ∃ t : State, exec (.serdesCalibrationComplete x false) s = .next t ∧ t.boot = { s.boot with failed := s.boot.failed ++ [calUnit x] } ∧
      t.ports = s.ports) ∧
  (∀ s : State, s.boot.phase = .firmwareInit → s.boot.memReady = true → s.fw.halted = false →
    ∃ t : State, exec .defaultConfiguration s = .next t ∧ t.boot.phase = .ready ∧ t.fw.fwReady = true ∧ t.bell.started = true ∧
      t.bell.heartbeat = true)

/-- PERST, FLR and the reference clock act on the host interface; the link comes up only from training (spec/12_slices.md, spec/16_balls.md). -/
def Obligations.PcieEvents : Prop :=
  (∀ s : State, ∃ t : State, exec .perst s = .next t ∧ t.host.linkUp = false ∧ t.host.perstN = false ∧ t.host.rings = [] ∧
    (∀ p ∈ s.mboxes, (t.mbox p.1).enable = false ∧ (t.mbox p.1).state = .disabled ∧ (t.mbox p.1).fetched = []) ∧ t.lanes = s.lanes ∧
    t.fuses = s.fuses ∧ t.tables.entries = s.tables.entries) ∧
  (∀ s : State, ∃ t : State, exec .functionLevelReset s = .next t ∧ t.host.perstN = s.host.perstN ∧ t.host.linkUp = s.host.linkUp ∧
    t.host.rings = [] ∧
    (∀ p ∈ s.mboxes, (t.mbox p.1).enable = false ∧ (t.mbox p.1).state = .disabled ∧ (t.mbox p.1).fetched = []) ∧ t.lanes = s.lanes ∧
    t.fuses = s.fuses ∧ t.tables.entries = s.tables.entries) ∧
  (∀ s : State, exec .perstRelease s =
    .next { s with host := { s.host with perstN := true, training := s.running && s.host.refclk && !s.host.linkUp } }) ∧
  (∀ s : State, exec .pcieRefclkReturn s =
    .next { s with host := { s.host with refclk := true, training := s.running && s.host.perstN && !s.host.linkUp } }) ∧
  (∀ s : State, exec .pcieRefclkLoss s =
    .next { s with host := { s.host with refclk := false, linkUp := false, training := false, speed := 0, width := 0 } }) ∧
  (∀ s : State, (s.host.training = true → ∃ t : State, exec .pcieLinkUp s = .next t ∧ t.host.linkUp = true ∧ t.host.training = false ∧
      t.host.speed ∈ [8, 16, 32, 64] ∧ t.host.width ∈ [1, 2, 4, 8, 16] ∧ t.host.mem = s.host.mem ∧ t.mboxes = s.mboxes ∧
      sameBeside t s) ∧
    (s.host.training = false → exec .pcieLinkUp s = .next s))

/-! ### Ports (chapter 05) -/

/-- PORT_CONFIG creates, resets and removes ports; PORT_ENABLE, PORT_MODE_SET and PORT_PAUSE_SET change the settings they name (spec/05_spokes.md). -/
def Obligations.PortConfiguration : Prop :=
  (∀ (s : State) (mb : Fin 129) (e : Entry), Accepted s rowPortConfig mb e [(16, 0, 8), (17, 0, 8), (18, 0, 8), (19, 0, 8),
      (20, 0, 16), (22, 0, 8), (23, 0, 8), (24, 0, 16), (26, 0, 16), (28, 0, 16), (30, 0, 16), (32, 0, 16)] →
    (∀ x ∈ cfgBad e, x.1 = false) → e.u8 16 < s.portCount → s.isFenced 1 (e.u8 16 / 8) = false →
    let k := e.u8 16
    (e.u8 17 ≠ 0 → (s.port k).cfg.width = e.u8 17 → (s.port k).cfg.rate = e.u8 18 → (s.port k).cfg.linkTrain = decide (e.u8 22 = 1) →
      ∃ u : State, Answers (.portConfig mb e) s rowPortConfig mb 0 0 u ∧ (∀ j, j ≠ k → u.port j = s.port j) ∧
        u.port k = { s.port k with cfg := { cfgOf e with
          subscriber := (s.port k).cfg.subscriber, admin := (s.port k).cfg.admin } }) ∧
    (e.u8 17 ≠ 0 → ¬ ((s.port k).cfg.width = e.u8 17 ∧ (s.port k).cfg.rate = e.u8 18 ∧
        (s.port k).cfg.linkTrain = decide (e.u8 22 = 1)) →
      (∀ j ∈ s.touched k (e.u8 17), (s.port j).cfg.admin = false ∧ s.portHolds j = false ∧ s.hasNodes j = false) →
      ∃ u : State, Answers (.portConfig mb e) s rowPortConfig mb 0 0 u ∧ (u.port k).cfg = cfgOf e ∧ (u.port k).link.link = .down ∧
        (∀ j ∈ s.touched k (e.u8 17), j ≠ k → (u.port j).cfg.width = 0) ∧
        (∀ j, j ≠ k → j ∉ s.touched k (e.u8 17) → (u.port j).cfg = (s.port j).cfg) ∧
        (∀ l, (∀ j ∈ s.touched k (e.u8 17), ¬ (j ≤ l ∧ l < j + (s.port j).cfg.width)) → u.lane l = s.lane l)) ∧
    (e.u8 17 = 0 → (s.port k).cfg.width ≠ 0 → (s.port k).cfg.admin = false → s.portHolds k = false → s.hasNodes k = false →
      ∃ u : State, Answers (.portConfig mb e) s rowPortConfig mb 0 0 u ∧ (u.port k).cfg.width = 0 ∧
        (∀ j, j ≠ k → (u.port j).cfg = (s.port j).cfg) ∧
        (∀ l, k ≤ l → l < k + (s.port k).cfg.width → u.lane l = Lane.reset) ∧
        (∀ l, ¬ (k ≤ l ∧ l < k + (s.port k).cfg.width) → u.lane l = s.lane l))) ∧
  (∀ (s : State) (mb : Fin 129) (e : Entry), Accepted s rowPortEnable mb e [(16, 0, 8), (17, 0, 8)] → e.u8 16 < s.portCount →
    e.u8 17 ≤ 1 → s.isFenced 1 (e.u8 16 / 8) = false → (s.port (e.u8 16)).cfg.width ≠ 0 →
    ((s.port (e.u8 16)).cfg.admin = decide (e.u8 17 = 1) →
      Answers (.portEnable mb e) s rowPortEnable mb 0 0 (begun s rowPortEnable mb e)) ∧
    (∃ u : State, Answers (.portEnable mb e) s rowPortEnable mb 0 0 u ∧
      (u.port (e.u8 16)).cfg = { (s.port (e.u8 16)).cfg with admin := decide (e.u8 17 = 1) } ∧
      (∀ j, j ≠ e.u8 16 → (u.port j).cfg = (s.port j).cfg) ∧ u.lanes = s.lanes)) ∧
  (∀ (s : State) (mb : Fin 129) (e : Entry), Accepted s rowPortModeSet mb e [(16, 0, 8), (17, 0, 8)] → e.u8 16 < s.portCount →
    e.u8 17 ≤ 1 → s.isFenced 1 (e.u8 16 / 8) = false → (s.port (e.u8 16)).cfg.width ≠ 0 →
    (s.port (e.u8 16)).cfg.admin = false → s.portHolds (e.u8 16) = false → s.hasNodes (e.u8 16) = false →
    ∃ u : State, Answers (.portModeSet mb e) s rowPortModeSet mb 0 0 u ∧
      (u.port (e.u8 16)).cfg = { (s.port (e.u8 16)).cfg with subscriber := decide (e.u8 17 = 1) } ∧
      (∀ j, j ≠ e.u8 16 → (u.port j).cfg = (s.port j).cfg)) ∧
  (∀ (s : State) (mb : Fin 129) (e : Entry), Accepted s rowPortPauseSet mb e [(16, 0, 8), (17, 0, 8), (18, 0, 8), (19, 0, 8),
      (20, 0, 16), (22, 0, 16), (24, 0, 16), (26, 0, 8), (28, 0, 32), (32, 0, 32), (36, 0, 32)] → (∀ x ∈ s.pauseBad e, x.1 = false) →
    e.u8 16 < s.portCount → s.isFenced 1 (e.u8 16 / 8) = false → (s.port (e.u8 16)).cfg.width ≠ 0 →
    (s.setPort (e.u8 16) (pauseApply (s.port (e.u8 16)) e)).reservedHeadroom (e.u8 16 / 16) ≤ 8192 →
    ∃ u : State, Answers (.portPauseSet mb e) s rowPortPauseSet mb 0 0 u ∧ (u.port (e.u8 16)).cfg = (s.port (e.u8 16)).cfg ∧
      (u.port (e.u8 16)).pause.mode = e.u8 17 ∧ (u.port (e.u8 16)).pause.rxMask.toNat = e.u8 18 ∧
      (u.port (e.u8 16)).pause.txMask.toNat = e.u8 19 ∧ (u.port (e.u8 16)).pause.txQuanta = e.u16 20 ∧
      (u.port (e.u8 16)).pause.rxQuantaMax = e.u16 22 ∧ (u.port (e.u8 16)).pause.watchdogMs = e.u16 24 ∧
      (e.u8 26 ≠ 0xFF → ((u.port (e.u8 16)).prio (e.u8 26)).xoff = e.u32 28 ∧ ((u.port (e.u8 16)).prio (e.u8 26)).xon = e.u32 32 ∧
        ((u.port (e.u8 16)).prio (e.u8 26)).headroom = e.u32 36)) ∧
  (∀ (s : State) (mb : Fin 129) (e : Entry), Accepted s rowPortStatus mb e [(16, 0, 8)] → e.u8 16 < s.portCount →
    s.isFenced 1 (e.u8 16 / 8) = false → s.ownsPort mb.val (e.u8 16) = true → (s.port (e.u8 16)).cfg.width ≠ 0 →
    Answers (.portStatus mb e) s rowPortStatus mb 0 (BitVec.ofNat 64 (s.port (e.u8 16)).cfg.word ++
      BitVec.ofNat 64 (s.portStateWord (e.u8 16))) (begun s rowPortStatus mb e)) ∧
  (∀ (s : State) (mb : Fin 129) (e : Entry), Accepted s rowPortStatsRead mb e [(16, 0, 8), (17, 0, 8)] → e.u8 16 < s.portCount →
    e.u8 17 ≤ 30 → s.isFenced 1 (e.u8 16 / 8) = false → s.ownsPort mb.val (e.u8 16) = true → (s.port (e.u8 16)).cfg.width ≠ 0 →
    Answers (.portStatsRead mb e) s rowPortStatsRead mb 0 (tget (s.port (e.u8 16)).counters 0 (e.u8 17 + 1) ++
      tget (s.port (e.u8 16)).counters 0 (e.u8 17)) (begun s rowPortStatsRead mb e))

/-- A lane or fault change, a hold that ends, training, a flush and a skew measurement change the lane or the link of their port as stated (spec/05_spokes.md). -/
def Obligations.LinkEvents : Prop :=
  (∀ (s : State) (l : Fin 128) (v a b : Bool), (s.portOfLane l.val).isSome = true →
    (∃ (t : State) (n : BitVec 16), exec (.laneSignalDetect l v) s = .next t ∧ t.lane l.val = { s.lane l.val with sd := v, snrCb := n } ∧
      (∀ j, j ≠ l.val → t.lane j = s.lane j) ∧ ∀ k, (t.port k).cfg = (s.port k).cfg) ∧
    (∃ (t : State) (n : BitVec 16), exec (.laneLockChange l a b) s = .next t ∧
      t.lane l.val = { s.lane l.val with cdr := a, lock := b, snrCb := n } ∧
      (∀ j, j ≠ l.val → t.lane j = s.lane j) ∧ ∀ k, (t.port k).cfg = (s.port k).cfg)) ∧
  (∀ (s : State) (l : Fin 128) (v a b : Bool), s.portOfLane l.val = none → s.gears.change = none →
    exec (.laneSignalDetect l v) s = .next s ∧ exec (.laneLockChange l a b) s = .next s) ∧
  (∀ (s : State) (k : Fin 128), (s.trainingNow k.val = true → ∃ t : State, exec (.linkTrainingComplete k) s = .next t ∧
      (t.port k.val).link.trained = true ∧ (t.port k.val).cfg = (s.port k.val).cfg ∧ t.lanes = s.lanes) ∧
    (s.trainingNow k.val = false → exec (.linkTrainingComplete k) s = .next s)) ∧
  (∀ (s : State) (k : Fin 128) (a b : Bool), (s.port k.val).cfg.width ≠ 0 → ∃ t : State, exec (.linkFaultChange k a b) s = .next t ∧
    (t.port k.val).link.localFault = a ∧ (t.port k.val).link.remoteFault = b ∧ (a = true ∨ b = true → (t.port k.val).sending = none) ∧
    (t.port k.val).cfg = (s.port k.val).cfg ∧ t.lanes = s.lanes) ∧
  (∀ (s : State) (k : Fin 128),
    ((s.port k.val).link.link = .holdUp → ∃ t : State, exec (.linkUpHoldExpiry k) s = .next t ∧ (t.port k.val).link.link = .up ∧
      (t.port k.val).link.changeCount = (s.port k.val).link.changeCount + 1 ∧ (t.port k.val).link.tsValid = false ∧
      (t.port k.val).cfg = (s.port k.val).cfg) ∧
    ((s.port k.val).link.link ≠ .holdUp → exec (.linkUpHoldExpiry k) s = .next s) ∧
    ((s.port k.val).link.link = .holdDown → ∃ t : State, exec (.linkDownHoldExpiry k) s = .next t ∧ (t.port k.val).link.link = .down ∧
      (t.port k.val).link.changeCount = (s.port k.val).link.changeCount + 1 ∧
      (t.port k.val).staging = [] ∧ (t.port k.val).cfg = (s.port k.val).cfg) ∧
    ((s.port k.val).link.link ≠ .holdDown → exec (.linkDownHoldExpiry k) s = .next s)) ∧
  (∀ (s : State) (k : Fin 128), ((s.port k.val).flushing = true → ∃ t : State, exec (.flushComplete k) s = .next t ∧
      (t.port k.val).flushing = false ∧ ((s.port k.val).link.link = .up → (t.port k.val).blocked = false) ∧
      (t.port k.val).cfg = (s.port k.val).cfg) ∧
    ((s.port k.val).flushing = false → exec (.flushComplete k) s = .next s)) ∧
  (∀ (s : State) (k : Fin 128), (s.port k.val).link.link = .up → exec (.laneSkewMeasured k) s =
    .next (s.setPort k.val { s.port k.val with link := { (s.port k.val).link with tsValid := true } }))

/-- A frame that starts on an open port is held as a packet; the pipe takes its head with the banks in force; its end is counted (spec/05_spokes.md). -/
def Obligations.FrameReception : Prop :=
  (∀ (s : State) (k : Fin 128) (b : Bytes) (q : Option Nat), s.rxOpen k.val = true → (s.port k.val).receiving = none →
    (∃ t : State, exec (.rxFrameStart k b { preambleOk := false, symbolAt := q }) s = .next t ∧ (t.port k.val).receiving = none ∧
      tget (t.port k.val).counters 0 2 = tget (s.port k.val).counters 0 2 + 1 ∧ t.sw.packets = s.sw.packets) ∧
    (s.fifoUsed k.val + 256 ≤ s.fifoSize k.val → ∃ t x, exec (.rxFrameStart k b { preambleOk := true, symbolAt := q }) s = .next t ∧
      (t.port k.val).receiving = some s.sw.nextPacket ∧ t.packet s.sw.nextPacket = some x ∧ x.port = k.val ∧
      x.length = min b.length ((s.port k.val).cfg.limit b + 1) ∧ x.arrived = min x.length 64 ∧ x.stamp = s.now ∧
      x.bytes = b.take (x.length - 4) ∧ x.limit = (s.port k.val).cfg.limit b ∧ x.symbolAt = q ∧ t.sw.nextPacket = s.sw.nextPacket + 1) ∧
    (s.fifoSize k.val < s.fifoUsed k.val + 256 → ∃ t : State, exec (.rxFrameStart k b { preambleOk := true, symbolAt := q }) s = .next t ∧
      (t.port k.val).receiving = none ∧ tget (t.port k.val).counters 0 8 = tget (s.port k.val).counters 0 8 + 1)) ∧
  (∀ (s : State) (k : Fin 128) (id : Nat) (r : List Nat) (x : Packet), (s.port k.val).waiting = id :: r → s.packet id = some x →
    s.portFenced k.val = false → ∃ t y, exec (.pipeHeadTaken k) s = .next t ∧ (t.port k.val).waiting = r ∧ t.packet id = some y ∧
      y.started = true ∧ y.stamp = s.now ∧ y.ruleBank = (s.pipe (k.val / 16)).ruleBank ∧
      y.graphBank = (s.pipe (k.val / 16)).graphBank ∧ y.custBank = (s.pipe (k.val / 16)).custBank ∧
      y.actBank = (s.pipe (k.val / 16)).actBank ∧ y.patchBank = (s.pipe (k.val / 16)).patchBank ∧ y.bytes = x.bytes ∧
      (t.pipe (k.val / 16)).heads = (s.pipe (k.val / 16)).heads ++ [id]) ∧
  (∀ (s : State) (k : Fin 128) (id : Nat) (x : Packet), (s.port k.val).receiving = some id → s.packet id = some x →
    x.started = false → x.frames = [] → x.arrived + 256 < x.length → s.gears.change = none →
    s.fifoUsed k.val + 256 ≤ s.fifoSize k.val → x.port = k.val →
    ∃ t : State, exec (.ingressCellWrite k) s = .next t ∧ t.packet id = some { x with arrived := x.arrived + 256 } ∧
      (t.port k.val).receiving = some id) ∧
  (∀ (s : State) (k : Fin 128) (id : Nat) (x : Packet) (f : FcsOutcome) (sy : Nat) (fec : FecCounts),
    (s.port k.val).receiving = some id → s.packet id = some x → x.port = k.val →
    ∃ t : State, exec (.rxFrameEnd k f sy fec) s = .next t ∧ (t.port k.val).receiving = none ∧
      (s.rxCause x f = .ok → isControl x.bytes = false → 64 ≤ x.length →
        tget (t.port k.val).counters 0 0 = tget (s.port k.val).counters 0 0 + 1 ∧
        tget (t.port k.val).counters 0 1 = tget (s.port k.val).counters 0 1 + BitVec.ofNat 64 x.length))

/-- The MAC sends the first staged frame that no pause holds while the gates are open; pause times end, trip and repeat as stated (spec/05_spokes.md). -/
def Obligations.TransmissionAndPause : Prop :=
  (∀ (s : State) (k : Fin 128) (i : Nat) (f : TxFrame), s.txOpen k.val = true → s.gateOpen = true → s.txNext k.val = some i →
    (s.port k.val).staging[i]? = some f → ∃ t g, exec (.txFrameStart k) s = .next t ∧ (t.port k.val).sending = some g ∧
      g.frameId = f.frameId ∧ g.cls = f.cls ∧ g.queue = f.queue ∧ (f.ce = false → g.bytes = f.bytes) ∧
      (t.port k.val).cfg = (s.port k.val).cfg) ∧
  (∀ (s : State) (k : Fin 128) (f : TxFrame), (s.port k.val).sending = some f → f.complete = true → f.stomp = false →
    (f.cut = false ∨ f.bytes.length + 4 ≤ f.limit) → ∃ t : State, exec (.txFrameEnd k) s = .next t ∧ (t.port k.val).sending = none ∧
      tget (t.port k.val).counters 0 14 = tget (s.port k.val).counters 0 14 + 1 ∧
      tget (t.port k.val).counters 0 15 = tget (s.port k.val).counters 0 15 + BitVec.ofNat 64 (f.bytes.length + 4)) ∧
  (∀ (s : State) (k : Fin 128) (c : Fin 8), ((s.port k.val).prio c.val).until_.isSome = true →
    ∃ t : State, exec (.pauseTimerExpiry k c) s = .next t ∧
      (t.port k.val).prio c.val = { (s.port k.val).prio c.val with until_ := none } ∧ (t.port k.val).cfg = (s.port k.val).cfg) ∧
  (∀ (s : State) (k : Fin 128) (c : Fin 8), (s.port k.val).pause.watchdogMs ≠ 0 → (s.port k.val).paused c.val s.now = true →
    ((s.port k.val).pause.mode = 1 → c.val = 0) → ∃ t : State, exec (.pauseWatchdogTrip k c) s = .next t ∧
      (t.port k.val).prio c.val = { (s.port k.val).prio c.val with until_ := none, storm := true } ∧
      tget (t.port k.val).counters 0 24 = tget (s.port k.val).counters 0 24 + 1) ∧
  (∀ (s : State) (k : Fin 128) (c : Fin 8), ((s.port k.val).prio c.val).storm = true →
    ∃ t : State, exec (.pauseWatchdogEnd k c) s = .next t ∧ (t.port k.val).prio c.val = { (s.port k.val).prio c.val with storm := false } ∧
      (t.port k.val).counters = (s.port k.val).counters) ∧
  (∀ (s : State) (k : Fin 128) (c : Fin 8),
    (c.val ∈ (s.port k.val).flowPrios → ((s.port k.val).prio c.val).txXoff = true → s.mayPause k.val = true →
      (s.port k.val).pause.mode = 2 → ∃ t : State, exec (.xoffRefresh k c) s = .next t ∧
        tget (t.port k.val).counters 0 18 = tget (s.port k.val).counters 0 18 + 1 ∧
        (t.port k.val).pause = { (s.port k.val).pause with sent := [(c.val, (s.port k.val).pause.txQuanta)] }) ∧
    (((s.port k.val).prio c.val).txXoff = false → exec (.xoffRefresh k c) s = .next s))

/-! ### Parser, customer store, pattern sets and passes (chapters 04, 06, 08) -/

/-- A valid graph or customer image goes to the inactive bank, which becomes current, and every live pipe is told to switch; a bad one is refused (spec/04_boot_microcode.md, spec/06_parser.md). -/
def Obligations.ImageLoads : Prop :=
  (∀ (s : State) (mb : Fin 129) (e : Entry) (buf : Option Bytes), e.indirect = false → Accepted s rowParseGraphLoad mb e [(32, 0, 1)] →
    (e.bit 32 0 = true → s.ctl.graphMb = none → s.flying 1 (!s.ctl.graphBank) = 0 → s.livePipes ≠ [] →
      ∃ t : State, exec (.parseGraphLoad mb e buf) s = .next t ∧ t.ctl.graphBank = !s.ctl.graphBank ∧ t.ctl.graphMb = some mb.val ∧
        (s.ctl.graphBank = true → t.ctl.graphA = Graph.default ∧ t.ctl.graphB = s.ctl.graphB) ∧
        (s.ctl.graphBank = false → t.ctl.graphB = Graph.default ∧ t.ctl.graphA = s.ctl.graphA) ∧
        ∀ p, (t.pipe p).graphBank = (s.pipe p).graphBank ∧
          (t.pipe p).switches = (s.pipe p).switches ++ (if p ∈ s.livePipes then [Switch.graph] else [])) ∧
    (e.bit 32 0 = false →
      exec (.parseGraphLoad mb e buf) s = .next ((begun s rowParseGraphLoad mb e buf).complete mb.val rowParseGraphLoad 0x02 32 0 0))) ∧
  (∀ (s : State) (mb : Fin 129) (e : Entry) (b : Bytes), e.indirect = true → Accepted s rowParseGraphLoad mb e [] →
    (b.length = e.bufLen → s.ctl.graphMb = none → s.flying 1 (!s.ctl.graphBank) = 0 → s.livePipes ≠ [] →
      (∀ g, graphOf b = .inl g → ∃ t : State, exec (.parseGraphLoad mb e (some b)) s = .next t ∧ t.ctl.graphBank = !s.ctl.graphBank ∧
        t.ctl.graphMb = some mb.val ∧ (if s.ctl.graphBank then t.ctl.graphA else t.ctl.graphB) = g ∧
        (if s.ctl.graphBank then t.ctl.graphB else t.ctl.graphA) = (if s.ctl.graphBank then s.ctl.graphB else s.ctl.graphA) ∧
        ∀ p, (t.pipe p).graphBank = (s.pipe p).graphBank ∧
          (t.pipe p).switches = (s.pipe p).switches ++ (if p ∈ s.livePipes then [Switch.graph] else [])) ∧
      (∀ x, graphOf b = .inr x → ∃ u : State, exec (.parseGraphLoad mb e (some b)) s =
        .next (u.complete mb.val rowParseGraphLoad 0x02 16 0 0) ∧ u.ctl = s.ctl ∧ u.pipes = s.pipes)) ∧
    (s.ctl.graphMb.isSome ∨ s.flying 1 (!s.ctl.graphBank) ≠ 0 → exec (.parseGraphLoad mb e (some b)) s =
      .next ((begun s rowParseGraphLoad mb e (some b)).complete mb.val rowParseGraphLoad 0x08 0x0501 0 0))) ∧
  (∀ (s : State) (mb : Fin 129) (e : Entry) (b : Bytes), Accepted s rowCustomerStoreLoad mb e [] →
    (e.bufLen ≤ 65536 → b.length = e.bufLen → s.ctl.custMb = none → s.flying 2 (!s.ctl.custBank) = 0 → s.livePipes ≠ [] →
      let bad := firstFailing 0 ((List.range (b.length / 16)).map (fun i => customerBad (leAt b (16 * i) 16)))
      (bad = none → ∃ t : State, exec (.customerStoreLoad mb e (some b)) s = .next t ∧ t.ctl.custBank = !s.ctl.custBank ∧
        t.ctl.custMb = some mb.val ∧
        (if s.ctl.custBank then t.ctl.custA else t.ctl.custB) =
          (List.range (b.length / 16)).map (fun i => BitVec.ofNat 128 (leAt b (16 * i) 16)) ∧
        (if s.ctl.custBank then t.ctl.custB else t.ctl.custA) = (if s.ctl.custBank then s.ctl.custB else s.ctl.custA) ∧
        ∀ p, (t.pipe p).custBank = (s.pipe p).custBank ∧
          (t.pipe p).switches = (s.pipe p).switches ++ (if p ∈ s.livePipes then [Switch.customer] else [])) ∧
      (∀ x, bad = some x → ∃ u : State, exec (.customerStoreLoad mb e (some b)) s =
        .next (u.complete mb.val rowCustomerStoreLoad 0x02 16 0 0) ∧ u.ctl = s.ctl ∧ u.pipes = s.pipes)) ∧
    (65536 < e.bufLen → e.indirect = true → exec (.customerStoreLoad mb e (some b)) s =
      .next ((begun s rowCustomerStoreLoad mb e (some b)).complete mb.val rowCustomerStoreLoad 0x02 24 0 0)) ∧
    (e.bufLen ≤ 65536 → s.ctl.custMb.isSome ∨ s.flying 2 (!s.ctl.custBank) ≠ 0 → exec (.customerStoreLoad mb e (some b)) s =
      .next ((begun s rowCustomerStoreLoad mb e (some b)).complete mb.val rowCustomerStoreLoad 0x08 0x0502 0 0)))

/-- PATTERN_SET_LOAD fills an empty set that fits, PATTERN_SET_BIND binds it to one port, LIFELINE_SET sets a slice's marking and budget (spec/06_parser.md). -/
def Obligations.PatternSetsAndLifeline : Prop :=
  (∀ (s : State) (mb : Fin 129) (e : Entry) (b : Bytes) (l : List Pattern), Accepted s rowPatternSetLoad mb e [(32, 0, 6), (33, 0, 8)] →
    e.f 32 0 6 ≠ 0 → (e.u8 33 < 128 ∨ e.u8 33 = 0xFF) → s.hasMatcher = true → (∀ k, (s.port k).patternSet ≠ e.f 32 0 6) →
    s.ports.any (fun p => p.2.patternSet == e.f 32 0 6) = false → b.length = e.bufLen →
    leAt b 0 2 ≤ 16384 → allZero (slice b 2 62) = true → patternsOf (leAt b 0 2) 0 (b.drop 64) = .inl l →
    tget s.ctl.sets none (e.f 32 0 6) = none → patternBlocks l ≤ s.freeAutomata →
    ∃ (res : BitVec 128) (u : State), Answers (.patternSetLoad mb e (some b)) s rowPatternSetLoad mb 0 res u ∧
      tget u.ctl.sets none (e.f 32 0 6) =
        (if l = [] then none else some { patterns := l, owner := e.u8 33, blocks := patternBlocks l }) ∧
      (∀ m, m ≠ e.f 32 0 6 → tget u.ctl.sets none m = tget s.ctl.sets none m) ∧
      field res 16 4 = patternBlocks l % 2 ^ 32 ∧ u.ports = s.ports) ∧
  (∀ (s : State) (mb : Fin 129) (e : Entry), Accepted s rowPatternSetBind mb e [(16, 0, 8), (17, 0, 8)] → e.u8 16 < s.portCount →
    e.u8 17 ≤ 63 → s.hasMatcher = true → s.isFenced 1 (e.u8 16 / 8) = false → s.ownsPort mb.val (e.u8 16) = true →
    (s.port (e.u8 16)).cfg.width ≠ 0 → (e.u8 17 = 0 ∨ ∃ p, tget s.ctl.sets none (e.u8 17) = some p) →
    (∀ p, tget s.ctl.sets none (e.u8 17) = some p → mb.val = 0 ∨ p.owner = 0xFF ∨ p.owner = mb.val - 1) →
    ∃ u : State, Answers (.patternSetBind mb e) s rowPatternSetBind mb 0 0 u ∧
      u.port (e.u8 16) = { s.port (e.u8 16) with patternSet := e.u8 17 } ∧ (∀ k, k ≠ e.u8 16 → u.port k = s.port k) ∧ u.ctl = s.ctl) ∧
  (∀ (s : State) (mb : Fin 129) (e : Entry), Accepted s rowLifelineSet mb e [(16, 0, 8), (17, 0, 8), (18, 0, 16)] → e.u8 16 ≤ 127 →
    e.u8 17 ≤ 1 → (mb.val = 0 ∨ e.u8 16 = mb.val - 1) → (s.slice (e.u8 16)).state ≠ .none →
    ∃ u : State, Answers (.lifelineSet mb e) s rowLifelineSet mb 0 0 u ∧
      u.slice (e.u8 16) = { s.slice (e.u8 16) with lifeline := decide (e.u8 17 = 1), budget := e.u16 18 } ∧
      (∀ n, n ≠ e.u8 16 → u.slice n = s.slice n))

/-- A pass takes the oldest head, parses it, drops it or holds it for the matcher; the matcher's result ends the hold; recirculated frames return (spec/06_parser.md, spec/08_rules_actions.md). -/
def Obligations.PacketPasses : Prop :=
  (∀ (s : State) (p : Fin 8) (id : Nat) (r : List Nat) (x : Packet), (s.pipe p.val).heads = id :: r → s.isFenced 2 p.val = false →
    s.packet id = some x → s.gears.change = none → s.ctl.setLoads = [] → (∀ k, (s.port k).digest.partner = []) → s.bad = [] →
    let g := if x.graphBank then s.ctl.graphB else s.ctl.graphA
    let q := parsePacket g (if x.custBank then s.ctl.custB else s.ctl.custA) (s.port x.port).cfg.extraTpid.toNat x.bytes
      (if x.pass = 0 then g.starts.getD x.port 0 else g.recircStart) s.freeIx []
    (6 ∈ (s.pipe p.val).injected → ∃ t : State, exec (.packetPass p) s = .next t ∧ (t.pipe p.val).heads = r ∧
      (∀ y, t.packet id = some y → y.decided = true) ∧ (t.pipe p.val).injected = (s.pipe p.val).injected.erase 6 ∧
      tget (t.pipe p.val).parseCnt 0 3 = tget (s.pipe p.val).parseCnt 0 3 + 1) ∧
    (6 ∉ (s.pipe p.val).injected → q.drop = true → ∃ t : State, exec (.packetPass p) s = .next t ∧ (t.pipe p.val).heads = r ∧
      (∀ y, t.packet id = some y → y.decided = true) ∧
      tget (t.pipe p.val).parseCnt 0 0 = tget (s.pipe p.val).parseCnt 0 0 + 1 ∧
      tget (t.pipe p.val).parseCnt 0 2 = tget (s.pipe p.val).parseCnt 0 2 + 1) ∧
    (6 ∉ (s.pipe p.val).injected → q.drop = false → s.hasMatcher = true → x.patternSet ≠ 0 → (s.planWord x).isSome = true → ∃ t y, exec (.packetPass p) s = .next t ∧
      (t.pipe p.val).heads = r ∧ (t.pipe p.val).matching = (s.pipe p.val).matching ++ [id] ∧ t.packet id = some y ∧
      y.decided = x.decided ∧ y.bytes = x.bytes ∧ ∃ ps, y.state = some ps ∧ ps.headers = q.headers ∧ ps.headerEnd = q.bytes ∧
        ps.depth = matchDepth (s.pipe p.val).matchGear)) ∧
  (∀ (s : State) (p : Fin 8) (id : Nat) (r : List Nat) (x : Packet) (ps : PassState), (s.pipe p.val).matching = id :: r →
    s.isFenced 2 p.val = false → s.packet id = some x → x.state = some ps →
    let pay := x.bytes.drop ps.headerEnd
    let res := match s.setOf id x.patternSet with
      | some c => if s.isFenced 4 p.val then 0 else matchResult c.patterns pay ps.depth
      | none => 0
    ∃ u : State, u.sw = s.sw ∧ (u.pipe p.val).matching = r ∧
      tget (u.pipe p.val).matchCnt 0 0 = tget (s.pipe p.val).matchCnt 0 0 + (if res.testBit 0 then 1 else 0) ∧
      tget (u.pipe p.val).matchCnt 0 4 = tget (s.pipe p.val).matchCnt 0 4 + (if res.testBit 0 then 0 else 1) ∧
      (∀ w, s.planWord x = some w → exec (.matcherResult p) s = .next (((u.passRest p.val id x
        { ps with key := BitVec.ofNat 1536 (putBits ps.key.toNat 192 32 res) } w).pipeDigests p.val).gearCheck)) ∧
      (s.planWord x = none → exec (.matcherResult p) s =
        .next (((u.endDropped p.val id x dropRange x.bytes []).pipeDigests p.val).gearCheck))) ∧
  (∀ (s : State) (p : Fin 8) (f id : Nat) (r : List Nat) (y : Frame) (x : Packet), s.queueOf (qRecirc p.val) = f :: r → s.frame f = some y →
    y.complete = true → y.pkt = some id → s.packet id = some x → s.isFenced 2 p.val = false → s.gears.change = none →
    ∃ t : State, exec (.recircHead p) s = .next t ∧ t.frame f = none ∧
      t.packet id = some { x with bytes := y.bytes, slice := y.slice, pass := x.pass + 1 } ∧
      (t.pipe p.val).heads = (s.pipe p.val).heads ++ [id])

/-! ### Exact-match and route memories, the table engine (chapter 07, with R94) -/

/-- EM_INSERT places, EM_DELETE removes and EM_UPDATE rewrites exactly the entry of its key; EM_LOOKUP and EM_READ_INDEX return it; batches go item by item (spec/07_tables.md). -/
def Obligations.ExactMatchCommands : Prop :=
  (∀ (s : State) (mb : Fin 129) (e : Entry) (buf : Option Bytes) (i : Nat), e.indirect = false → Accepted s rowEmInsert mb e allArgs →
    s.wordsQuiet = true →
    let b := emItem e
    let t := leAt b 0 1
    let k := leAt b 24 48
    let act := leAt b 8 16
    let a := widthActBits (s.emWidth t)
    let v := trapState s rowEmInsert mb e buf
    s.emItemCheck mb.val .insert 16 b = none → s.emSearch t k = none → s.pairCheck a act none = none →
    s.slotShareOk (descOwner (s.emDesc t)) (widthSlots (s.emWidth t)) = true → v.findPlace t k (widthSlots (s.emWidth t)) = some (i, v) →
    ∃ (res : BitVec 128) (u : State), Answers (.emInsert mb e buf) s rowEmInsert mb 1 res u ∧ field res 16 4 = i % 2 ^ 32 ∧
      u.entryAt i = some { table := t, hit := false, static := bitAt (leAt b 1 1) 0, learned := false, gen := s.posGen i + 1, key := BitVec.ofNat 384 k, action := BitVec.ofNat 112 act, port := 0, parityOk := true, twin := none, changed := s.now } ∧
      (∀ j, j ≠ i → u.entryAt j = s.entryAt j) ∧ u.tables.routes = s.tables.routes ∧
      (actCount a act = true → act < 2 ^ 112 → (u.pair (actStat a act)).holder = some (.em i))) ∧
  (∀ (s : State) (mb : Fin 129) (e : Entry) (buf : Option Bytes) (i : Nat) (x : EmEntry), e.indirect = false →
    Accepted s rowEmDelete mb e allArgs → s.wordsQuiet = true →
    let b := emItem e
    s.emItemCheck mb.val .delete 16 b = none → s.emSearch (leAt b 0 1) (leAt b 24 48) = some i → s.entryAt i = some x → x.twin = none →
    ∃ u : State, Answers (.emDelete mb e buf) s rowEmDelete mb 1 0 u ∧ u.entryAt i = none ∧ (∀ j, j ≠ i → u.entryAt j = s.entryAt j) ∧
      u.posGen i = s.posGen i + 1 ∧ (s.entryCounts x = true → (u.pair (s.entryStat x)).holder = none) ∧
      (s.entryCounts x = false → u.tables.pairs = s.tables.pairs) ∧ u.tables.routes = s.tables.routes) ∧
  (∀ (s : State) (mb : Fin 129) (e : Entry) (i : Nat) (x : EmEntry), Accepted s rowEmUpdate mb e allArgs → s.wordsQuiet = true →
    let b := emItem e
    let a := widthActBits (s.emWidth (leAt b 0 1))
    s.emItemCheck mb.val .update 16 b = none → s.emTarget b = .inl i → s.entryAt i = some x → x.twin = none →
    s.pairCheck a (leAt b 8 16) (some (.em i)) = none →
    ∃ u : State, Answers (.emUpdate mb e) s rowEmUpdate mb 0 0 u ∧
      u.entryAt i = some { x with
        action := BitVec.ofNat 112 (leAt b 8 16), static := bitAt (leAt b 1 1) 0, learned := false } ∧
      (∀ j, j ≠ i → u.entryAt j = s.entryAt j) ∧
      (actCount a (leAt b 8 16) = true → (u.pair (actStat a (leAt b 8 16))).holder = some (.em i))) ∧
  (∀ (s : State) (mb : Fin 129) (e : Entry) (i : Nat) (x : EmEntry), Accepted s rowEmLookup mb e allArgs → s.wordsQuiet = true →
    let b := emItem e
    s.emItemCheck mb.val .lookup 16 b = none → s.emSearch (leAt b 0 1) (leAt b 24 48) = some i → s.entryAt i = some x →
    ∃ (res : BitVec 128) (u : State), Answers (.emLookup mb e) s rowEmLookup mb 0 res u ∧ u.tables.entries = s.tables.entries ∧
      field res 16 4 = i % 2 ^ 32 ∧ field res 20 2 = { x with hit := s.entryHit i x }.header % 2 ^ 16 ∧
      field res 22 10 = x.action.toNat % 2 ^ 80) ∧
  (∀ (s : State) (mb : Fin 129) (e : Entry) (x : EmEntry), Accepted s rowEmReadIndex mb e [(16, 0, 32), (24, 0, 2)] → s.wordsQuiet = true →
    e.u32 16 < 0x410000 → s.entryAt (e.u32 16) = some x → x.twin = none → (mb.val = 0 ∨ descOwner (s.emDesc x.table) = mb.val - 1) →
    ∃ res : BitVec 128, Answers (.emReadIndex mb e) s rowEmReadIndex mb 0 res (trapState s rowEmReadIndex mb e) ∧
      (trapState s rowEmReadIndex mb e).tables.entries = s.tables.entries ∧
      (e.f 24 0 2 = 0 → field res 16 2 = { x with hit := s.entryHit (e.u32 16) x }.header % 2 ^ 16 ∧ field res 18 14 = x.action.toNat) ∧
      (e.f 24 0 2 ≠ 0 → res = BitVec.ofNat 128 (x.key.toNat / 2 ^ (128 * (e.f 24 0 2 - 1))))) ∧
  (∀ (s : State) (mb : Fin 129) (e : Entry) (b : Bytes) (n : Nat), e.indirect = true → b.length = e.bufLen → s.wordsQuiet = true →
    s.fw.pace = none → batchCount b 233016 72 = some n →
    (Accepted s rowEmInsert mb e [] → BatchAnswers (.emInsert mb e (some b)) s rowEmInsert mb (trapState s rowEmInsert mb e (some b))
      (emInsertItem mb.val e) (batchItems b n 72)) ∧
    (Accepted s rowEmDelete mb e [] → BatchAnswers (.emDelete mb e (some b)) s rowEmDelete mb (trapState s rowEmDelete mb e (some b))
      (fun u _ x => u.emDelete mb.val 0 x) (batchItems b n 72)))

/-- LPM_ADD and LPM_DELETE change one route or one result word; LEARN_CONFIG, AGEING_CONFIG and PARITY_LOG_READ act on what they name (spec/07_tables.md). -/
def Obligations.RouteAndTableSettings : Prop :=
  (∀ (s : State) (mb : Fin 129) (e : Entry) (buf : Option Bytes), e.indirect = false → Accepted s rowLpmAdd mb e [(16, 0, 256)] →
    let b := e.argBytes
    s.lpmItemCheck mb.val true 16 b = none → s.wordsQuiet = true →
    (leAt b 0 1 = 1 → ∃ u : State, Answers (.lpmAdd mb e buf) s rowLpmAdd mb 1 0 u ∧ u.tables.routes = s.tables.routes ∧
      tget u.tables.results 0 (leAt b 8 4) = BitVec.ofNat 64 (leAt b 16 8) ∧
      (∀ j, j ≠ leAt b 8 4 → tget u.tables.results 0 j = tget s.tables.results 0 j)) ∧
    (leAt b 0 1 = 0 → (∀ r ∈ s.tables.routes, r.key ≠ (routeOf b).key) →
      s.unitsUsed + routeUnits (routeOf b).v6 (routeOf b).length ≤ unitsTotal s.gears.table →
      (s.vrfOwner (routeOf b).vrf < 128 → s.unitsOf (s.vrfOwner (routeOf b).vrf) + routeUnits (routeOf b).v6 (routeOf b).length ≤
        tget (s.slice (s.vrfOwner (routeOf b).vrf)).counts 0 80) →
      (s.routeStall (routeUnits (routeOf b).v6 (routeOf b).length) = false →
        ∃ u : State, Answers (.lpmAdd mb e buf) s rowLpmAdd mb 1 0 u ∧ u.tables.results = s.tables.results ∧
          ∀ r, r ∈ u.tables.routes ↔ r = routeOf b ∨ r ∈ s.tables.routes) ∧
      (s.routeStall (routeUnits (routeOf b).v6 (routeOf b).length) = true → ∃ t : State, exec (.lpmAdd mb e buf) s = .next t ∧
        t.te.queued.map (·.id) = s.te.queued.map (·.id) ++ [5] ∧ t.tables.routes = s.tables.routes ∧ (t.mbox mb.val).inExec.isSome))) ∧
  (∀ (s : State) (mb : Fin 129) (e : Entry) (buf : Option Bytes), e.indirect = false → Accepted s rowLpmDelete mb e [(16, 0, 256)] →
    let b := e.argBytes
    s.lpmItemCheck mb.val false 16 b = none → s.wordsQuiet = true →
    (leAt b 0 1 = 1 → ∃ u : State, Answers (.lpmDelete mb e buf) s rowLpmDelete mb 1 0 u ∧ u.tables.routes = s.tables.routes ∧
      (tget u.tables.results 0 (leAt b 8 4)).getLsbD 63 = false ∧
      (∀ j < 63, (tget u.tables.results 0 (leAt b 8 4)).getLsbD j = (tget s.tables.results 0 (leAt b 8 4)).getLsbD j) ∧
      (∀ j, j ≠ leAt b 8 4 → tget u.tables.results 0 j = tget s.tables.results 0 j)) ∧
    (leAt b 0 1 = 0 → (∃ r ∈ s.tables.routes, r.key = (routeOf b).key) →
      ∃ u : State, Answers (.lpmDelete mb e buf) s rowLpmDelete mb 1 0 u ∧ u.tables.results = s.tables.results ∧
        ∀ r, r ∈ u.tables.routes ↔ r.key ≠ (routeOf b).key ∧ r ∈ s.tables.routes)) ∧
  (∀ (s : State) (mb : Fin 129) (e : Entry) (b : Bytes) (n : Nat), e.indirect = true → b.length = e.bufLen → s.wordsQuiet = true →
    s.fw.pace = none → batchCount b 524286 32 = some n →
    (Accepted s rowLpmAdd mb e [] → BatchAnswers (.lpmAdd mb e (some b)) s rowLpmAdd mb (trapState s rowLpmAdd mb e (some b))
      (fun u _ x => u.lpmAdd mb.val 0 x) (batchItems b n 32)) ∧
    (Accepted s rowLpmDelete mb e [] → BatchAnswers (.lpmDelete mb e (some b)) s rowLpmDelete mb
      (trapState s rowLpmDelete mb e (some b)) (fun u _ x => u.lpmDelete mb.val 0 x) (batchItems b n 32))) ∧
  (∀ (s : State) (mb : Fin 129) (e : Entry), Accepted s rowLearnConfig mb e [(16, 0, 8), (17, 0, 6), (18, 0, 8), (19, 0, 8), (20, 0, 16),
      (22, 0, 16), (24, 0, 32), (28, 0, 32), (32, 0, 64), (40, 0, 8)] → descValid (s.emDesc (e.u8 16)) = true →
    (bitAt (e.u8 17) 0 = true → s.emWidth (e.u8 16) = 0) → 1 ≤ e.u8 19 → e.u8 19 ≤ 21 → e.u16 20 + e.u8 19 ≤ 1536 →
    (e.u16 22 = 0xFFFF ∨ e.u16 22 ≤ 2047 ∧ (mb.val = 0 ∨ s.ownsVector mb.val (e.u16 22) = true)) → e.u64 32 % 4096 = 0 →
    4 ≤ e.u8 40 → e.u8 40 ≤ 16 → (mb.val = 0 ∨ descOwner (s.emDesc (e.u8 16)) = mb.val - 1) →
    ∃ u : State, Answers (.learnConfig mb e) s rowLearnConfig mb 0 0 u ∧ (∀ j, j ≠ e.u8 16 → u.learnCfg j = s.learnCfg j) ∧
      u.learnCfg (e.u8 16) = { s.learnCfg (e.u8 16) with
        flags := BitVec.ofNat 8 (e.u8 17), program := e.u8 18, argLen := e.u8 19, argStart := e.u16 20, vector := e.u16 22,
        tableLimit := e.u32 24, portLimit := e.u32 28, ringBase := e.u64 32, ringLog2 := e.u8 40, seq := 1, lastInt := none,
        intPending := false }) ∧
  (∀ (s : State) (mb : Fin 129) (e : Entry), Accepted s rowAgeingConfig mb e [(16, 0, 8), (17, 0, 8), (18, 0, 16), (24, 0, 64)] →
    (e.u8 16 = 0 → descValid (s.emDesc (e.u8 17)) = true → e.u64 24 = 0 →
      (mb.val = 0 ∨ descOwner (s.emDesc (e.u8 17)) = mb.val - 1) →
      ∃ u : State, Answers (.ageingConfig mb e) s rowAgeingConfig mb 0 0 u ∧ (u.learnCfg (e.u8 17)).interval = e.u16 18 ∧
        (∀ j, j ≠ e.u8 17 → u.learnCfg j = s.learnCfg j) ∧ u.te = s.te) ∧
    (e.u8 16 = 1 → mb.val = 0 → e.u8 17 = 0 → 1 ≤ e.u16 18 → e.u16 18 ≤ 3600 → e.u64 24 % 2097152 = 0 →
      ∃ u : State, Answers (.ageingConfig mb e) s rowAgeingConfig mb 0 0 u ∧ u.tables.learn = s.tables.learn ∧
        u.te = { s.te with scrubPeriod := e.u16 18, shadowBase := e.u64 24, shadowValid := false })) ∧
  (∀ (s : State) (mb : Fin 129) (e : Entry) (x : ParityEvent) (r : List ParityEvent), Accepted s rowParityLogRead mb e [] →
    s.te.parityLog = x :: r → ∃ (res : BitVec 128) (u : State), Answers (.parityLogRead mb e) s rowParityLogRead mb 0 res u ∧
      u.te = { s.te with parityLog := r, parityDropped := false } ∧ field res 16 4 = x.address % 2 ^ 32 ∧
      field res 20 1 = x.memory % 256 ∧ field res 22 2 = r.length % 2 ^ 16 ∧ field res 24 8 = x.time % 2 ^ 64)

/-- The table engine takes the oldest learn request and the oldest counting update, and learns, suppresses, credits or discards as stated (spec/07_tables.md, spec/13_cadence.md). -/
def Obligations.LearningAndStatistics : Prop :=
  (∀ (s : State) (r : LearnRequest) (q : List LearnRequest), s.te.learnQ = r :: q →
    let v := s.setTe { s.te with learnQ := q }
    let k := r.key.toNat
    let w := widthSlots (s.emWidth r.table)
    ((s.tandem.role = .stoker ∨ s.tableChange.isSome = true) → exec .learnRequest s = .next (v.teCount 5)) ∧
    (s.tandem.role ≠ .stoker → s.tableChange = none → descValid (s.emDesc r.table) = true → v.emSearch r.table k = none →
      v.limitReached r.table r.port = false → v.slotShareOk (descOwner (s.emDesc r.table)) w = true →
      ∀ i, v.findPlace r.table k w = some (i, v) → ∃ t x, exec .learnRequest s = .next t ∧ t.te.learnQ = q ∧ t.entryAt i = some x ∧
        x.table = r.table ∧ x.key = r.key ∧ x.learned = true ∧ x.static = false ∧ x.hit = false ∧ x.port = r.port ∧ x.twin = none ∧
        x.action = BitVec.ofNat 112 (actMake (widthActBits (s.emWidth r.table)) (s.learnCfg r.table).program r.value.toNat) ∧
        (∀ j, j ≠ i → t.entryAt j = s.entryAt j)) ∧
    (s.tandem.role ≠ .stoker → s.tableChange = none → descValid (s.emDesc r.table) = true →
      ∀ i x, v.emSearch r.table k = some i → v.entryAt i = some x → x.static = true → x.twin = none →
        exec .learnRequest s = .next (v.teCount 4))) ∧
  (∀ (s : State) (u : StatUpdate) (r : List StatUpdate), s.te.stats = u :: r → s.badWord (.pair u.pair) = none →
    ((u.gen = none ∨ ((s.pair u.pair).holder.isSome = true ∧ u.gen = some (s.pair u.pair).gen)) →
      ∃ t : State, exec .statUpdate s = .next t ∧ t.te.stats = r ∧ (∀ p, p ≠ u.pair → t.pair p = s.pair p) ∧
        t.pair u.pair = { s.pair u.pair with
          packets := (s.pair u.pair).packets + 1, bytes := (s.pair u.pair).bytes + BitVec.ofNat 64 u.bytes }) ∧
    (u.gen.isSome = true → ((s.pair u.pair).holder = none ∨ u.gen ≠ some (s.pair u.pair).gen) →
      ∃ t : State, exec .statUpdate s = .next t ∧ t.te.stats = r ∧ t.tables.pairs = s.tables.pairs ∧
        tget t.te.stale 0 u.slice = tget s.te.stale 0 u.slice + 1)) ∧
  (∀ (s : State) (u : StatUpdate) (r : List StatUpdate) (x : BadWord), s.te.stats = u :: r → u.gen = none →
    s.badWord (.pair u.pair) = some x → 2 < x.bits → ∃ t : State, exec .statUpdate s = .next t ∧ t.te.stats = r ∧
      t.pair u.pair = { s.pair u.pair with packets := 1, bytes := BitVec.ofNat 64 u.bytes }) ∧
  (∀ (s : State), (s.te.learnQ = [] → exec .learnRequest s = .next s) ∧ (s.te.stats = [] → exec .statUpdate s = .next s))

/-- One long routine runs at a time and commits step by step; a micro-trap saves its context; sweeps, scrubs and repairs act as stated (spec/04_boot_microcode.md, spec/07_tables.md). -/
def Obligations.LongRoutines : Prop :=
  (∀ (s : State) (r : LongRoutine) (l : List LongRoutine), s.te.running = none → s.te.queued = r :: l →
    (r.id ≠ 1 → r.id ≠ 16 →
      exec .teLongRoutineStart s = .next (s.setTe { s.te with queued := l, running := some { r with bank := s.te.bank } })) ∧
    (r.id = 16 → ∃ t : State, exec .teLongRoutineStart s = .next t ∧
      t.te = { s.te with queued := l, running := some { r with bank := s.te.bank } } ∧ (t.pipe r.arg).reload = some 0) ∧
    (r.id = 1 → r.arg = 0 → s.tableChange = none → ∃ t : State, exec .teLongRoutineStart s = .next t ∧ t.te = { s.te with
      queued := l, running := some { r with bank := s.te.bank, tables := s.joinedTables, arg := s.quarters } } ∧
      ∀ n ∈ s.joinedTables, (t.learnCfg n).joined = false ∧ (t.learnCfg n).lastSweep = s.now)) ∧
  (∀ (s : State), s.te.running.isSome = true → exec .teLongRoutineStart s = .next s) ∧
  (∀ (s : State) (r : LongRoutine), s.te.running = some r → s.wordsQuiet = true →
    (s.te.learnQ = [] → ∃ t : State, exec .teMicroTrap s = .next t ∧ t.te.running = s.te.running ∧
      tget t.te.counters 0 13 = tget s.te.counters 0 13 + 1 ∧ t.te.trapLoop = Config.freeValue (s.freeIx + 1) ∧
      t.te.trapRoutine = BitVec.ofNat 16 r.id ∧ t.te.trapStep = BitVec.ofNat 32 r.step ∧ t.te.trapBank = r.bank ∧
      t.tables.entries = s.tables.entries) ∧
    ((∀ o, s.openObject r = some o → s.learnMeets o = false) → ∃ v : State, exec .teMicroTrap s = .next v.learnNext ∧
      v.te.learnQ = s.te.learnQ ∧ v.te.running = s.te.running ∧ v.tables.entries = s.tables.entries) ∧
    (∀ o, s.openObject r = some o → s.learnMeets o = true → ∃ t : State, exec .teMicroTrap s = .next t ∧ t.te.deferred = true ∧
      t.te.learnQ = s.te.learnQ ∧ t.te.running = s.te.running ∧ t.te.trapTarget = BitVec.ofNat 64 o ∧
      t.tables.entries = s.tables.entries)) ∧
  (∀ (s : State), s.te.running = none → exec .teMicroTrap s = .next s) ∧
  (∀ (s : State) (r : LongRoutine) (i : Nat) (e f : EmEntry), s.te.running = some r → s.fw.activation = none → s.bad = [] →
    s.te.deferred = false → r.id = 3 → r.target = some i → i ≠ r.dest → s.entryAt i = some e → s.entryAt r.dest = some f →
    ∃ t : State, exec .teLongStep s = .next t ∧ t.entryAt i = none ∧
      t.entryAt r.dest = some { f with hit := f.hit || e.hit, twin := none } ∧
      (∀ j, j ≠ i → j ≠ r.dest → t.entryAt j = s.entryAt j) ∧
      t.te.running = some { r with step := r.step + 1, target := none }) ∧
  (∀ (s : State) (r : LongRoutine) (i : Nat) (e : EmEntry), s.te.running = some r → s.fw.activation = none → s.fw.halted = false →
    s.bad = [] → s.te.deferred = false →
    r.id = 1 → s.tableChange = none → s.kthEntries r.step = [i] → s.entryAt i = some e → e.parityOk = true → e.table ∈ r.tables →
    ((s.entryHit i e = true ∨ e.static = true) → ∃ t : State, exec .teLongStep s = .next t ∧ t.entryAt i = some { e with hit := false } ∧
      ∀ j, j ≠ i → t.entryAt j = s.entryAt j) ∧
    (s.entryHit i e = false → e.static = false → s.tandem.role ≠ .stoker → e.twin = none → ∃ t : State, exec .teLongStep s = .next t ∧
      t.entryAt i = none ∧ ∀ j, j ≠ i → t.entryAt j = s.entryAt j)) ∧
  (∀ (s : State), s.hasRoutine 2 = false → ∃ t : State, exec .scrubPassStart s = .next t ∧
    t.te.queued.map (·.id) = s.te.queued.map (·.id) ++ [2] ∧ t.te.running = s.te.running) ∧
  (∀ (s : State) (n : Nat), n ∈ tkeys s.tables.learn → (s.learnCfg n).interval ≠ 0 → (s.learnCfg n).joined = false →
    (s.learnCfg n).lastSweep + (s.learnCfg n).interval * 1000000000 ≤ s.now → ∃ t : State, exec .ageingSweepStart s = .next t ∧
    (t.learnCfg n).joined = true ∧ (∃ r ∈ t.te.queued, r.id = 1 ∧ r.arg = 0) ∧ t.tables.entries = s.tables.entries) ∧
  (∀ (s : State), s.hasRoutine 3 = false → s.overflowKeys ≠ [] → s.te.lastCompaction + 100000000 ≤ s.now →
    ∃ t : State, exec .overflowCompactionStart s = .next t ∧ t.te.queued.map (·.id) = s.te.queued.map (·.id) ++ [3] ∧
      t.te.lastCompaction = s.now) ∧
  (∀ (s : State), (s.te.shadowBase ≠ 0 → exec .shadowCopyDone s = .next (s.setTe { s.te with shadowValid := true })) ∧
    (s.te.shadowBase = 0 → exec .shadowCopyDone s = .next s)) ∧
  (∀ (s : State) (a m : Nat) (j : Bool) (r : List (Nat × Nat × Bool)) (e : EmEntry), s.te.repairs = (a, m, j) :: r → m ≤ 1 →
    s.entryAt a = some e → ∃ t : State, exec .parityRepair s = .next t ∧ t.te.repairs = r ∧ (∀ i, i ≠ a → t.entryAt i = s.entryAt i) ∧
      (s.te.shadowValid = false → t.entryAt a = none) ∧
      (s.te.shadowValid = true → s.shadowBytes a (s.entrySlots e) = none → t.entryAt a = some { e with parityOk := true }) ∧
      (∀ b, s.te.shadowValid = true → s.shadowBytes a (s.entrySlots e) = some b →
        let n := 128 * s.entrySlots e
        (bitAt (leNat b) (n - 1) = false → t.entryAt a = none) ∧
        (bitAt (leNat b) (n - 1) = true → ∃ x, t.entryAt a = some x ∧ x.parityOk = true ∧ x.hit = e.hit ∧
          x.static = bitAt (leNat b) (n - 3) ∧ x.learned = bitAt (leNat b) (n - 4) ∧ x.table = bitsAt (leNat b) (n - 16) 8 ∧
          x.action = BitVec.ofNat 112 (bitsAt (leNat b) 0 (s.entryActBits e)))))

/-! ### Rules, actions, isolation and recirculation (chapter 08) -/

/-- RULE_INSERT writes exactly the named entry with its generation advanced; RULE_DELETE clears banks and frees it; RULE_READ returns its parts (spec/08_rules_actions.md). -/
def Obligations.RuleEdits : Prop :=
  (∀ (s : State) (mb : Fin 129) (e : Entry) (b : Bytes) (p : Nat), Accepted s rowRuleInsert mb e [] → b.length = e.bufLen →
    batchCount b 74898 224 = some 1 →
    let d := slice b 64 224
    let x := ruleItemOf .insert d
    s.fw.pace = none → s.te.ruleWork = none → leAt d 0 1 = 0 → x.pipes = [p] → x.atIndex = true → s.ruleItemStatic .insert d = none → s.ruleItemUnits mb.val x = none →
    s.ruleItemPlace x p = none → s.ruleItemTaken x = none → s.ruleItemShare x = none →
    ∃ u : State, Answers (.ruleInsert mb e (some b)) s rowRuleInsert mb 1 0 u ∧
      u.rule p (x.at p) = some { x.entry 0 with gen := s.ruleGen p (x.at p) + 1 } ∧
      (∀ q j, (q ≠ p ∨ j ≠ x.at p) → u.rule q j = s.rule q j) ∧
      (x.count = true → (u.pair x.stat).holder = some (.rule (ruleNumber p (x.at p)))) ∧ u.tables.entries = s.tables.entries) ∧
  (∀ (s : State) (mb : Fin 129) (e : Entry) (b : Bytes) (p : Nat) (y : RuleEntry), Accepted s rowRuleDelete mb e [] →
    b.length = e.bufLen → batchCount b 74898 224 = some 1 →
    let d := slice b 64 224
    let x := ruleItemOf .deleteIndex d
    s.fw.pace = none → s.te.ruleWork = none → leAt d 0 1 = 1 → x.pipes = [p] → s.ruleItemStatic .deleteIndex d = none → s.ruleItemUnits mb.val x = none →
    s.rule p (x.at p) = some y → y.banks.toNat &&& x.banks ≠ 0 →
    ∃ u : State, Answers (.ruleDelete mb e (some b)) s rowRuleDelete mb 1 0 u ∧
      (∀ q j, (q ≠ p ∨ j ≠ x.at p) → u.rule q j = s.rule q j) ∧
      (y.banks &&& ~~~ BitVec.ofNat 2 x.banks ≠ 0 →
        u.rule p (x.at p) = some { y with banks := y.banks &&& ~~~ BitVec.ofNat 2 x.banks } ∧ u.tables.pairs = s.tables.pairs) ∧
      (y.banks &&& ~~~ BitVec.ofNat 2 x.banks = 0 → u.rule p (x.at p) = none ∧ u.ruleGen p (x.at p) = s.ruleGen p (x.at p) + 1 ∧
        (y.count = true → (u.pair y.stat).holder = none))) ∧
  (∀ (s : State) (mb : Fin 129) (e : Entry) (y : RuleEntry), Accepted s rowRuleRead mb e [(16, 0, 17), (24, 0, 4)] →
    let p := e.f 16 0 17 / 16384
    let i := e.f 16 0 17 % 16384
    i < 12288 → e.f 24 0 4 ≤ 10 → p < s.pipeCount → s.isFenced 2 p = false → s.isFenced 3 p = false → s.rule p i = some y →
    (mb.val = 0 ∨ profileOwner (s.currentActions.profile y.profile) = mb.val - 1) →
    (s.ruleMoving p i = false → Answers (.ruleRead mb e) s rowRuleRead mb 0 (y.part (e.f 24 0 4)) (begun s rowRuleRead mb e)) ∧
    (s.ruleMoving p i = true → exec (.ruleRead mb e) s = .next ((begun s rowRuleRead mb e).complete mb.val rowRuleRead 0x10 0 0 0))) ∧
  (∀ (s : State) (mb : Fin 129) (e : Entry) (b : Bytes) (n : Nat), b.length = e.bufLen → s.fw.pace = none → s.te.ruleWork = none →
    batchCount b 74898 224 = some n →
    (Accepted s rowRuleInsert mb e [] → BatchAnswers (.ruleInsert mb e (some b)) s rowRuleInsert mb (begun s rowRuleInsert mb e (some b))
      (fun u i x => u.ruleItem mb.val true (e.bufAddr + 64 + 224 * i) x) (batchItems b n 224)) ∧
    (Accepted s rowRuleDelete mb e [] → BatchAnswers (.ruleDelete mb e (some b)) s rowRuleDelete mb (begun s rowRuleDelete mb e (some b))
      (fun u i x => u.ruleItem mb.val false (e.bufAddr + 64 + 224 * i) x) (batchItems b n 224)))

/-- A valid action image and a valid matrix go to the inactive bank or copy, made current for every pipe to switch to; RECIRC_CONFIG sets the pipes it names (spec/08_rules_actions.md). -/
def Obligations.ActionImageAndMatrix : Prop :=
  (∀ (s : State) (mb : Fin 129) (e : Entry) (b : Bytes), Accepted s rowActionProgramLoad mb e [(32, 0, 8)] → e.bufLen = 98368 →
    b.length = e.bufLen → s.ctl.actMb = none → s.flying 3 (!s.ctl.actBank) = 0 → 2 ≤ e.f 32 0 8 → s.livePipes ≠ [] →
    allZero (b.take 64) = true →
    let descs := s.loadedDescs (e.f 32 0 8) b
    let a := s.currentActions.loaded (e.f 32 0 8) b
    imageBad descs a = none → s.descsBusy descs = false → s.profilesBusy a = false →
    ∃ t : State, exec (.actionProgramLoad mb e (some b)) s = .next t ∧ t.ctl.actBank = !s.ctl.actBank ∧ t.ctl.actMb = some mb.val ∧
      t.currentActions = a ∧ (if s.ctl.actBank then t.ctl.actB else t.ctl.actA) = s.currentActions ∧ t.tables.descs = descs ∧
      ∀ p, (t.pipe p).actBank = (s.pipe p).actBank ∧
        (t.pipe p).switches = (s.pipe p).switches ++ (if p ∈ s.livePipes then [Switch.action] else [])) ∧
  (∀ (s : State) (mb : Fin 129) (e : Entry) (b : Bytes), Accepted s rowIsolationMatrixSet mb e [] → e.bufLen = 8256 →
    b.length = e.bufLen → s.livePipes ≠ [] →
    firstFailing 0 ((List.range 129).map (fun i => matrixBad (leAt b (64 * i) 64))) = none →
    ∃ t : State, exec (.isolationMatrixSet mb e (some b)) s = .next t ∧ t.ctl.matCopy = !s.ctl.matCopy ∧ t.ctl.matMb = some mb.val ∧
      (∀ i < 129, tget t.matrix MatrixRow.zero i = matrixRowOf (leAt b (64 * i) 64)) ∧
      (∀ p, (t.pipe p).matrixCopy = (s.pipe p).matrixCopy ∧
        (t.pipe p).switches = (s.pipe p).switches ++ (if p ∈ s.livePipes then [Switch.matrix] else []))) ∧
  (∀ (s : State) (mb : Fin 129) (e : Entry), Accepted s rowRecircConfig mb e [(16, 0, 8), (17, 0, 8), (18, 0, 8), (20, 0, 32)] →
    e.u8 17 ≤ 1 → 1 ≤ e.u8 18 → e.u8 18 ≤ 8 → 16 ≤ e.u32 20 → e.u32 20 ≤ 4096 →
    (∀ p < 8, bitAt (e.u8 16) p = true → p < s.pipeCount ∧ s.isFenced 2 p = false) →
    ∃ u : State, Answers (.recircConfig mb e) s rowRecircConfig mb 0 0 u ∧
      ∀ p < 8, u.pipe p = if bitAt (e.u8 16) p = true then
        { s.pipe p with recirc := { enable := decide (e.u8 17 = 1), share := e.u8 18, limit := e.u32 20 } } else s.pipe p)

/-! ### The packet stores and the crossbar (chapter 09) -/

/-- Threshold, marking, multicast, spill and status commands act on what they name and nothing else (spec/09_stores.md). -/
def Obligations.StoreSettings : Prop :=
  (∀ (s : State) (mb : Fin 129) (e : Entry), Accepted s rowQueueThresholdSet mb e [(16, 0, 8), (17, 0, 8), (18, 0, 8), (20, 0, 32),
      (24, 0, 32), (28, 0, 8), (29, 0, 8), (30, 0, 8)] → (∀ x ∈ thresholdBad e, x.1 = false) →
    let v : VoqCfg := { maxCells := e.u32 24, alpha := e.u8 28, ecn := e.u8 29, rank := e.u8 30 }
    (e.u8 16 = 0 → mb.val = 0 → e.u8 18 < s.portCount → ∃ u : State, Answers (.queueThresholdSet mb e) s rowQueueThresholdSet mb 0 0 u ∧
      tget u.sw.voqs (bootVoq (e.u8 17)) (e.u8 18 * 8 + e.u8 17) = v ∧ u.sw.mcastVoqs = s.sw.mcastVoqs ∧ u.sw.nodes = s.sw.nodes ∧
      ∀ d i, i ≠ e.u8 18 * 8 + e.u8 17 → tget u.sw.voqs d i = tget s.sw.voqs d i) ∧
    (e.u8 16 = 2 → mb.val = 0 → ∃ u : State, Answers (.queueThresholdSet mb e) s rowQueueThresholdSet mb 0 0 u ∧
      tget u.sw.mcastVoqs (bootVoq (e.u8 17)) (e.u8 17) = v ∧ u.sw.voqs = s.sw.voqs) ∧
    (e.u8 16 = 1 → s.ownsNode mb.val (nodeKey 4 (e.u32 20)) = true → (e.u8 29 = 0xFF ∨ s.inShare mb.val 15 (e.u8 29) = true) →
      ∀ x, s.classQueue (e.u32 20) = some x → ∃ u : State, Answers (.queueThresholdSet mb e) s rowQueueThresholdSet mb 0 0 u ∧
        u.classQueue (e.u32 20) = some { x with maxCells := e.u32 24, ecn := e.u8 29 } ∧ u.sw.voqs = s.sw.voqs ∧
        ∀ k, k ≠ nodeKey 4 (e.u32 20) → u.node k = s.node k)) ∧
  (∀ (s : State) (mb : Fin 129) (e : Entry), Accepted s rowEcnConfig mb e [(16, 0, 8), (17, 0, 2), (20, 0, 32), (24, 0, 32), (28, 0, 8)] →
    e.u8 16 ≤ 63 → e.u32 20 < e.u32 24 → e.u8 28 ≠ 0 → s.inShare mb.val 15 (e.u8 16) = true →
    ∃ u : State, Answers (.ecnConfig mb e) s rowEcnConfig mb 0 0 u ∧
      tget u.sw.ecn EcnProfile.reset (e.u8 16) =
        { enabled := !e.bit 17 1, dropNonEct := e.bit 17 0, min := e.u32 20, max := e.u32 24, prob := e.u8 28 } ∧
      ∀ i, i ≠ e.u8 16 → tget u.sw.ecn EcnProfile.reset i = tget s.sw.ecn EcnProfile.reset i) ∧
  (∀ (s : State) (mb : Fin 129) (e : Entry), Accepted s rowMcastGroupSet mb e [(16, 0, 8), (17, 0, 8), (18, 0, 16), (20, 0, 8), (21, 0, 8),
      (22, 0, 8), (24, 0, 32)] → mb.val = 0 → e.u16 18 ≤ 16383 →
    let m := memberOf e
    let g := e.u16 18
    (e.u8 17 = 1 → e.u8 22 ≤ 7 → e.u8 20 < s.portCount →
      (e.u8 16 = 0 → m ∉ s.group g → (s.group g).length < 256 → s.memberCount < 262144 →
        ∃ u : State, Answers (.mcastGroupSet mb e) s rowMcastGroupSet mb 0 0 u ∧ u.group g = s.group g ++ [m] ∧
          ∀ h, h ≠ g → u.group h = s.group h) ∧
      (e.u8 16 = 1 → m ∈ s.group g → ∃ u : State, Answers (.mcastGroupSet mb e) s rowMcastGroupSet mb 0 0 u ∧
        u.group g = (s.group g).filter (· != m) ∧ ∀ h, h ≠ g → u.group h = s.group h)) ∧
    (e.u8 16 = 2 → s.group g ≠ [] → ∃ u : State, Answers (.mcastGroupSet mb e) s rowMcastGroupSet mb 0 0 u ∧ u.group g = [] ∧
      ∀ h, h ≠ g → u.group h = s.group h)) ∧
  (∀ (s : State) (mb : Fin 129) (e : Entry), Accepted s rowSpillConfig mb e [(16, 0, 32), (20, 0, 1), (24, 0, 32), (28, 0, 32)] →
    s.hasFar = true → e.u32 16 ≤ 1048575 → e.u32 24 ≤ 65535 → 16 ≤ e.u32 28 → e.u32 28 < e.u32 24 →
    (e.bit 20 0 = true → mb.val = 0 → e.u32 16 = 0 → ∃ u : State, Answers (.spillConfig mb e) s rowSpillConfig mb 0 0 u ∧
      u.sw.spillOn = e.u32 24 ∧ u.sw.refill = e.u32 28 ∧ u.sw.nodes = s.sw.nodes) ∧
    (e.bit 20 0 = false → s.ownsNode mb.val (nodeKey 4 (e.u32 16)) = true → ∀ x, s.classQueue (e.u32 16) = some x →
      ∃ u : State, Answers (.spillConfig mb e) s rowSpillConfig mb 0 0 u ∧
        u.classQueue (e.u32 16) = some { x with spillOn := e.u32 24, refill := e.u32 28 } ∧ u.sw.spillOn = s.sw.spillOn)) ∧
  (∀ (s : State) (mb : Fin 129) (e : Entry), Accepted s rowStoreStatus mb e [(32, 0, 4)] → e.f 32 0 4 ≤ 9 →
    s.storePresent (e.f 32 0 4) = true → ∃ res : BitVec 128, Answers (.storeStatus mb e) s rowStoreStatus mb 0 res (begun s rowStoreStatus mb e) ∧
      field res 16 4 = (s.storeCounts (e.f 32 0 4)).1 % 2 ^ 32 ∧ field res 20 4 = (s.storeCounts (e.f 32 0 4)).2.1 % 2 ^ 32 ∧
      field res 24 4 = (s.storeCounts (e.f 32 0 4)).2.2.1 % 2 ^ 32 ∧ field res 28 4 = (s.storeCounts (e.f 32 0 4)).2.2.2 % 2 ^ 32)

/-- CHAIN_AUDIT_RUN marks every link word of the stores it names and answers when every walk has ended; an overdue loan is reported (spec/09_stores.md). -/
def Obligations.ChainAudit : Prop :=
  (∀ (s : State) (mb : Fin 129) (e : Entry), Accepted s rowChainAuditRun mb e [(32, 0, 10), (34, 0, 1)] → e.f 32 0 10 ≠ 0 →
    (∀ n < 10, bitAt (e.f 32 0 10) n = true → s.storePresent n = true) → s.gears.change = none →
    ∃ u : State, exec (.chainAuditRun mb e) s = .next u ∧
      (∃ a, u.sw.audit = some a ∧ a.mb = mb.val ∧ a.reclaim = e.bit 34 0 ∧ a.left = a.named ∧
        (∀ n, n ∈ a.named ↔ n < 10 ∧ bitAt (e.f 32 0 10) n = true) ∧ (∀ n, n ∈ a.mismatch ↔ n ∈ a.named ∧ s.countsHold n = false)) ∧
      (∀ n < 9, u.store n = if bitAt (e.f 32 0 10) n = true then (s.store n).markAll else s.store n) ∧
      (u.mbox mb.val).rspTail = (s.mbox mb.val).rspTail) ∧
  (∀ (s : State) (n : Fin 10) (a : Audit), s.sw.audit = some a → n.val ∈ a.left → s.gears.change = none →
    ((∃ m ∈ a.left, m ≠ n.val) → ∃ t : State, exec (.chainAuditWalkDone n) s = .next t ∧
      t.sw.audit = some { a with left := a.left.filter (· != n.val) } ∧ (t.store n.val).leaked = s.leaks n.val ∧
      (t.store n.val).overdue = s.overdueLoans n.val ∧ (t.store n.val).lastCycle = s.cycle ∧
      (t.store n.val).mismatch = a.mismatch.contains n.val) ∧
    ((∀ m ∈ a.left, m = n.val) → a.reclaim = false → ∃ (u : State) (res : BitVec 128), exec (.chainAuditWalkDone n) s =
      .next ((u.complete a.mb rowChainAuditRun 0 0 0 res).gearCheck) ∧ u.sw.audit = none ∧ (u.store n.val).leaked = s.leaks n.val ∧
      field res 20 4 = 0)) ∧
  (∀ (s : State) (n : Fin 10) (l : Nat) (y : Loan), tget (s.store n.val).loans none l = some y →
    ∃ t : State, exec (.loanOverdue n l) s = .next t ∧ tget (t.store n.val).loans none l = some { y with reported := true } ∧
      (∀ j, j ≠ l → tget (t.store n.val).loans none j = tget (s.store n.val).loans none j) ∧
      (∀ m, m ≠ n.val → t.store m = s.store m) ∧ t.sw.frames = s.sw.frames)

/-- A grant delivers one cell of the chosen frame; credit returns and multicast replication act as chapter 09 states (spec/09_stores.md). -/
def Obligations.CrossbarGrants : Prop :=
  (∀ (s : State) (k : Fin 128) (c : Fin 8) (n f : Nat) (x : Frame), s.gears.change = none → (s.port k.val).cfg.subscriber = false →
    (s.port k.val).chosen = some (n, f) → n % 8192 < 1024 → n % 8 = c.val → s.frame f = some x → x.complete = true →
    x.corrupt = false → s.readsQuiet = true → (s.port k.val).staged < (s.port k.val).stagingSize → x.granted < x.cells.length →
    (x.granted + 1 < x.cells.length → ∃ t : State, exec (.xbarGrant (.unicast k c)) s = .next t ∧
      t.frame f = some { x with granted := x.granted + 1 } ∧ tget t.sw.counters 0 0 = tget s.sw.counters 0 0 + 1 ∧
      (t.port k.val).chosen = some (n, f) ∧ t.sw.queues = s.sw.queues) ∧
    (x.granted + 1 = x.cells.length → x.refs ≤ 1 → ∃ t : State, exec (.xbarGrant (.unicast k c)) s = .next t ∧ t.frame f = none ∧
      (∀ g, g ≠ f → t.frame g = s.frame g) ∧ f ∉ t.queueOf x.queue ∧ (t.port k.val).chosen = none ∧
      tget t.sw.counters 0 0 = tget s.sw.counters 0 0 + 1)) ∧
  (∀ (s : State) (n : Nat), (∀ m, (s.link m).received = []) → s.peloton.links.all (fun e => e.2.received.isEmpty) = true →
    (∀ k : Fin 128, exec (.sinkCreditReturn (.port k) n) s = .next (s.setPort k.val { s.port k.val with
      sending := (s.port k.val).sending.map (fun t => { t with freed := min t.cellsIn (t.freed + n) }) })) ∧
    exec (.sinkCreditReturn .subscriber n) s = .next s ∧ exec (.sinkCreditReturn .host n) s = .next s ∧
    (∀ (m : Fin 3) (c : Fin 8), ∃ t : State, exec (.sinkCreditReturn (.fabric m c) n) s = .next t ∧
      tget (t.link m.val).used 0 c.val = tget (s.link m.val).used 0 c.val - n ∧
      (∀ j, j ≠ c.val → tget (t.link m.val).used 0 j = tget (s.link m.val).used 0 j) ∧ ∀ j, j ≠ m.val → t.link j = s.link j)) ∧
  (∀ (s : State) (p c : Fin 8) (f g : Nat) (r : List Nat) (x : Frame), s.gears.change = none → s.queueOf (qMcast p.val c.val) = f :: r →
    s.frame f = some x → x.dest = .group g → x.complete = true → x.replicated = false → s.readsQuiet = true →
    (s.group g = [] → ∃ t : State, exec (.mcastReplicate p c) s = .next t ∧ t.frame f = none ∧
      tget t.sw.counters 0 3 = tget s.sw.counters 0 3 + 1) ∧
    (∀ m, s.group g = [m] → m.kind = 1 → s.memberRefused x m = none → (s.port m.port).stagingSize ≤ (s.port m.port).staged →
      x.cells ≠ [] → ∃ t : State, exec (.mcastReplicate p c) s = .next t ∧
        t.frame f = some { x with replicated := true, targets := [.plain m.port m.cls 0], refs := 1 } ∧
        tget t.sw.counters 0 3 = tget s.sw.counters 0 3 + 1))

/-- Intake admits a frame to its class queue, spill writes free their loans, and a refill reserves near cells and links or loses its frames (spec/09_stores.md). -/
def Obligations.SubscriberStage : Prop :=
  (∀ (s : State) (p : Fin 8) (i : Intake) (k q : Nat) (x : ClassQueue), s.gears.change = none →
    s.peloton.links.all (fun e => e.2.received.isEmpty) = true → s.farFits s = true →
    (s.intakes p.val).find? (fun i => i.done) = some i → i.queues = [(k, q)] → s.classQueue q = some x →
    let n := i.frame.cells.length
    let slc := (s.nodeOwner (nodeKey 4 q)).getD i.frame.slice
    (i.frame.corrupt = false → x.ecn = 0xFF → s.placement x (s.nearHas n n) = .near →
      s.subscriberRefusal k q slc n (if i.frame.slice = slc then n else 0) (s.nearHas n n) = none →
      ∃ t y f, exec (.subscriberAdmission p) s = .next t ∧ t.classQueue q = some y ∧ y.near = x.near ++ [s.sw.nextFrame] ∧
        y.far = x.far ∧ t.frame s.sw.nextFrame = some f ∧ f.cells = i.frame.cells ∧ f.bytes = i.frame.bytes ∧ f.complete = true) ∧
    (i.frame.corrupt = true → ∃ t y, exec (.subscriberAdmission p) s = .next t ∧ t.classQueue q = some y ∧ y.far = x.far ∧
      y.dropped = x.dropped + 1 ∧ ∀ j, (t.classQueue j).map (·.near) = (s.classQueue j).map (·.near))) ∧
  (∀ (s : State) (c : Fin 24) (r : DramRequest) (l : List DramRequest), s.gears.change = none →
    s.peloton.links.all (fun e => e.2.received.isEmpty) = true → (s.channel c.val).writing = r :: l →
    ∃ t : State, exec (.spillWriteDone c) s = .next t ∧ (t.channel c.val).writing = l ∧ (∀ j, j ≠ c.val → t.channel j = s.channel j) ∧
      (r.loan = none → t.sw = s.sw) ∧
      (∀ w, r.loan = some w → (t.loanWritten w = true → t.sw = s.sw) ∧
        (t.loanWritten w = false → tget (t.store 8).loans none w.2 = none))) ∧
  (∀ (s : State) (q : Fin 1048576) (x : ClassQueue) (cells : List Nat) (st : Store), s.classQueue q.val = some x → x.refilling = none →
    x.far ≠ [] → s.nearCells x ≤ x.refill → s.nearHas x.refillCells 0 = true → (s.store 8).loanedAll .spill + x.refillCells ≤ 8192 →
    s.farFits (s.refillReads q.val x) = true → (s.store 8).allocN x.refillCells .loaned 0 = some (cells, st) →
    ∃ t : State, exec (.refillStart q) s = .next t ∧ t.classQueue q.val = some (x.beginRefill st.nextLoan) ∧
      t.far = (s.refillReads q.val x).far ∧
      (∃ l, tget (t.store 8).loans none st.nextLoan = some l ∧ l.cells = cells ∧ l.borrower = .spill ∧ l.owner = q.val)) ∧
  (∀ (s : State) (q : Fin 1048576) (x : ClassQueue) (l : Nat) (ln : Loan) (f : FarFrame), s.gears.change = none →
    s.far.channels.any (fun c => c.2.rt.any (fun r => r.queue == q.val)) = false → s.classQueue q.val = some x → x.refilling = some l →
    tget (s.store 8).loans none l = some ln →
    (x.far.filter (·.refilling) = [f] → f.frame.corrupt = false → ln.cells.length = cellsFor f.frame.bytes.length →
      ∃ t y, exec (.refillReadDone q true) s = .next t ∧ t.classQueue q.val = some y ∧ y.refilling = none ∧
        y.near = x.near ++ [s.sw.nextFrame] ∧ y.far = x.endRefill.far.filter (· != { f with refilling := false }) ∧
        t.frame s.sw.nextFrame = some { f.frame with
          store := 8, cells := ln.cells, gen := ((s.store 8).describe ln.cells).1, refs := 1, complete := true }) ∧
    (∃ t y, exec (.refillReadDone q false) s = .next t ∧ t.classQueue q.val = some y ∧ y.refilling = none ∧ y.near = x.near ∧
      ∀ b, x.blocks.head? = some b → ∀ g ∈ y.far, b ∉ g.blocks))

/-! ### The scheduler (chapter 10) -/

/-- NODE_CONFIG creates, moves, detaches, attaches and deletes exactly its node; SHAPER_SET and WFQ_WEIGHT_SET set its shaper, weight and group (spec/10_scheduling.md). -/
def Obligations.NodeAndShaperCommands : Prop :=
  (∀ (s : State) (mb : Fin 129) (e : Entry), Accepted s rowNodeConfig mb e [(16, 0, 8), (17, 0, 8), (20, 0, 32), (24, 0, 32), (28, 0, 8),
      (29, 0, 8), (30, 0, 16)] → mb.val = 0 → (∀ x ∈ nodeConfigBad e, x.1 = false) → e.u32 20 < levelCount (e.u8 17) →
    let l := e.u8 17
    let i := e.u32 20
    let k := nodeKey l i
    let par := if l = 4 then i / 8 else e.u32 24
    let pk := nodeKey (l - 1) par
    (e.u8 16 = 0 → s.node k = none → (s.node pk).isSome = true → (l = 1 → par < s.portCount) →
      (∃ p, s.rootPort pk = some p ∧ (s.port p).cfg.subscriber = true) →
      (l ≠ 1 → ∀ o m, s.nodeOwner pk = some o → s.share o (l + 5) 0 = some m → s.nodesOf l o < m) →
      ∃ u n, Answers (.nodeConfig mb e) s rowNodeConfig mb 0 0 u ∧ u.node k = some n ∧ n.parent = par ∧ n.attached = true ∧
        n.prio = e.u8 29 ∧ n.weight = e.u16 30 ∧ (l = 1 → n.owner = e.u8 28) ∧ n.queue.near = [] ∧ n.queue.far = []) ∧
    (e.u8 16 = 1 → ∀ x, s.node k = some x → (s.node pk).isSome = true → (l = 1 → par < s.portCount) →
      (∃ p, s.rootPort pk = some p ∧ s.rootPort k = some p ∧ (s.port p).cfg.subscriber = true) →
      (l = 1 ∨ s.nodeOwner pk = s.nodeOwner k) → ∃ u n, Answers (.nodeConfig mb e) s rowNodeConfig mb 0 0 u ∧ u.node k = some n ∧
        n.parent = par ∧ n.weight = x.weight ∧ n.prio = x.prio ∧ n.attached = x.attached ∧ n.queue = x.queue) ∧
    (e.u8 16 = 2 → ∀ x, s.node k = some x → s.active 5 k = false → ∃ u n, Answers (.nodeConfig mb e) s rowNodeConfig mb 0 0 u ∧
      u.node k = some n ∧ n.attached = false ∧ n.parent = x.parent ∧ n.queue = x.queue) ∧
    (e.u8 16 = 3 → ∀ x, s.node k = some x → ∃ u n, Answers (.nodeConfig mb e) s rowNodeConfig mb 0 0 u ∧
      u.node k = some n ∧ n.attached = true ∧ n.parent = x.parent ∧ n.queue = x.queue) ∧
    (e.u8 16 = 4 → (s.node k).isSome = true → s.children k = [] → s.active 5 k = false →
      s.sw.groups.any (fun g => g.2.any (fun m => m.kind == 2 && m.queue == i)) = false →
      ∃ u : State, Answers (.nodeConfig mb e) s rowNodeConfig mb 0 0 u ∧ u.node k = none)) ∧
  (∀ (s : State) (mb : Fin 129) (e : Entry) (x : Node), Accepted s rowShaperSet mb e [(16, 0, 32), (20, 0, 8), (21, 0, 8), (24, 0, 32),
      (28, 0, 32), (32, 0, 32), (36, 0, 32)] → mb.val = 0 → (∀ y ∈ shaperBad e, y.1 = false) →
    (nodeLevel (e.u32 16) = 0 → nodeIndex (e.u32 16) < s.portCount) → s.node (nodeKeyOf (e.u32 16)) = some x →
    ∃ u n, Answers (.shaperSet mb e) s rowShaperSet mb 0 0 u ∧ u.node (nodeKeyOf (e.u32 16)) = some n ∧ n.cir.rate = e.u32 24 ∧
      n.pir.rate = e.u32 32 ∧ (e.u32 24 ≠ 0 → n.cir.size = e.u32 28) ∧ (e.u32 32 ≠ 0 → n.pir.size = e.u32 36) ∧
      (nodeLevel (e.u32 16) = 0 → n.adjust = signed 8 (e.u8 21)) ∧ n.weight = x.weight ∧ n.parent = x.parent ∧ n.queue = x.queue) ∧
  (∀ (s : State) (mb : Fin 129) (e : Entry) (x : Node), Accepted s rowWfqWeightSet mb e [(16, 0, 32), (20, 0, 8), (22, 0, 16)] →
    mb.val = 0 → schedNodeBad (e.u32 16) [1, 2, 3, 4] = false → e.u8 20 ≤ 3 → e.u16 22 ≠ 0 → s.node (nodeKeyOf (e.u32 16)) = some x →
    ∃ u n, Answers (.wfqWeightSet mb e) s rowWfqWeightSet mb 0 0 u ∧ u.node (nodeKeyOf (e.u32 16)) = some n ∧ n.weight = e.u16 22 ∧
      n.prio = e.u8 20 ∧ n.parent = x.parent ∧ n.attached = x.attached ∧ n.queue = x.queue)

/-- POLICER_SET fills the buckets of its policer, CLASS_SCHED_SET sets one class of one port, SCHED_READ returns the parts it names (spec/10_scheduling.md). -/
def Obligations.PolicersAndClasses : Prop :=
  (∀ (s : State) (mb : Fin 129) (e : Entry), Accepted s rowPolicerSet mb e [(16, 0, 32), (20, 0, 8), (21, 0, 8), (24, 0, 32), (28, 0, 32),
      (32, 0, 32), (36, 0, 32)] → (∀ x ∈ policerBad e, x.1 = false) → s.inShare mb.val 13 (e.u32 16) = true →
    ∃ u : State, Answers (.policerSet mb e) s rowPolicerSet mb 0 0 u ∧ (u.policer (e.u32 16)).mode = e.u8 20 ∧
      (u.policer (e.u32 16)).flags = BitVec.ofNat 8 (e.u8 21) ∧
      (u.policer (e.u32 16)).cBucket = Bucket.full (e.u32 24) (e.u32 28) s.now ∧
      (u.policer (e.u32 16)).green = (s.policer (e.u32 16)).green ∧ (u.policer (e.u32 16)).yellow = (s.policer (e.u32 16)).yellow ∧
      (u.policer (e.u32 16)).red = (s.policer (e.u32 16)).red ∧ ∀ n, n ≠ e.u32 16 → u.policer n = s.policer n) ∧
  (∀ (s : State) (mb : Fin 129) (e : Entry), Accepted s rowClassSchedSet mb e [(16, 0, 8), (17, 0, 8), (18, 0, 8), (20, 0, 16), (24, 0, 32),
      (28, 0, 32)] → (∀ x ∈ classSchedBad e, x.1 = false) → e.u8 16 < s.portCount → s.isFenced 1 (e.u8 16 / 8) = false →
    (s.port (e.u8 16)).cfg.width ≠ 0 → ∃ u : State, Answers (.classSchedSet mb e) s rowClassSchedSet mb 0 0 u ∧
      ((u.port (e.u8 16)).cls (e.u8 17)).wfq = decide (e.u8 18 = 0) ∧
      ((u.port (e.u8 16)).cls (e.u8 17)).weight = (if e.u8 18 = 0 then e.u16 20 else 1) ∧
      ((u.port (e.u8 16)).cls (e.u8 17)).bucket.rate = e.u32 24 ∧ (u.port (e.u8 16)).cfg = (s.port (e.u8 16)).cfg ∧
      ∀ k, k ≠ e.u8 16 → u.port k = s.port k) ∧
  (∀ (s : State) (mb : Fin 129) (e : Entry), Accepted s rowSchedRead mb e [(16, 0, 32), (20, 0, 8)] →
    s.wordsQuiet = true → schedNodeBad (e.u32 16) [0, 1, 2, 3, 4, 7] = false → e.u8 20 < partCount (nodeLevel (e.u32 16)) →
    (nodeLevel (e.u32 16) = 7 → s.inShare mb.val 13 (nodeIndex (e.u32 16)) = true →
      Answers (.schedRead mb e) s rowSchedRead mb 0 ((s.policer (nodeIndex (e.u32 16))).read s.now (e.u8 20)) (begun s rowSchedRead mb e)) ∧
    (∀ x, mb.val = 0 → nodeLevel (e.u32 16) = 4 → e.u8 20 = 3 → s.node (nodeKeyOf (e.u32 16)) = some x →
      ∃ res : BitVec 128, Answers (.schedRead mb e) s rowSchedRead mb 0 res (begun s rowSchedRead mb e) ∧
        field res 16 8 = x.queue.dropped.toNat ∧ field res 24 8 = x.queue.sent.toNat) ∧
    (∀ x, mb.val = 0 → nodeLevel (e.u32 16) = 4 → e.u8 20 = 2 → s.node (nodeKeyOf (e.u32 16)) = some x →
      ∃ res : BitVec 128, Answers (.schedRead mb e) s rowSchedRead mb 0 res (begun s rowSchedRead mb e) ∧
        field res 16 4 = s.nearCells x.queue % 2 ^ 32 ∧ field res 20 4 = x.queue.blocks.length % 2 ^ 32 ∧
        field res 24 4 = (x.queue.near.length + x.queue.far.length) % 2 ^ 32) ∧
    (∀ x y, mb.val = 0 → 1 ≤ nodeLevel (e.u32 16) → nodeLevel (e.u32 16) ≤ 4 → e.u8 20 = 1 → s.node (nodeKeyOf (e.u32 16)) = some x →
      (s.refreshRoot (nodeKeyOf (e.u32 16))).node (nodeKeyOf (e.u32 16)) = some y →
      ∃ (res : BitVec 128) (u : State), Answers (.schedRead mb e) s rowSchedRead mb 0 res u ∧ field res 16 4 = y.pir.whole ∧ field res 20 4 = y.cir.whole) ∧
    (∀ x, mb.val = 0 → 1 ≤ nodeLevel (e.u32 16) → nodeLevel (e.u32 16) ≤ 4 → e.u8 20 = 0 → s.node (nodeKeyOf (e.u32 16)) = some x →
      ∃ (res : BitVec 128) (u : State), Answers (.schedRead mb e) s rowSchedRead mb 0 res u ∧ field res 16 4 = x.parent % 2 ^ 32 ∧
        field res 20 1 = x.prio % 256 ∧ field res 22 2 = x.weight % 2 ^ 16))

/-- A plain port chooses the head of its best class; the hierarchy sends its chosen leaf's first frame to staging; a refill brings buckets up to date (spec/10_scheduling.md). -/
def Obligations.Selections : Prop :=
  (∀ (s : State) (k : Fin 128), (s.port k.val).cfg.width ≠ 0 → (s.port k.val).cfg.subscriber = false → (s.port k.val).chosen = none →
    let v := s.refreshClasses k.val
    (∀ c q f, v.chooseClass k.val = some c → v.classHead k.val c = some (q, f) →
      ∃ t : State, exec (.plainClassSelect k) s = .next t ∧ (t.port k.val).chosen = some (q, f) ∧ t.sw.frames = s.sw.frames ∧
        (t.port k.val).cfg = (s.port k.val).cfg) ∧
    (v.chooseClass k.val = none → exec (.plainClassSelect k) s = .next v)) ∧
  (∀ (s : State) (k : Fin 128), ((s.port k.val).cfg.width = 0 ∨ (s.port k.val).chosen.isSome = true) →
    exec (.plainClassSelect k) s = .next s) ∧
  (∀ (s : State) (k : Fin 128) (n : Node) (leaf f : Nat) (x : ClassQueue) (y : Frame), s.gears.change = none → s.wordsQuiet = true →
    (s.port k.val).cfg.width ≠ 0 → (s.port k.val).cfg.subscriber = true → (s.port k.val).staged < (s.port k.val).stagingSize →
    let v := s.refreshPort k.val
    v.node (nodeKey 0 k.val) = some n → n.pir.positive = true → (v.descend 4 (nodeKey 0 k.val)).getLast? = some leaf →
    keyLevel leaf = 4 → v.classQueue (keyIndex leaf) = some x → x.near.head? = some f → v.frame f = some y → y.corrupt = false →
    ∃ t z g, exec (.subscriberSelect k) s = .next t ∧ t.classQueue (keyIndex leaf) = some z ∧ z.near = x.near.tail ∧
      (t.port k.val).staging = (s.port k.val).staging ++ [g] ∧ g.frameId = f ∧ g.bytes = y.bytes ∧ g.complete = true ∧
      g.queue = some (keyIndex leaf) ∧ g.cls = keyIndex leaf % 8 ∧ tget t.sw.schedCnt 0 0 = tget s.sw.schedCnt 0 0 + 1) ∧
  (∀ (s : State) (l : Fin 5) (i : Fin 1048576) (k : Nat) (x : Node), s.node (nodeKey l.val i.val) = some x →
    s.rootPort (nodeKey l.val i.val) = some k → ((s.port k).cfg.subscriber = true ∨ l.val = 0) → ∃ t y, exec (.shaperRefill l i) s = .next t ∧
      t.node (nodeKey l.val i.val) = some y ∧ y.pir = x.pir.refill s.now ∧ y.cir = x.cir.refill s.now ∧ y.queue = x.queue)

/-! ### The far store and its DRAM (chapter 11), the dump of the bell (chapter 14) -/

/-- DRAM_TRAIN, DRAM_RETRY, DRAM_STATUS and DRAM_CAPTURE_SET train, retry, report and reserve (spec/11_far_store_dram.md). -/
def Obligations.DramCommands : Prop :=
  (∀ (s : State) (mb : Fin 129) (e : Entry), Accepted s rowDramTrain mb e [(16, 0, 24), (19, 0, 3), (20, 0, 16), (22, 0, 16),
      (24, 0, 16), (26, 0, 8), (27, 0, 8), (28, 0, 8)] → s.hasFar = true →
    e.u16 20 ≤ 2000 → 500 ≤ e.u16 22 → e.u16 22 ≤ 4000 → (e.u16 24 = 0 ∨ (10 ≤ e.u16 24 ∧ e.u16 24 ≤ 3600)) → 1 ≤ e.u8 26 →
    e.u8 26 ≤ 3 → 1 ≤ e.u8 27 → e.u8 27 ≤ 50 → e.u8 27 < e.u8 28 → e.u8 28 ≤ 100 →
    (e.f 16 0 24 = 0 → e.bit 19 0 = true → e.bit 19 1 = false → ∃ u : State, Answers (.dramTrain mb e) s rowDramTrain mb 0 0 u ∧ 
        u.far.idleNs = e.u16 20 ∧ u.far.panicNs = e.u16 22 ∧ u.far.retryS = e.u16 24 ∧ u.far.lowEn = e.bit 19 2 ∧ u.far.lowEnter = e.u8 27 ∧ u.far.lowExit = e.u8 28 ∧
        u.far.speed = s.far.speed ∧ ∀ c, (u.channel c).state = (s.channel c).state) ∧
    (∀ c : Fin 24, e.f 16 0 24 = 2 ^ c.val → e.bit 19 0 = false → e.bit 19 1 = false → (s.channel c.val).serves = true →
      (s.channel c.val).panic = false → (s.channel c.val).training = none →
      ∃ t : State, exec (.dramTrain mb e) s = .next t ∧ (t.channel c.val).state = .retraining ∧ (t.channel c.val).training = some false ∧
        (t.channel c.val).wr = [] ∧ t.far.trainMb = some mb.val ∧ (t.mbox mb.val).inExec.isSome = true)) ∧
  (∀ (s : State) (mb : Fin 129) (e : Entry), Accepted s rowDramRetry mb e [(16, 0, 5)] → s.hasFar = true → e.f 16 0 5 < 24 →
    s.retryRuns = false →
    ((s.channel (e.f 16 0 5)).state = .fenced → (s.channel (e.f 16 0 5)).cause < 4 →
      ∃ t : State, exec (.dramRetry mb e) s = .next t ∧ (t.channel (e.f 16 0 5)).training = some true ∧
        (t.channel (e.f 16 0 5)).attempts = 0 ∧ t.far.trainMb = some mb.val ∧ (t.mbox mb.val).inExec.isSome = true) ∧
    ((s.channel (e.f 16 0 5)).serves = true → (s.channel (e.f 16 0 5)).training = none →
      Answers (.dramRetry mb e) s rowDramRetry mb 0 1 (begun s rowDramRetry mb e))) ∧
  (∀ (s : State) (mb : Fin 129) (e : Entry), Accepted s rowDramStatus mb e [] → s.hasFar = true →
    ∃ res : BitVec 128, Answers (.dramStatus mb e) s rowDramStatus mb 0 res (begun s rowDramStatus mb e) ∧
      (∀ c < 24, bitAt (field res 16 3) c = decide ((s.channel c).state = .fenced)) ∧
      field res 28 4 = bit s.far.lowTraffic + 2 * s.far.capture.num) ∧
  (∀ (s : State) (mb : Fin 129) (e : Entry), Accepted s rowDramCaptureSet mb e [(16, 0, 8), (17, 0, 8), (18, 0, 8), (19, 0, 1),
      (20, 0, 16), (24, 0, 32)] → s.hasFar = true → e.u8 17 ≤ 7 →
    (e.u8 16 = 0 → e.u8 18 ≤ 15 → e.u16 20 % 16 = 0 → 16 ≤ e.u16 20 → e.u16 20 ≤ 4096 → s.claimBusy 5 0 0x0A04 (e.u8 17) = false →
      bitAt (tget s.currentActions.sessions 0 (e.u8 18)).toNat 32 = true → 512 * e.u16 20 ≤ s.farTotal →
      ∃ u : State, Answers (.dramCaptureSet mb e) s rowDramCaptureSet mb 0 0 u ∧
        u.claim 5 0 = some { opcode := 0x0A04, object := e.u8 17 } ∧ u.far.use = .capture (e.u8 17) (e.u8 18) (e.bit 19 0) ∧
        u.far.capture = .reserving ∧ u.far.wanted = 256 * e.u16 20) ∧
    (e.u8 16 = 1 → s.captureOf (e.u8 17) = true → ∃ u : State, Answers (.dramCaptureSet mb e) s rowDramCaptureSet mb 0 0 u ∧
      u.claim 5 0 = none ∧ u.far.use = .off ∧ u.far.capture = .off ∧ u.far.region = [] ∧ u.far.captured = []) ∧
    (e.u8 16 = 2 → s.captureOf (e.u8 17) = true → s.far.capture = .capturing →
      ∃ u : State, Answers (.dramCaptureSet mb e) s rowDramCaptureSet mb 0 0 u ∧ u.far.capture = .replaying ∧ u.far.replayQueue = e.u32 24 ∧
        u.far.captured = s.far.captured))

/-- Requests, panic, refresh, training and self-refresh of a DRAM channel do what chapter 11 says to that channel (spec/11_far_store_dram.md). -/
def Obligations.DramChannelEvents : Prop :=
  (∀ (s : State) (c : Fin 24) (r : DramRequest) (l : List DramRequest), (s.channel c.val).state = .inService →
    s.gears.change = none →
    ((s.channel c.val).rt = r :: l →
      ((s.channel c.val).panic = false ∨ (s.channel c.val).wr.length ≤ 192 ∨ (s.channel c.val).panicRun < 7) →
      ∃ t : State, exec (.dramRequest c .rt .clean) s = .next t ∧ (t.channel c.val).rt = l ∧
      tget (t.channel c.val).counters 0 0 = tget (s.channel c.val).counters 0 0 + 1 ∧ (t.channel c.val).wr = (s.channel c.val).wr) ∧
    ((s.channel c.val).panic = false → (s.channel c.val).rt = [] → (s.channel c.val).wr = r :: l →
      (0 < (s.channel c.val).batch ∨ s.batchDue c.val = true) → ∃ t : State, exec (.dramRequest c .wr .clean) s = .next t ∧ (t.channel c.val).wr = l ∧
        (t.channel c.val).writing = (s.channel c.val).writing ++ [r] ∧
        tget (t.channel c.val).counters 0 1 = tget (s.channel c.val).counters 0 1 + 1) ∧
    ((s.channel c.val).panic = false → (s.channel c.val).rt = [] → (s.channel c.val).wr = [] → (s.channel c.val).owed = [] →
      s.bgWork = true → s.far.capture ≠ .replaying → ∃ t : State, exec (.dramRequest c .bg .clean) s = .next t ∧
        tget (t.channel c.val).counters 0 2 = tget (s.channel c.val).counters 0 2 + 1 ∧ (t.channel c.val).bgGap = 0) ∧
    (∀ b n d, (s.channel c.val).panic = false → (s.channel c.val).owed = (b, n) :: d →
      ∃ t : State, exec (.dramRequest c .mt .clean) s = .next t ∧ tget (t.channel c.val).owed 0 b = n - 1 ∧
        tget (t.channel c.val).openRows none b = none ∧ (t.channel c.val).rt = (s.channel c.val).rt)) ∧
  (∀ (s : State) (c : Fin 24), (s.channel c.val).state = .inService → (s.channel c.val).panic = false →
    (s.channel c.val).rt ≠ [] → ∃ t : State, exec (.dramPanicRaise c) s = .next t ∧ (t.channel c.val).panic = true ∧
      tget (t.channel c.val).counters 0 6 = tget (s.channel c.val).counters 0 6 + 1 ∧ ∀ k, k ≠ c.val → t.channel k = s.channel k) ∧
  (∀ (s : State) (c : Fin 24), ∃ t : State, exec (.dramPanicClear c) s = .next t ∧ (t.channel c.val).panic = false ∧
    (t.channel c.val).rt = (s.channel c.val).rt ∧ ∀ k, k ≠ c.val → t.channel k = s.channel k) ∧
  (∀ (s : State) (c : Fin 24) (b : Fin 16) (m : BitVec 3), (s.channel c.val).state = .inService →
    let y := (s.channel c.val).readMr4 s.cycles m
    (y.mr4Moved = false → ∃ t : State, exec (.dramRefreshDue c b m) s = .next t ∧ (t.channel c.val).mr4 = y.mr4 ∧
      (t.channel c.val).trainedMr4 = y.trainedMr4 ∧ ((s.channel c.val).mr4Cycle ≠ some s.cycles → (t.channel c.val).mr4 = m) ∧
      (if (s.channel c.val).panic = true ∧ tget (s.channel c.val).owed 0 b.val < 8 then
        tget (t.channel c.val).owed 0 b.val = tget (s.channel c.val).owed 0 b.val + 1 ∧
        tget (t.channel c.val).counters 0 5 = tget (s.channel c.val).counters 0 5 + 1
       else tget (t.channel c.val).openRows none b.val = none ∧ (t.channel c.val).owed = (s.channel c.val).owed)) ∧
    (y.mr4Moved = true → (s.channel c.val).panic = false → (s.channel c.val).training = none →
      ∃ t : State, exec (.dramRefreshDue c b m) s = .next t ∧ (t.channel c.val).state = .retraining ∧ (t.channel c.val).training = some false)) ∧
  (∀ (s : State) (c : Fin 24), (s.channel c.val).state = .inService → (s.channel c.val).panic = false → (s.channel c.val).rt = [] →
    (s.batchDue c.val = true ∨ 0 < (s.channel c.val).batch) → ∃ t : State, exec (.dramWriteBatch c) s = .next t ∧ (t.channel c.val).wr = [] ∧
      (t.channel c.val).writing = (s.channel c.val).writing ++ (s.channel c.val).wr) ∧
  (∀ (s : State) (c : Fin 24), (s.channel c.val).serves = true → ∃ t : State, exec (.retrainStart c) s = .next t ∧
    (t.channel c.val).state = .retraining ∧ (t.channel c.val).training = some false ∧ (t.channel c.val).attempts = 0 ∧
    (t.channel c.val).wr = []) ∧
  (∀ (s : State) (c : Fin 24) (r : TrainResult), (s.channel c.val).state = .retraining → (s.channel c.val).training = some false →
    s.gears.change = none →
    (r.passed = true → ∃ t : State, exec (.dramTrainingDone c r) s = .next t ∧ (t.channel c.val).state = .inService ∧
      (t.channel c.val).training = none ∧ (t.channel c.val).lastTrain = s.cycle) ∧
    (r.passed = false → (s.channel c.val).attempts = 2 → ∃ t : State, exec (.dramTrainingDone c r) s = .next t ∧
      (t.channel c.val).state = .fenced ∧ (t.channel c.val).cause = 3 ∧ (t.channel c.val).total = 0 ∧ (t.channel c.val).rt = [] ∧
      t.isFenced 6 c.val = true)) ∧
  (∀ (s : State) (c : Fin 24), (s.channel c.val).state = .fenced → (s.channel c.val).cause < 4 → s.far.retryS ≠ 0 →
    s.retryRuns = false → ∃ t : State, exec (.dramRetryTimer c) s = .next t ∧ (t.channel c.val).training = some true ∧
      (t.channel c.val).attempts = 0 ∧ (t.channel c.val).state = .fenced) ∧
  (∀ s : State, s.hasFar = true → s.far.lowEn = true → s.farUsed * 100 < s.far.lowEnter * s.farTotal →
    exec .lowTrafficEntry s = .next { s with far := { s.far with lowTraffic := true } }) ∧
  (∀ (s : State) (c : Fin 24), s.far.lowTraffic = true → (s.channel c.val).state = .inService → (s.channel c.val).rt = [] →
    (s.channel c.val).wr = [] → (s.channel c.val).writing = [] →
    (∀ k ∈ tkeys s.far.blocks, blockChannel k = c.val → inSegment0 (s.channel c.val).density (k % 1048576) = true) →
    ∃ t : State, exec (.selfRefreshEntry c) s = .next t ∧ (t.channel c.val).state = .selfRefresh ∧
      tget (t.channel c.val).counters 0 11 = tget (s.channel c.val).counters 0 11 + 1) ∧
  (∀ (s : State) (c : Fin 24), (s.channel c.val).state = .selfRefresh →
    exec (.selfRefreshWake c) s = .next (s.setChannel c.val { s.channel c.val with
      state := .inService, pasr := 0 }))

/-- The region being complete starts the capture or arms the dump; a finished replay or dump and a re-arm change the state alone (spec/11_far_store_dram.md, spec/14_faults.md). -/
def Obligations.RegionAndDumpEvents : Prop :=
  (∀ s : State, s.far.capture = .reserving → s.regionComplete = true →
    exec .captureRegionReserved s = .next { s with far := { s.far with capture := .capturing } }) ∧
  (∀ s : State, s.far.capture = .replaying → s.far.replayLeft = [] → s.replayWaiting = [] →
    exec .captureReplayDone s = .next { s with far := { s.far with capture := .capturing } }) ∧
  (∀ s : State, s.bell.dumpOn = true → s.bell.dumpState = .off → s.far.use = .dump → s.regionComplete = true →
    exec .dumpReserved s = .next { s with bell := { s.bell with dumpState := .armed } }) ∧
  (∀ s : State, s.bell.dumpState = .writing → exec .dumpComplete s = .next { s with bell := { s.bell with dumpState := .done } }) ∧
  (∀ s : State, s.bell.dumpState = .done →
    exec .dumpRearm s = .next { s with bell := { s.bell with dumpState := .armed, dump := none } })

/-! ### Slices, rings and the host port (chapter 12) -/

/-- SLICE_CREATE, RESIZE, DESTROY, RESET and STATUS change exactly the named slice; a drained generation ends a reset or a destroy (spec/12_slices.md). -/
def Obligations.SliceCommands : Prop :=
  (∀ (s : State) (mb : Fin 129) (e : Entry), Accepted s rowSliceCreate mb e [(16, 0, 8), (17, 0, 1), (20, 0, 20)] → e.u8 16 ≤ 127 →
    (s.slice (e.u8 16)).state = .none →
    let n := e.u8 16
    let x := { Slice.reset with
      state := .active, gen := nextGen (s.slice n).gen, pasid := BitVec.ofNat 20 (e.f 20 0 20), pasidEn := e.bit 17 0,
      released := (s.slice n).released }
    (tget s.matrix MatrixRow.zero n = MatrixRow.zero → ∃ (res : BitVec 128) (u : State), Answers (.sliceCreate mb e) s rowSliceCreate mb 0 res u ∧
      field res 16 2 = x.gen.toNat ∧ u.slice n = x ∧ ∀ m, m ≠ n → u.slice m = s.slice m) ∧
    (tget s.matrix MatrixRow.zero n ≠ MatrixRow.zero → s.livePipes ≠ [] → ∃ t : State, exec (.sliceCreate mb e) s = .next t ∧
      t.slice n = x ∧ tget t.matrix MatrixRow.zero n = MatrixRow.zero ∧ t.ctl.matMb = some mb.val)) ∧
  (∀ (s : State) (mb : Fin 129) (e : Entry), Accepted s rowSliceResize mb e [(16, 0, 8), (17, 0, 8), (18, 0, 8), (20, 0, 32),
      (24, 0, 32), (32, 0, 128)] → (∀ x ∈ resizeBad e, x.1 = false) → (perPipe (e.u8 17) = true → e.u8 18 = 0xFF ∨ e.u8 18 < s.pipeCount) →
    e.f 32 0 128 < 2 ^ s.portCount → (s.slice (e.u8 16)).state ≠ .none → s.poolBroken e = false →
    (begun s rowSliceResize mb e).leftOut e = none → ∃ u : State, Answers (.sliceResize mb e) s rowSliceResize mb 0 0 u ∧
      u.slice (e.u8 16) = s.resized e ∧ ∀ m, m ≠ e.u8 16 → u.slice m = s.slice m) ∧
  (∀ (s : State) (mb : Fin 129) (e : Entry), Accepted s rowSliceDestroy mb e [(16, 0, 8)] → sliceTimeBad e = false → e.u8 16 ≤ 127 →
    (s.slice (e.u8 16)).state = .active → s.sliceHolds (e.u8 16) = none →
    ∃ t : State, exec (.sliceDestroy mb e) s = .next t ∧ (t.slice (e.u8 16)).state = .closing ∧ (t.slice (e.u8 16)).ports = 0 ∧
      (t.slice (e.u8 16)).gen = nextGen (s.slice (e.u8 16)).gen ∧ tget t.matrix MatrixRow.zero (e.u8 16) = MatrixRow.zero ∧
      ∀ m ∈ t.host.maps, m.mbox ≠ e.u8 16 + 1) ∧
  (∀ (s : State) (mb : Fin 129) (e : Entry), Accepted s rowSliceReset mb e [(16, 0, 8)] → sliceTimeBad e = false → e.u8 16 ≤ 127 →
    (mb.val = 0 ∨ e.u8 16 = mb.val - 1) → (s.slice (e.u8 16)).state = .active →
    ∃ t : State, exec (.sliceReset mb e) s = .next t ∧ (t.slice (e.u8 16)).state = .resetting ∧
      (t.slice (e.u8 16)).gen = nextGen (s.slice (e.u8 16)).gen ∧ (t.slice (e.u8 16)).ports = (s.slice (e.u8 16)).ports ∧
      (t.slice (e.u8 16)).counts = (s.slice (e.u8 16)).counts ∧ (t.slice (e.u8 16)).ranges = (s.slice (e.u8 16)).ranges) ∧
  (∀ (s : State) (n : Fin 128) (w : Nat × BitVec 64), (s.slice n.val).waiting = some w → s.oldReads n.val = false →
    ((s.slice n.val).state = .resetting → ∃ t : State, exec (.generationDrained n) s = .next t ∧
      t.slice n.val = { s.slice n.val with state := .active, waiting := none }) ∧
    ((s.slice n.val).state = .closing → (s.mbox (n.val + 1)).inExec = none → s.switching (· == Switch.matrix) = false →
      ∃ t : State, exec (.generationDrained n) s = .next t ∧
        t.slice n.val = { Slice.reset with gen := (s.slice n.val).gen, released := (s.slice n.val).released })) ∧
  (∀ (s : State) (mb : Fin 129) (e : Entry), Accepted s rowSliceStatus mb e [(16, 0, 8), (17, 0, 8), (18, 0, 16)] →
    (mb.val = 0 ∨ e.u8 16 = mb.val - 1) →
    (e.u8 17 = 0 → e.u16 18 = 0 → e.u8 16 ≤ 127 → (s.slice (e.u8 16)).state ≠ .none →
      ∃ res : BitVec 128, Answers (.sliceStatus mb e) s rowSliceStatus mb 0 res (begun s rowSliceStatus mb e) ∧
        field res 16 2 = (s.slice (e.u8 16)).gen.toNat ∧ field res 18 1 = (s.slice (e.u8 16)).state.num ∧
        field res 24 8 = (s.slice (e.u8 16)).genDiscards.toNat) ∧
    (∀ g, e.u8 17 = 4 → e.u8 16 ≤ 128 → (e.u8 16 = 128 ∨ (s.slice (e.u8 16)).state ≠ .none) →
      s.globalRing (e.u8 16) (e.u16 18) = some g →
      ∃ res : BitVec 128, Answers (.sliceStatus mb e) s rowSliceStatus mb 0 res (begun s rowSliceStatus mb e) ∧
        field res 16 8 = (s.ring g).rx.frames.toNat ∧ field res 24 8 = (s.ring g).rx.bytes.toNat))

/-- RING_PAIR_SET starts and stops the named rings, VECTOR_MAP_SET replaces one mapping, doorbells move TAIL or fail the ring, a passed gap sends (spec/12_slices.md). -/
def Obligations.RingsAndVectors : Prop :=
  (∀ (s : State) (mb : Fin 129) (e : Entry) (g : Nat), Accepted s rowRingPairSet mb e [(16, 0, 16), (18, 0, 8), (19, 0, 2), (20, 0, 8),
      (22, 0, 16), (24, 0, 64), (32, 0, 64), (40, 0, 32), (44, 0, 32), (48, 0, 32), (52, 0, 32)] →
    (∀ x ∈ ringPairBad e, x.1 = false) → s.mboxRing mb.val (e.u16 16) = some g →
    (e.u8 18 = 0 → (s.ring g).named e (· != .disabled) = false → ∃ u : State, Answers (.ringPairSet mb e) s rowRingPairSet mb 0 0 u ∧
      u.ring g = (s.ring g).enable e s.now ∧ ∀ k, k ≠ g → u.ring k = s.ring k) ∧
    (e.u8 18 = 1 → (s.ring g).named e (· != .disabled) = false → (s.ring g).rx.writing = none →
      Answers (.ringPairSet mb e) s rowRingPairSet mb 0 0 (begun s rowRingPairSet mb e)) ∧
    (e.u8 18 = 1 → (s.ring g).named e (· != .disabled) = true → ∃ t : State, exec (.ringPairSet mb e) s = .next t ∧
      (e.bit 19 0 = true → (t.ring g).tx.state = .stopping ∨ (t.ring g).tx.state = .disabled) ∧
      (e.bit 19 1 = true → (t.ring g).rx.writing = none ∧ ((t.ring g).rx.state = .stopping ∨ (t.ring g).rx.state = .disabled) ∧
        ∀ w x, (s.ring g).rx.writing = some w → s.frame w.frameId = some x →
          (t.ring g).rx.frames = (s.ring g).rx.frames + 1 ∧ (t.ring g).rx.truncated = (s.ring g).rx.truncated + 1) ∧
      ∀ k, k ≠ g → t.ring k = s.ring k)) ∧
  (∀ (s : State) (mb : Fin 129) (e : Entry), Accepted s rowVectorMapSet mb e [(16, 0, 8), (18, 0, 16), (20, 0, 16), (22, 0, 16)] →
    1 ≤ e.u8 16 → e.u8 16 ≤ 12 → (mb.val = 0 → objectBad mb.val (e.u8 16) (e.u16 18) = false) →
    (e.u16 20 ≠ 0xFFFF → s.ownsVector mb.val (e.u16 20) = true) → e.u16 22 ≤ 1000 →
    (e.u8 16 = 4 ∨ e.u8 16 = 9 → e.u16 18 < s.portCount) → (e.u8 16 = 8 → s.blockPresent (e.u16 18) = true) →
    s.mayMap mb.val (e.u8 16) (e.u16 18) = true →
    let o := if e.u8 16 ≤ 3 then (s.mboxRing mb.val (e.u16 18)).getD 0 else e.u16 18
    ∃ u : State, Answers (.vectorMapSet mb e) s rowVectorMapSet mb 0 0 u ∧
      u.host.maps = s.host.maps.filter (fun m => !(m.mbox == mb.val && m.kind == e.u8 16 && m.object == o)) ++
        (if e.u16 20 = 0xFFFF then []
         else [{ mbox := mb.val, kind := e.u8 16, object := o, vector := e.u16 20, minGap := e.u16 22 }]) ∧
      u.rings = s.rings ∧ u.slices = s.slices) ∧
  (∀ (s : State) (g : Fin 4096) (tail : BitVec 16),
    ((s.ring g.val).tx.state = .running → (tail - (s.ring g.val).tx.done).toNat ≤ 2 ^ (s.ring g.val).tx.log2 →
      exec (.ringTxDoorbell g tail) s = .next (s.modTx g.val (fun r => { r with tail := tail }))) ∧
    ((s.ring g.val).tx.state = .running → 2 ^ (s.ring g.val).tx.log2 < (tail - (s.ring g.val).tx.done).toNat →
      ∃ t : State, exec (.ringTxDoorbell g tail) s = .next t ∧ (t.ring g.val).tx.state = .error ∧ (t.ring g.val).tx.cause = .doorbellRange ∧
        (t.ring g.val).rx = (s.ring g.val).rx) ∧
    ((s.ring g.val).tx.state ≠ .running → exec (.ringTxDoorbell g tail) s = .next s) ∧
    ((s.ring g.val).rx.state = .running → (tail - (s.ring g.val).rx.head).toNat ≤ 2 ^ (s.ring g.val).rx.log2 →
      ∃ t : State, exec (.ringRxDoorbell g tail) s = .next t ∧ (t.ring g.val).rx.tail = tail ∧ (t.ring g.val).rx.state = .running ∧
        (t.ring g.val).rx.head = (s.ring g.val).rx.head ∧ (t.ring g.val).tx = (s.ring g.val).tx) ∧
    ((s.ring g.val).rx.state = .running → 2 ^ (s.ring g.val).rx.log2 < (tail - (s.ring g.val).rx.head).toNat →
      ∃ t : State, exec (.ringRxDoorbell g tail) s = .next t ∧ (t.ring g.val).rx.state = .error ∧ (t.ring g.val).rx.cause = .doorbellRange) ∧
    ((s.ring g.val).rx.state ≠ .running → exec (.ringRxDoorbell g tail) s = .next s)) ∧
  (∀ (s : State) (g : Fin 4096) (b : Bool),
    ((s.ring g.val).rx.state = .stopping → (s.ring g.val).rx.fetching = none → ∃ t : State, exec (.ringStopped g b) s = .next t ∧
      (t.ring g.val).rx.state = .disabled ∧ (t.ring g.val).rx.frames = (s.ring g.val).rx.frames ∧
      (t.ring g.val).rx.bytes = (s.ring g.val).rx.bytes) ∧
    ((s.ring g.val).tx.state = .stopping → (s.ring g.val).tx.work = .idle → ∃ t : State, exec (.ringStopped g b) s = .next t ∧
      (t.ring g.val).tx.state = .disabled ∧ (t.ring g.val).tx.frames = (s.ring g.val).tx.frames ∧
      (t.ring g.val).tx.errors = (s.ring g.val).tx.errors)) ∧
  (∀ (s : State) (v : Fin 2048),
    ((tget s.host.vectors Vector.reset v.val).merged = none → exec (.msixGapExpiry v) s = .next s.fencesCheck) ∧
    ((tget s.host.vectors Vector.reset v.val).merged = some none →
      exec (.msixGapExpiry v) s = .next (s.vectorDeliver v.val).fencesCheck) ∧
    (∀ n g, (tget s.host.vectors Vector.reset v.val).merged = some (some (n, g)) →
      (g = (s.slice n).gen → exec (.msixGapExpiry v) s = .next (s.vectorDeliver v.val).fencesCheck) ∧
      (g ≠ (s.slice n).gen → n < 128 → ∃ u : State, exec (.msixGapExpiry v) s = .next u.fencesCheck ∧
        (tget u.host.vectors Vector.reset v.val).merged = none ∧ (u.slice n).genDiscards = (s.slice n).genDiscards + 1)))

/-- A frame goes from the host port into a ring's buffers, and from a transmit ring's descriptors and buffers into a queue, with every count (spec/12_slices.md). -/
def Obligations.HostFrames : Prop :=
  (∀ (s : State) (f g : Nat) (l : List Nat) (x : Frame), s.sw.hostQueue = f :: l → s.frame f = some x → s.far.replayLeft = [] →
    s.gears.change = none → s.readsQuiet = true → s.rxWriter f = none → x.was = none → s.globalRing x.slice x.destQueue = some g →
    (s.ring g).rx.state = .running →
    let k := max 1 (ceilDiv x.bytes.length ((s.ring g).rx.bufUnits * 64))
    (((s.ring g).rx.bucket.refill s.now).positive = true → (s.ring g).rx.bufUnits ≠ 0 → (s.ring g).rx.tail ≠ (s.ring g).rx.head →
      k ≤ (s.ring g).rx.posted.length → k ≤ 512 →
      ∃ t : State, exec .hostRxFrame s = .next t ∧ (t.ring g).rx.head = (s.ring g).rx.head + BitVec.ofNat 16 k ∧
        (t.ring g).rx.posted = (s.ring g).rx.posted.drop k ∧ (t.ring g).rx.frames = (s.ring g).rx.frames + 1 ∧
        (t.ring g).rx.bytes = (s.ring g).rx.bytes + BitVec.ofNat 64 x.bytes.length ∧ (t.ring g).rx.writing = none ∧
        (t.ring g).rx.truncated = (s.ring g).rx.truncated ∧ f ∉ t.sw.hostQueue) ∧
    (((s.ring g).rx.bucket.refill s.now).positive = true → (s.ring g).rx.tail = (s.ring g).rx.head →
      ∃ t : State, exec .hostRxFrame s = .next t ∧ (t.ring g).rx.noBuffer = (s.ring g).rx.noBuffer + 1 ∧
        (t.ring g).rx.frames = (s.ring g).rx.frames ∧ f ∉ t.sw.hostQueue) ∧
    (((s.ring g).rx.bucket.refill s.now).positive = false →
      ∃ t : State, exec .hostRxFrame s = .next t ∧ (t.ring g).rx.rateDrops = (s.ring g).rx.rateDrops + 1 ∧
        (t.ring g).rx.frames = (s.ring g).rx.frames ∧ f ∉ t.sw.hostQueue)) ∧
  (∀ (s : State) (f : Nat) (l : List Nat) (x : Frame), s.sw.hostQueue = f :: l → s.frame f = some x → s.far.replayLeft = [] →
    s.gears.change = none → s.readsQuiet = true → s.rxWriter f = none → x.was = none → x.slice < 128 →
    (∀ g, s.globalRing x.slice x.destQueue = some g → (s.ring g).rx.state ≠ .running) →
    ∃ t : State, exec .hostRxFrame s = .next t ∧ (t.slice x.slice).rxNoRing = (s.slice x.slice).rxNoRing + 1 ∧ f ∉ t.sw.hostQueue) ∧
  (∀ (s : State) (g : Fin 4096) (n : Nat) (gen : BitVec 16) (l : List (BitVec 256)), (s.ring g.val).rx.state = .running →
    (s.ring g.val).rx.fetching = some (n, gen) → (s.ring g.val).rx.writing = none →
    (gen = s.ringGen g.val → ∃ t : State, exec (.rxDescriptorFetchDone g l) s = .next t ∧
      (t.ring g.val).rx.posted = (s.ring g.val).rx.posted ++ (l.take n).map rxDescOf) ∧
    (∀ k, gen ≠ s.ringGen g.val → s.ringSlice g.val = some k → k < 128 → ∃ t : State, exec (.rxDescriptorFetchDone g l) s = .next t ∧
      (t.ring g.val).rx.posted = (s.ring g.val).rx.posted ∧ (t.slice k).genDiscards = (s.slice k).genDiscards + 1)) ∧
  (∀ (s : State) (g : Fin 4096),
    (s.txTurnOf = some g.val → ∃ t : State, exec (.txFetch g) s = .next t ∧ (t.ring g.val).tx.work = .fetching (s.ringGen g.val) ∧
      (t.ring g.val).tx.head = (s.ring g.val).tx.head ∧ (t.ring g.val).rx = (s.ring g.val).rx ∧ t.host.txTurn = g.val + 1) ∧
    (s.txTurnOf ≠ some g.val → exec (.txFetch g) s = .next s)) ∧
  (∀ (s : State) (g : Fin 4096) (ws : List (BitVec 256)) (start : Bytes) (l : List TxDesc), (s.ring g.val).tx.state = .running →
    (s.ring g.val).tx.work = .fetching (s.ringGen g.val) → s.gears.change = none →
    txFrameDescs ((ws.take ((s.ring g.val).tx.tail - (s.ring g.val).tx.head).toNat).map txDescOf) = some l →
    let slc := (s.ringSlice g.val).getD 128
    let r := s.txStatus slc l start
    let p := pipeOf r.2
    s.rowFault p slc 1 = (false, s) →
    (∀ a, r.1 = 0 → (s.store p).loanedAll .host + cellsFor (max 60 (txLength l)) ≤ 2048 →
      cellsFor (max 60 (txLength l)) ≤ s.admissionCells p →
      (s.store p).allocN (cellsFor (max 60 (txLength l))) .loaned (s.store p).nextLoan = some a →
      ∃ t id, exec (.txDescriptorsReceived g ws start) s = .next t ∧ (t.ring g.val).tx.work = .reading (s.ringGen g.val) l p id ∧
        (t.ring g.val).tx.head = (s.ring g.val).tx.head + BitVec.ofNat 16 l.length ∧ (t.ring g.val).tx.done = (s.ring g.val).tx.done) ∧
    (r.1 ≠ 0 → ∃ t : State, exec (.txDescriptorsReceived g ws start) s = .next t ∧ (t.ring g.val).tx.work = .idle ∧
      (t.ring g.val).tx.head = (s.ring g.val).tx.head + BitVec.ofNat 16 l.length ∧
      (t.ring g.val).tx.done = (s.ring g.val).tx.done + BitVec.ofNat 16 l.length ∧
      (t.ring g.val).tx.errors = (s.ring g.val).tx.errors + 1 ∧ (t.ring g.val).tx.frames = (s.ring g.val).tx.frames)) ∧
  (∀ (s : State) (g : Fin 4096) (data : Bytes) (d : TxDesc) (l : List TxDesc) (held loan : Nat), (s.ring g.val).tx.state = .running →
    (s.ring g.val).tx.work = .reading (s.ringGen g.val) (d :: l) held loan → s.gears.change = none →
    s.readsQuiet = true →
    let port := s.txTarget d
    let x := s.txFrame g.val ((s.ringSlice g.val).getD 128) d port (data.take (txLength (d :: l)))
    ((d.destKind = 1 ∧ ((s.returnLoan held loan).hostAdmit (pipeOf port) x).1 = none) ∨
      (d.destKind = 2 ∧ ∃ v, s.hostIntake (pipeOf port) port x = some (none, v))) →
    ∃ t : State, exec (.txBufferReadDone g data) s = .next t ∧ (t.ring g.val).tx.work = .idle ∧
      (t.ring g.val).tx.done = (s.ring g.val).tx.done + BitVec.ofNat 16 (l.length + 1) ∧
      (t.ring g.val).tx.frames = (s.ring g.val).tx.frames + 1 ∧
      (t.ring g.val).tx.bytes = (s.ring g.val).tx.bytes + BitVec.ofNat 64 (txLength (d :: l))) ∧
  (∀ (s : State) (g : Fin 4096), s.gears.change = none →
    (∀ n, (s.ring g.val).rx.state = .running → (s.ring g.val).rx.fetching = some (n, s.ringGen g.val) →
      ∃ t : State, exec (.dmaCompletionTimeout (.rxDescriptors g)) s = .next t ∧ (t.ring g.val).rx.state = .error ∧
        (t.ring g.val).rx.cause = .fetchFault) ∧
    ((s.ring g.val).tx.state = .running → (s.ring g.val).tx.work = .fetching (s.ringGen g.val) →
      ∃ t : State, exec (.dmaCompletionTimeout (.txDescriptors g)) s = .next t ∧ (t.ring g.val).tx.state = .error ∧
        (t.ring g.val).tx.cause = .fetchFault) ∧
    (∀ d l held loan, (s.ring g.val).tx.state = .running → (s.ring g.val).tx.work = .reading (s.ringGen g.val) (d :: l) held loan →
      ∃ t : State, exec (.dmaCompletionTimeout (.txBuffer g)) s = .next t ∧ (t.ring g.val).tx.work = .idle ∧
        (t.ring g.val).tx.errors = (s.ring g.val).tx.errors + 1)) ∧
  (∀ (s : State) (w : DmaWrite) (aer : BitVec 32), (∀ mb, w ≠ .indirect mb) → s.gears.change = none →
    ∃ t : State, exec (.pcieWriteError w aer) s = .next t ∧ hasCode (t.block 0).codes 17 = true ∧ t.slices = s.slices ∧
      (w = .shadow → t.te.shadowValid = false) ∧ ((∀ g, w ≠ .rxBuffer g) → t.rings = s.rings) ∧
      (∀ g v, w = .rxBuffer g → (s.ring g.val).rx.writing = some v → (t.ring g.val).rx.writing = some { v with fault := true })) ∧
  (∀ (s : State) (mb : Fin 129) (aer : BitVec 32) (x : InExec) (r : OpRow), (s.mbox mb.val).inExec = some x → x.batch = none →
    opRow? x.opcode.toNat = some r → x.entry.indirect = true →
    exec (.pcieWriteError (.indirect mb) aer) s = .next
      ((((s.raise 0 17 aer.toNat false).rollback mb.val r.op).complete mb.val r 0x0E 0xFFFFFFFF 0 0).gearCheck))

/-! ### The Cadence unit: time, outputs, snapshots, probes, lines and modules (chapter 13) -/

/-- TIME_SET and TIME_ADJUST step, slew and correct PTP time; the last island to take a step ends it; a cycle boundary advances FREE_NS to it (spec/13_cadence.md). -/
def Obligations.TimeIsSetSteppedAndSlewed : Prop :=
  (∀ (s : State) (mb : Fin 129) (e : Entry), Accepted s rowTimeSet mb e [(16, 0, 48), (24, 0, 32)] → e.u32 24 ≤ 999999999 →
    s.liveIslands ≠ [] → ∃ t : State, exec (.timeSet mb e) s = .next t ∧
      t.cad.ptp = (e.f 16 0 48 * 1000000000 + e.u32 24) * 2 ^ 32 ∧ t.cad.stepCount = s.cad.stepCount + 1 ∧ t.cad.slew = none ∧
      t.cad.stepPending = s.liveIslands ∧ t.cad.stepMb = some mb.val ∧ t.cad.freeNs = s.cad.freeNs ∧ t.cad.freq = s.cad.freq) ∧
  (∀ (s : State) (mb : Fin 129) (e : Entry), Accepted s rowTimeAdjust mb e [(16, 0, 3), (18, 0, 16), (20, 0, 32), (24, 0, 64)] →
    (∀ x ∈ s.adjustBad e, x.1 = false) →
    (e.bit 16 1 = false → e.bit 16 2 = false → ∃ (res : BitVec 128) (u : State), Answers (.timeAdjust mb e) s rowTimeAdjust mb 0 res u ∧
      u.cad = { s.cad with freq := signed 32 (e.u32 20) }) ∧
    (e.bit 16 1 = true → e.bit 16 2 = false → ∃ (res : BitVec 128) (u : State), Answers (.timeAdjust mb e) s rowTimeAdjust mb 0 res u ∧
      u.cad = { s.cad with freq := if e.bit 16 0 then signed 32 (e.u32 20) else s.cad.freq, slew := slewOf e }) ∧
    (e.bit 16 2 = true → s.liveIslands ≠ [] → ∃ t : State, exec (.timeAdjust mb e) s = .next t ∧
      t.cad.ptp = ((s.cad.ptp : Int) + adjustBy e).toNat % ptpLimit ∧ t.cad.stepCount = s.cad.stepCount + 1 ∧ t.cad.slew = none ∧
      t.cad.stepPending = s.liveIslands ∧ t.cad.stepMb = some mb.val)) ∧
  (∀ (s : State) (i : Fin 33),
    ((s.cad.stepPending.filter (· != i.val)).any s.islandLive = true → exec (.islandTimeStep i) s = .next { s with
      cad := { s.cad with stepPending := s.cad.stepPending.filter (· != i.val) } }) ∧
    ((s.cad.stepPending.filter (· != i.val)).any s.islandLive = false → ∃ t : State, exec (.islandTimeStep i) s = .next t ∧
      t.cad.stepPending = [] ∧ t.cad.stepMb = none ∧ t.cad.ptp = s.cad.ptp)) ∧
  (∀ (s : State) (x : Slew), s.cad.slew = some x → exec .slewComplete s = .next { s with
    cad := { s.cad with
      ptp := (if x.negative then (s.cad.ptp : Int) - x.remaining else s.cad.ptp + x.remaining).toNat % ptpLimit, slew := none } }) ∧
  (∀ (s : State) (l : List (BitVec 16)), s.gears.change = none → s.tandem.role ≠ .stoker → s.tandem.mustApply = false →
    (s.running = true → ∃ t : State, exec (.cadenceCycle l) s = .next t ∧
      t.cad.freeNs = s.cad.freeNs + BitVec.ofNat 64 (1000000 - s.now % 1000000) ∧
      t.wear.equivalent = s.wear.equivalent + Config.accelFactor s.wear.hottest) ∧
    (s.running = false → exec (.cadenceCycle l) s = .next s))

/-- PPS_OUT, the SyncE outputs and the GPIO balls are claimed, set, released and driven as chapter 13 says (spec/13_cadence.md). -/
def Obligations.CadenceOutputs : Prop :=
  (∀ (s : State) (mb : Fin 129) (e : Entry), Accepted s rowPpsOutSet mb e [(16, 0, 1), (20, 0, 32), (24, 0, 32)] →
    (e.bit 16 0 = true → 1 ≤ e.u32 20 → e.u32 20 ≤ 500000 → (signed 32 (e.u32 24)).natAbs < 500000000 →
      ∃ u : State, Answers (.ppsOutSet mb e) s rowPpsOutSet mb 0 0 u ∧ u.claim 4 0 = some { opcode := 0x0C0B, object := 0 } ∧
        u.cad.pps = { s.cad.pps with enable := true, widthUs := e.u32 20, offsetNs := signed 32 (e.u32 24) }) ∧
    (e.bit 16 0 = false → ∃ u : State, Answers (.ppsOutSet mb e) s rowPpsOutSet mb 0 0 u ∧ u.claim 4 0 = none ∧
      u.cad.pps = { s.cad.pps with enable := false })) ∧
  (∀ s : State, s.cad.pps.enable = true → s.cad.pps.stepped = false → exec .ppsPulse s = .next { s with
    cad := { s.cad with pps := { s.cad.pps with endNs := s.now + s.cad.pps.widthUs * 1000 } } }) ∧
  (∀ (s : State) (mb : Fin 129) (e : Entry), Accepted s rowSynceOutSet mb e [(16, 0, 8), (17, 0, 8), (18, 0, 8), (19, 0, 8)] →
    e.u8 16 ≤ 1 →
    (e.u8 17 = 1 → e.u8 18 < s.portCount → e.u8 18 ≤ 127 → s.isFenced 1 (spokeOf (e.u8 18)) = false → e.u8 19 ≤ 7 →
      s.claimBusy 3 (e.u8 16) 0x0C0A (e.u8 18) = false →
      (s.port (e.u8 18)).cfg.width ≠ 0 → e.u8 19 < (s.port (e.u8 18)).cfg.width →
      let x : SyncE := { enable := true, port := e.u8 18, lane := e.u8 19, squelched := false }
      ∃ u : State, Answers (.synceOutSet mb e) s rowSynceOutSet mb 0 0 u ∧ u.synceOut (e.u8 16) = { x with squelched := !s.synceOk x } ∧
        u.claim 3 (e.u8 16) = some { opcode := 0x0C0A, object := e.u8 18 }) ∧
    (e.u8 17 = 0 → ∃ u : State, Answers (.synceOutSet mb e) s rowSynceOutSet mb 0 0 u ∧ u.synceOut (e.u8 16) = SyncE.reset ∧
      u.claim 3 (e.u8 16) = none)) ∧
  (∀ (s : State) (o : Fin 2), (s.synceOut o.val).enable = true → s.synceOk (s.synceOut o.val) = true →
    exec (.synceResume o) s = .next (s.setSynce o.val { s.synceOut o.val with squelched := false })) ∧
  (∀ (s : State) (mb : Fin 129) (e : Entry), Accepted s rowGpioSet mb e [(16, 0, 8), (17, 0, 8), (18, 0, 8), (19, 0, 2)] →
    e.u8 16 ≤ 31 → e.u8 17 ≤ 3 → e.u8 18 ≤ 1 → s.claimBusy 1 (e.u8 16) 0x0C0C (e.u8 16) = false →
    ∃ (res : BitVec 128) (u : State), Answers (.gpioSet mb e) s rowGpioSet mb 0 res u ∧ field res 16 1 = bit (s.gpio (e.u8 16)).level ∧
      (u.gpio (e.u8 16)).function = e.u8 17 ∧ (u.gpio (e.u8 16)).level = (s.gpio (e.u8 16)).level ∧
      (e.u8 17 = 0 → u.claim 1 (e.u8 16) = none) ∧
      (e.u8 17 ≠ 0 → u.claim 1 (e.u8 16) = some { opcode := 0x0C0C, object := e.u8 16 } ∧ (u.gpio (e.u8 16)).value = e.bit 18 0 ∧
        (u.gpio (e.u8 16)).edges = BitVec.ofNat 2 (e.f 19 0 2)) ∧ ∀ k, k ≠ e.u8 16 → u.gpio k = s.gpio k) ∧
  (∀ (s : State) (g : Fin 32) (rising : Bool), ∃ t : State, exec (.gpioEdge g rising) s = .next t ∧ (t.gpio g.val).level = rising ∧
    (t.gpio g.val).function = (s.gpio g.val).function ∧
    ((s.gpio g.val).function = 3 → (s.gpio g.val).edges.getLsbD (if rising then 0 else 1) = true → (s.gpio g.val).lastEdge = none →
      (t.gpio g.val).lastEdge = some s.now ∧ tget t.cad.counters 0 1 = tget s.cad.counters 0 1 + 1) ∧
    ((s.gpio g.val).function ≠ 3 → (t.gpio g.val).lastEdge = (s.gpio g.val).lastEdge ∧ t.cad.counters = s.cad.counters))

/-- Snapshots copy and clear pairs, timers are claimed and released, probes open and close their windows, and sampling ticks copy the counters (spec/13_cadence.md). -/
def Obligations.SnapshotsProbesAndSamples : Prop :=
  (∀ (s : State) (mb : Fin 129) (e : Entry) (buf : Option Bytes), s.cmdReady mb.val rowCounterSnapshot.op e = true →
    (∀ x ∈ snapshotBad e, x.1 = false) →
    formCheck rowCounterSnapshot s mb.val e (snapshotFields e) [] (e.u8 40 = 1 || e.u8 40 = 2) = none →
    (e.u8 40 = 0 → buf.isSome = true → s.wordsQuiet = true → s.inShare mb.val 12 (e.u32 32) = true → s.inShare mb.val 12 (e.u32 32 + e.u32 36 - 1) = true →
      ∃ (res : BitVec 128) (u : State), Answers (.counterSnapshot mb e buf) s rowCounterSnapshot mb 0 res u ∧ field res 16 8 = s.now ∧ field res 24 8 = s.now ∧
        ((s.mbox mb.val).muted = false → u.host = (s.dmaFor (mboxSlice mb.val) e.bufAddr (s.pairBytes (e.u32 32) (e.u32 36))).host) ∧
        (e.bit 41 0 = false → u.tables = s.tables) ∧
        (e.bit 41 0 = true → ∀ p, e.u32 32 ≤ p → p < e.u32 32 + e.u32 36 → (u.pair p).packets = 0 ∧ (u.pair p).bytes = 0 ∧
          (u.pair p).holder = (s.pair p).holder)) ∧
    (e.u8 40 = 1 → s.claim 2 (e.u8 42) = none → ∃ u : State, Answers (.counterSnapshot mb e buf) s rowCounterSnapshot mb 0 0 u ∧
      u.claim 2 (e.u8 42) = some { opcode := 0x0C05, object := e.u8 42 } ∧
      u.timer (e.u8 42) = some { period := e.u16 44, use := .snapshot (snapshotOf e mb.val) }) ∧
    (e.u8 40 = 2 → (s.snapshotOn (e.u8 42)).isSome = true → ∃ u : State, Answers (.counterSnapshot mb e buf) s rowCounterSnapshot mb 0 0 u ∧
      u.claim 2 (e.u8 42) = none ∧ u.timer (e.u8 42) = none) ∧
    (e.u8 40 = 3 → ∃ u : State, Answers (.counterSnapshot mb e buf) s rowCounterSnapshot mb 0 0 u ∧
      tget u.host.rings EventRing.none mb.val = (if e.u64 16 = 0 then EventRing.none
        else { EventRing.none with base := e.u64 16, log2 := e.u8 24 }))) ∧
  (∀ (s : State) (k : Fin 16) (p : PeriodicSnap), s.snapshotOn k.val = some p →
    (p.running = none → ∃ t : State, exec (.periodicSnapshotTick k) s = .next t ∧ t.snapshotOn k.val = some { p with running := some s.now }) ∧
    (p.running ≠ none → ∃ t : State, exec (.periodicSnapshotTick k) s = .next t ∧ t.snapshotOn k.val = some { p with skipped := true } ∧
      t.tables = s.tables) ∧
    (p.running ≠ none → ∃ t : State, exec (.snapshotDone k) s = .next t ∧
      t.snapshotOn k.val = some { p with running := none, skipped := false, number := p.number + 1 })) ∧
  (∀ (s : State) (mb : Fin 129) (e : Entry), s.cmdReady mb.val rowProbeSet.op e = true → (∀ x ∈ probeBad e, x.1 = false) →
    formCheck rowProbeSet s mb.val e [(16, 0, 8), (17, 0, 8), (18, 0, 16), (20, 0, 32), (24, 0, 8), (25, 0, 8), (26, 0, 8), (28, 0, 32),
      (32, 0, 32), (36, 0, 32)] [] (e.u8 16 = 0 || e.u8 16 = 3) = none → s.probeDenied mb.val e = none →
    (e.u8 16 = 0 → s.claimBusy 2 (e.u8 17) 0x0C03 (e.u8 17) = false → ∃ u : State, Answers (.probeSet mb e) s rowProbeSet mb 0 0 u ∧
      u.claim 2 (e.u8 17) = some { opcode := 0x0C03, object := e.u8 17 } ∧
      u.timer (e.u8 17) = some { period := e.u16 18, use := .probes }) ∧
    (e.u8 16 = 1 → (e.u8 24 = 2 → e.u8 26 < s.portCount ∧ s.isFenced 1 (spokeOf (e.u8 26)) = false) → s.scheduled (e.u8 17) = true → s.targetExists (targetOf e) = true →
      (∀ p ∈ tsome s.cad.probes, p.2.target = targetOf e → p.1 = e.u32 20) →
      (mb.val ≠ 0 → s.probesOf mb.val (e.u32 20) < tget (s.slice (mb.val - 1)).counts 0 144) →
      ∃ u : State, Answers (.probeSet mb e) s rowProbeSet mb 0 0 u ∧ u.probe (e.u32 20) = some (probeOf e mb.val)) ∧
    (e.u8 16 = 2 → (s.probe (e.u32 20)).isSome = true → ∃ u : State, Answers (.probeSet mb e) s rowProbeSet mb 0 0 u ∧
      u.probe (e.u32 20) = none) ∧
    (e.u8 16 = 3 → s.scheduled (e.u8 17) = true → (∀ p ∈ tsome s.cad.probes, p.2.timer ≠ e.u8 17) →
      ∃ u : State, Answers (.probeSet mb e) s rowProbeSet mb 0 0 u ∧ u.timer (e.u8 17) = none ∧ u.claim 2 (e.u8 17) = none)) ∧
  (∀ (s : State) (mb : Fin 129) (e : Entry) (p : Probe), Accepted s rowProbeRead mb e [(16, 0, 32), (20, 0, 8)] → e.u32 16 ≤ 65535 →
    e.u8 20 = 0 → s.probe (e.u32 16) = some p → p.mbox = mb.val → ∃ (res : BitVec 128) (u : State), Answers (.probeRead mb e) s rowProbeRead mb 0 res u ∧
      field res 16 8 = p.last.out % 2 ^ 64 ∧ field res 24 8 = p.last.lost % 2 ^ 64 ∧ u.cad = s.cad) ∧
  (∀ (s : State) (k : Fin 16) (n : Nat) (p : Probe), s.scheduled k.val = true →
    (tsome s.cad.probes).filter (fun q => q.2.timer == k.val) = [(n, p)] →
    ∃ t x, exec (.probeWindowEnd k) s = .next t ∧ t.probe n = some x ∧ x.last = p.window ∧ x.window = ProbeWindow.empty ∧
      x.windows = p.windows + 1 ∧ x.target = p.target ∧ x.lastCycle = s.cycle.toNat) ∧
  (∀ (s : State) (mb : Fin 129) (e : Entry), Accepted s rowPerfSelect mb e [(16, 0, 8), (17, 0, 8), (18, 0, 16)] → e.u8 17 ≤ 15 →
    (e.u8 16 = 0 → e.u16 18 ≠ 0 → s.claim 2 (e.u8 17) = none → ∃ u : State, Answers (.perfSelect mb e) s rowPerfSelect mb 0 0 u ∧
      u.claim 2 (e.u8 17) = some { opcode := 0x0C06, object := e.u8 17 } ∧
      u.timer (e.u8 17) = some { period := e.u16 18, use := .perf }) ∧
    (e.u8 16 = 1 → s.perfTimer (e.u8 17) = true → ∃ u : State, Answers (.perfSelect mb e) s rowPerfSelect mb 0 0 u ∧
      u.timer (e.u8 17) = none ∧ u.claim 2 (e.u8 17) = none)) ∧
  (∀ s : State, (tsome s.cad.timers).any (fun t => t.2.use == TimerUse.perf) = true → ∃ t : State, exec .perfSampleTick s = .next t ∧
    ∀ b, t.block b = if s.blockPresent b = true ∧ b < 53 ∧ s.blockFenced b = false then (s.block b).tick s.now s.cycle.toNat
      else s.block b)

/-- Line channels switch on, sample, trip, retry and report as chapter 13 says, and module accesses keep the state of their bus (spec/13_cadence.md). -/
def Obligations.LinesAndModules : Prop :=
  (∀ (s : State) (mb : Fin 129) (e : Entry), Accepted s rowLineChannelSet mb e [(16, 0, 8), (17, 0, 8), (18, 0, 8), (19, 0, 8),
      (20, 0, 16), (22, 0, 16), (24, 0, 16), (26, 0, 16), (28, 0, 16), (30, 0, 16), (32, 0, 16), (34, 0, 16), (36, 0, 8)] →
    (∀ x ∈ lineBad e, x.1 = false) → (e.u8 19 ≠ 0xFF → s.claimBusy 1 (e.u8 19) 0x0C07 (e.u8 16) = false) →
    ∃ (res : BitVec 128) (u : State), Answers (.lineChannelSet mb e) s rowLineChannelSet mb 0 res u ∧ (u.line (e.u8 16)).set = lineSettings e ∧
      field res 16 1 = (u.line (e.u8 16)).state.num ∧
      (e.u8 19 ≠ 0xFF → u.claim 1 (e.u8 19) = some { opcode := 0x0C07, object := e.u8 16 }) ∧
      (e.u8 17 = 1 → (s.line (e.u8 16)).enabled = false → (u.line (e.u8 16)).state = .on ∧
        (u.line (e.u8 16)).enablePending = true ∧ (u.line (e.u8 16)).retriesLeft = e.u8 36) ∧
      (e.u8 17 = 1 → (s.line (e.u8 16)).enabled = true → (u.line (e.u8 16)).enabled = true ∧
        (u.line (e.u8 16)).retriesLeft = e.u8 36) ∧
      (e.u8 17 = 0 → (s.line (e.u8 16)).enabled = true → (u.line (e.u8 16)).enabled = false ∧ (u.line (e.u8 16)).state = .off ∧
        (u.line (e.u8 16)).cause = 5) ∧
      (e.u8 17 = 0 → (s.line (e.u8 16)).enabled = false → (u.line (e.u8 16)).state = .off ∧
        (u.line (e.u8 16)).enablePending = false)) ∧
  (∀ (s : State) (mb : Fin 129) (e : Entry), Accepted s rowLineChannelStatus mb e [(16, 0, 8)] → e.u8 16 ≤ 31 →
    ∃ (res : BitVec 128) (u : State), Answers (.lineChannelStatus mb e) s rowLineChannelStatus mb 0 res u ∧
      field res 16 1 = (s.line (e.u8 16)).state.num ∧ field res 24 8 = (s.line (e.u8 16)).implausible.toNat ∧ u.cad = s.cad) ∧
  (∀ (s : State) (b : Fin 4) (words : Option (List (BitVec 32))) (i : Fin 8), s.armedAt 5 b.val = none →
    let c := 8 * b.val + i.val
    ∃ t : State, exec (.lineSensorFrame b words) s = .next t ∧
      (∀ w : BitVec 32, words.bind (fun l => l[i.val]?) = some w → wordBad w.toNat = false →
        (t.line c).currentMa = wordCurr w.toNat * (s.line c).set.iLsbUa / 1000 ∧
        (t.line c).voltageMv = wordVolt w.toNat * (s.line c).set.vLsbUv / 1000 ∧ (t.line c).badCount = 0 ∧
        (t.line c).implausible = (s.line c).implausible) ∧
      ((∀ w : BitVec 32, words.bind (fun l => l[i.val]?) = some w → wordBad w.toNat = true) →
        (t.line c).implausible = (s.line c).implausible + 1 ∧ (t.line c).badCount = (s.line c).badCount + 1)) ∧
  (∀ (s : State) (c : Fin 32), (s.line c.val).set.alarmGpio ≠ 0xFF → ∃ t : State, exec (.lineAlarmInput c) s = .next t ∧
    (t.line c.val).alarmNow = true ∧ (t.line c.val).enabled = false ∧ ((s.line c.val).enabled = true → (t.line c.val).cause = 4) ∧
    (t.gpio (s.line c.val).set.alarmGpio).level = false) ∧
  (∀ (s : State) (c : Fin 32), (s.line c.val).enablePending = true → (s.line c.val).held = false →
    ∃ t : State, exec (.lineChannelEnable c) s = .next t ∧ (t.line c.val).enabled = true ∧ (t.line c.val).state = .on ∧
      (t.line c.val).enablePending = false ∧ (t.line c.val).inrush = ((s.line c.val).set.inrushMs != 0)) ∧
  (∀ (s : State) (c : Fin 32), exec (.inrushEnd c) s = .next (s.setLine c.val { s.line c.val with inrush := false, voltCount := 0 })) ∧
  (∀ (s : State) (c : Fin 32), (s.line c.val).state = .tripped →
    exec (.lineRetryExpiry c) s = .next (s.setLine c.val { s.line c.val with enablePending := true })) ∧
  (∀ (s : State) (c : Fin 32), (s.line c.val).enabled = true →
    exec (.lineRetryRestore c) s = .next (s.setLine c.val { s.line c.val with retriesLeft := (s.line c.val).set.retryMax })) ∧
  (∀ (s : State) (mb : Fin 129) (e : Entry), Accepted s rowModuleAccess mb e [(16, 0, 8), (17, 0, 8), (18, 0, 8), (19, 0, 8),
      (20, 0, 8), (21, 0, 8), (22, 0, 8), (23, 0, 8), (24, 0, 1), (32, 0, 256)] → (∀ x ∈ moduleBad e, x.1 = false) →
    e.u8 17 < s.spokes →
    (∀ r, e.u8 16 = 2 → ∃ u : State, Answers (.moduleAccess mb e r) s rowModuleAccess mb 0 0 u ∧
      u.moduleBus (e.u8 17) = { s.moduleBus (e.u8 17) with fast := e.bit 19 0, muxAddr := e.u8 20, expAddr := e.u8 21 }) ∧
    (∀ data, e.u8 16 ≤ 1 → (s.moduleBus (e.u8 17)).present.getLsbD (e.u8 18) = true →
      ∃ u : State, Answers (.moduleAccess mb e (.ack data)) s rowModuleAccess mb 0
          (if e.u8 16 = 0 then BitVec.ofNat 128 (leNat (data.take (e.u8 23))) else 0) u ∧
        u.moduleBus (e.u8 17) = { (s.moduleBus (e.u8 17)).select e with held := false }))

/-! ### Faults, fencing, clearing, monitors and register accesses (chapters 01, 02, 13 and 14) -/

/-- FAULT_STATUS_READ reports, UNIT_FENCE and UNIT_UNFENCE set and end a fence, FAULT_INJECT arms, BELL_CONFIG and WEAR_READ act on the bell and the wear (spec/14_faults.md). -/
def Obligations.FaultCommands : Prop :=
  (∀ (s : State) (mb : Fin 129) (e : Entry), Accepted s rowFaultStatusRead mb e [(16, 0, 8), (18, 0, 16)] →
    (e.u8 16 = 0 → e.u16 18 = 0 → ∃ res : BitVec 128, Answers (.faultStatusRead mb e) s rowFaultStatusRead mb 0 res (begun s rowFaultStatusRead mb e) ∧
      ∀ b < 53, bitsAt res.toNat (2 * b) 2 = if s.blockPresent b then blockSeverity b (s.block b).codes else 3) ∧
    (e.u8 16 = 1 → e.u16 18 ≤ 52 → s.blockPresent (e.u16 18) = true →
      ∃ res : BitVec 128, Answers (.faultStatusRead mb e) s rowFaultStatusRead mb 0 res (begun s rowFaultStatusRead mb e) ∧
        field res 16 8 = s.errStatus (e.u16 18) ∧ field res 24 8 = (s.block (e.u16 18)).mask.toNat)) ∧
  (∀ (s : State) (mb : Fin 129) (e : Entry), Accepted s rowUnitFence mb e [(16, 0, 8), (17, 0, 8)] → 1 ≤ e.u8 16 → e.u8 16 ≤ 6 →
    e.u8 17 < unitCount (e.u8 16) → s.unitPresent (e.u8 16) (e.u8 17) = true → s.isFenced (e.u8 16) (e.u8 17) = false →
    ∃ u : State, Answers (.unitFence mb e) s rowUnitFence mb 0 0 u ∧ u.isFenced (e.u8 16) (e.u8 17) = true ∧
      hasCode (u.block (unitBlock (e.u8 16) (e.u8 17))).codes 22 = true) ∧
  (∀ (s : State) (mb : Fin 129) (e : Entry) (ok : Bool), Accepted s rowUnitUnfence mb e [(16, 0, 8), (17, 0, 8)] → 1 ≤ e.u8 16 →
    e.u8 16 ≤ 6 → e.u8 17 < unitCount (e.u8 16) → s.unitPresent (e.u8 16) (e.u8 17) = true →
    (s.isFenced (e.u8 16) (e.u8 17) = false →
      Answers (.unitUnfence mb e ok) s rowUnitUnfence mb 0 0 (begun s rowUnitUnfence mb e)) ∧
    (s.isFenced (e.u8 16) (e.u8 17) = true → ok = true → s.causeHolds (e.u8 16) (e.u8 17) = false →
      (e.u8 16 = 3 ∨ e.u8 16 = 4 → s.isFenced 2 (e.u8 17) = false) →
      (e.u8 16 = 1 ∨ e.u8 16 = 4 ∨ e.u8 16 = 5 → ∃ u : State, Answers (.unitUnfence mb e ok) s rowUnitUnfence mb 0 0 u ∧
        u.isFenced (e.u8 16) (e.u8 17) = false) ∧
      (e.u8 16 = 2 ∨ e.u8 16 = 3 → ∃ t : State, exec (.unitUnfence mb e ok) s = .next t ∧ (t.mbox mb.val).inExec.isSome = true ∧
        t.te.queued.any (fun r => r.id == 16 && r.arg == e.u8 17 && r.mb == some mb.val) = true) ∧
      (e.u8 16 = 6 → ∃ t : State, exec (.unitUnfence mb e ok) s = .next t ∧ (t.mbox mb.val).inExec.isSome = true ∧
        t.far.trainMb = some mb.val))) ∧
  (∀ (s : State) (mb : Fin 129) (e : Entry), Accepted s rowFaultInject mb e [(16, 0, 8), (17, 0, 8), (18, 0, 8), (19, 0, 8), (24, 0, 64)] →
    1 ≤ e.u8 16 → e.u8 16 ≤ 5 → (e.u8 16 = 1 → 1 ≤ e.u8 17 ∧ e.u8 17 ≤ 3 ∧ e.u8 19 ≤ 15 ∧ e.u64 24 < 2 ^ 28) → e.u8 18 ≤ 52 →
    (e.u8 16 = 2 → parityBlock (e.u8 18) (e.u8 19) = true ∧ s.parityAddress (e.u8 19) (e.u64 24) = true) →
    (e.u8 16 = 4 → e.u64 24 ≤ 1) → (e.u8 16 = 5 → e.u64 24 ≤ 3) → s.blockPresent (e.u8 18) = true →
    (e.u8 16 = 3 ∨ e.u8 16 = 4 → s.bell.hostStop = true ∨ (s.block 0).fatalOk = true) →
    tget (s.block (e.u8 18)).armed none (e.u8 16) = none →
    ∃ u : State, Answers (.faultInject mb e) s rowFaultInject mb 0 0 u ∧
      ((∀ k n, e.u8 16 = 1 → Config.chipWordAt (e.u8 18) (e.u8 19) (e.u64 24) ≠ some (.rom k n)) →
        tget (u.block (e.u8 18)).armed none (e.u8 16) = some (e.u8 19, e.u64 24, if e.u8 16 = 1 then e.u8 17 else 0)) ∧
      (∀ k n, e.u8 16 = 1 → Config.chipWordAt (e.u8 18) (e.u8 19) (e.u64 24) = some (.rom k n) →
        tget (u.block (e.u8 18)).armed none 1 = none ∧ ∃ x, u.badWord (.rom k n) = some x ∧ x.bits = e.u8 17) ∧
      (u.block (e.u8 18)).codes = (s.block (e.u8 18)).codes ∧ ∀ b, b ≠ e.u8 18 → u.block b = s.block b) ∧
  (∀ (s : State) (mb : Fin 129) (e : Entry), Accepted s rowBellConfig mb e [(16, 0, 16), (18, 0, 8)] →
    (e.u16 16 = 0 ∨ (100 ≤ e.u16 16 ∧ e.u16 16 ≤ 10000)) → (s.paired = true → e.u16 16 = 0 ∨ e.u16 16 = 10000) →
    let rate := if e.u16 16 = 0 then s.bell.rateHz else BitVec.ofNat 16 (e.u16 16)
    (e.u8 18 = 0 → ∃ u : State, Answers (.bellConfig mb e) s rowBellConfig mb 0 0 u ∧ u.bell = { s.bell with rateHz := rate }) ∧
    (e.u8 18 = 1 → s.hasFar = true → s.claimBusy 5 0 0x0D05 0 = false → s.bell.dumpOn = false → 4096 ≤ s.farTotal →
      ∃ u : State, Answers (.bellConfig mb e) s rowBellConfig mb 0 0 u ∧ u.bell = { s.bell with rateHz := rate, dumpOn := true } ∧
        u.claim 5 0 = some { opcode := 0x0D05, object := 0 } ∧ u.far.use = .dump ∧ u.far.wanted = 2048) ∧
    (e.u8 18 = 2 → ∃ u : State, Answers (.bellConfig mb e) s rowBellConfig mb 0 0 u ∧
      u.bell = { s.bell with rateHz := rate, dumpOn := false, dumpState := .off, dump := none } ∧
      (s.far.use = .dump → u.claim 5 0 = none ∧ u.far.use = .off))) ∧
  (∀ (s : State) (mb : Fin 129) (e : Entry), Accepted s rowWearRead mb e [(16, 0, 8), (17, 0, 8)] → e.u8 17 ≤ 63 →
    (e.u8 16 = 0 → ∃ res : BitVec 128, Answers (.wearRead mb e) s rowWearRead mb 0 res (begun s rowWearRead mb e) ∧
      field res 24 2 = s.wear.demandMv % 65536 ∧ field res 26 1 = (s.wear.hottest % 256).toNat) ∧
    (e.u8 16 = 1 → ∃ (res : BitVec 128) (u : State), Answers (.wearRead mb e) s rowWearRead mb 0 res u ∧
      field res 20 4 = s.wear.slowdown.getD (e.u8 17) 0 % 2 ^ 32 ∧ u.wear = s.wear))

/-- ERR_STATUS clears as Table 14-5 says, ERR_INJECT injects or is ignored, HOST_STOP is set, and every monitor latches its code and does what the code does (spec/02_mailbox.md, spec/14_faults.md). -/
def Obligations.ClearingInjectionAndMonitors : Prop :=
  (∀ (s : State) (b : Fin 53) (m : BitVec 64), s.blockPresent b.val = true → ∃ t : State, exec (.errStatusClear b m) s = .next t ∧
    (∀ c < 48, hasCode (t.block b.val).codes c = true ↔ hasCode (s.block b.val).codes c = true ∧
      ¬(m.getLsbD c = true ∧ (clearRule c = .w1c ∨ (clearRule c = .cause ∧ hasCode (s.block b.val).causes c = false)))) ∧
    ∀ k, k ≠ b.val → t.block k = s.block k) ∧
  (∀ (s : State) (b : Fin 53) (v : BitVec 64),
    (s.blockPresent b.val = true → v.getLsbD 63 = false → exec (.errInjectArm b v) s = .next
      (s.setBlock b.val { s.block b.val with injCode := BitVec.ofNat 6 (bitsAt v.toNat 0 6), fatalOk := v.getLsbD 8 })) ∧
    (s.blockPresent b.val = true → codeDefined (bitsAt v.toNat 0 6) = true →
      (severity b.val (bitsAt v.toNat 0 6) = 2 → v.getLsbD 8 = true) → v.getLsbD 63 = true →
      ∃ t : State, exec (.errInjectArm b v) s = .next t ∧ hasCode (t.block b.val).codes (bitsAt v.toNat 0 6) = true) ∧
    (v.getLsbD 63 = true → (codeDefined (bitsAt v.toNat 0 6) = false ∨
      (severity b.val (bitsAt v.toNat 0 6) = 2 ∧ v.getLsbD 8 = false)) → exec (.errInjectArm b v) s = .next s)) ∧
  (∀ (s : State) (v : Bool), exec (.hostStop v) s = .next { s with bell := { s.bell with hostStop := v } } ∧
    (s.bellCause = 0 → v = true → { s with bell := { s.bell with hostStop := v } }.bellCause = 3) ∧
    (v = false → { s with bell := { s.bell with hostStop := v } }.bellCause ≠ 3)) ∧
  (∀ s : State, s.beatHeld = none → (s.bell.started = true → hasCode (s.block 0).causes 10 = false →
      ∃ t : State, exec .heartbeatExpiry s = .next t ∧ t.bell.heartbeat = false ∧ hasCode (t.block 0).codes 10 = true) ∧
    (s.bell.started = false → exec .heartbeatExpiry s = .next s) ∧
    (s.fw.halted = false → hasCode (s.block 1).causes 11 = false → s.readsQuiet = true →
      exec .heartbeat s = .next (({ s with bell := { s.bell with heartbeat := true, lastBeat := s.now } }).setCause 0 10 false))) ∧
  (∀ (s : State) (b : Fin 53), s.blockPresent b.val = true → s.blockFenced b.val = false → ∃ t : State, exec (.handshakeTimeout b) s = .next t ∧
    hasCode (t.block b.val).codes 16 = true ∧ (2 ≤ b.val → b.val < 18 → t.isFenced 1 (b.val - 2) = true) ∧
    (18 ≤ b.val → b.val < 26 → t.isFenced 2 (b.val - 18) = true)) ∧
  (∀ (s : State) (v : BitVec 32), exec (.sysclkMonitor false v) s = .next (s.setCause 0 14 false) ∧
    (hasCode (s.block 0).causes 14 = false → ∃ t : State, exec (.sysclkMonitor true v) s = .next t ∧
      hasCode (t.block 0).codes 14 = true ∧ hasCode (t.block 0).causes 14 = true)) ∧
  (∀ (s : State) (n : Fin 16) (v : BitVec 32), s.blockPresent (spokeBlock n.val) = true → s.gears.change = none →
    exec (.serdesRefclkMonitor (.spoke n) false v) s = .next (s.setCause (spokeBlock n.val) 15 false) ∧
    ∃ t : State, exec (.serdesRefclkMonitor (.spoke n) true v) s = .next t ∧ t.isFenced 1 n.val = true ∧
      hasCode (t.block (spokeBlock n.val)).causes 15 = true) ∧
  (∀ (s : State) (h : Int) (r : List Int) (slow : List Nat) (mv : Nat), ∃ t : State, exec (.thermalSample (h :: r) slow mv) s = .next t ∧
    t.wear.hottest = r.foldl max h ∧ t.wear.slowdown = slow ∧ t.wear.demandMv = mv ∧
    (105 < r.foldl max h → hasCode (t.block 0).causes 26 = true) ∧ (r.foldl max h < 103 → hasCode (t.block 0).causes 26 = false) ∧
    (115 < r.foldl max h → hasCode (t.block 0).causes 27 = true) ∧ (r.foldl max h < 110 → hasCode (t.block 0).causes 27 = false)) ∧
  (∀ (s : State) (mv : Nat) (ps : BitVec 32), (hasCode (s.block 0).causes 28 = false → ∃ t : State, exec (.wearMargin mv) s = .next t ∧
      hasCode (t.block 0).codes 28 = true) ∧
    (hasCode (s.block 0).causes 29 = false → ∃ t : State, exec (.voltageLimit ps) s = .next t ∧ hasCode (t.block 0).codes 29 = true)) ∧
  (∀ (s : State) (p : Fin 2), ∃ t : State, exec (.lockstepMismatch p) s = .next t ∧ hasCode (t.block 1).codes 9 = true ∧
    (s.inBootRom = true → t.boot.phase = .failed) ∧ (hasCode (s.block 1).codes 9 = false → t.fw.halted = true ∧ t.fw.fwReady = false)) ∧
  (∀ (s : State) (mb : Fin 129) (x : InExec) (r : OpRow), (s.mbox mb.val).inExec = some x → opRow? x.opcode.toNat = some r →
    (r.classOf x.entry ≠ .c → hasCode (s.block 1).causes 11 = false → ∃ t : State, exec (.classLimit mb) s = .next t ∧
      (t.mbox mb.val).inExec = some { x with missed := true } ∧ hasCode (t.block 1).codes 11 = true) ∧
    (∀ i l, r.classOf x.entry = .c → x.batch = some (i, l) → exec (.commandTimeLimit mb) s =
      .next (((s.ruleFinish mb.val).complete mb.val r 0x0E (s.elapsed mb.val) i 0).gearCheck)) ∧
    (r.classOf x.entry = .c → x.batch = none → ∃ t : State, exec (.commandTimeLimit mb) s = .next t ∧ (t.mbox mb.val).inExec = none ∧
      (r.op = 0x0501 → t.ctl.graphBank = !s.ctl.graphBank ∧ t.ctl.graphMb = none) ∧ (r.op = 0x0E03 → t.tandem.handover = none)))

/-- Host accesses to registers count, clear and sample as their tables say, and a write that reaches no writable register changes nothing (spec/01_architecture.md, spec/02_mailbox.md, spec/13_cadence.md, spec/14_faults.md). -/
def Obligations.RegisterAccesses : Prop :=
  (∀ (s : State) (b : Fin 53) (i : Fin 8) (v : BitVec 32), s.blockPresent b.val = true →
    (∃ t : State, exec (.perfSelConfig b i v) s = .next t ∧ ((t.block b.val).counter i.val).event = v.extractLsb' 0 16 ∧
      ((t.block b.val).counter i.val).mode = v.extractLsb' 16 2 ∧ ((t.block b.val).counter i.val).chain = v.getLsbD 18 ∧
      (v.getLsbD 19 = true → ((t.block b.val).counter i.val).count = 0) ∧
      ∀ j, j ≠ i.val → (t.block b.val).counter j = (s.block b.val).counter j) ∧
    (∃ t : State, exec (.perfCounterClear b i) s = .next t ∧ (t.block b.val).counter i.val = { (s.block b.val).counter i.val with count := 0 } ∧
      ∀ j, j ≠ i.val → (t.block b.val).counter j = (s.block b.val).counter j) ∧
    (∃ t : State, exec (.perfOvfClear b i) s = .next t ∧ (t.block b.val).counter i.val = { (s.block b.val).counter i.val with ovf := false } ∧
      ∀ j, j ≠ i.val → (t.block b.val).counter j = (s.block b.val).counter j) ∧
    ((s.block b.val).chained i.val = false → ∃ t : State, exec (.perfCounterSample b i) s = .next t ∧
      ((t.block b.val).counter i.val).sampled = ((s.block b.val).counter i.val).count ∧
      ((t.block b.val).counter i.val).count = ((s.block b.val).counter i.val).count)) ∧
  (∀ (s : State) (n : Fin 10), n.val ≠ 9 → s.storePresent n.val = true → ∃ t : State, exec (.chainCountSample n) s = .next t ∧
    tget t.host.samples 0 (0x701000 + 8 * n.val) = BitVec.ofNat 64 ((s.store n.val).free + (s.store n.val).queued * 2 ^ 21 +
      (s.store n.val).loaned * 2 ^ 42) ∧ t.sw = s.sw) ∧
  (∀ s : State, s.hasFar = true → ∃ t : State, exec .farCountSample s = .next t ∧ tget t.host.samples 0 0x701048 =
    BitVec.ofNat 64 (s.farFree + (s.farUsed - s.farLoaned) * 2 ^ 25 + s.farLoaned * 2 ^ 50) ∧ t.far = s.far) ∧
  (∀ s : State, ∃ t : State, exec .timeSample s = .next t ∧ tget t.host.samples 0 0x780410 = s.cad.freeNs ∧
    tget t.host.samples 0 0x780408 = BitVec.ofNat 64 s.ptpNs ∧
    tget t.host.samples 0 0x780400 = BitVec.ofNat 64 (s.ptpSec + s.cad.stepCount.toNat * 2 ^ 48) ∧ t.cad = s.cad) ∧
  (∀ (s : State) (bar2 : Bool) (a : BitVec 24) (w : RegWidth) (v : BitVec 64), s.gears.change = none →
    ((s.running = false ∨ s.host.linkUp = false) → exec (.registerWrite bar2 a w v) s = .next s) ∧
    (s.running = true → s.host.linkUp = true → bar2 = false →
      (a = 0x460#24 → s.bell.dumpState ≠ .done →
        exec (.registerWrite bar2 a w v) s = .next { s with bell := { s.bell with hostStop := v.getLsbD 0 } }) ∧
      (a = 0x528#24 → exec (.registerWrite bar2 a w v) s = exec (.mboxDoorbell 0 (v.extractLsb' 0 16)) s) ∧
      (∀ g : Fin 256, a = BitVec.ofNat 24 (0x2000 + 16 * g.val) →
        exec (.registerWrite bar2 a w v) s = exec (.ringTxDoorbell ⟨g.val, by omega⟩ (v.extractLsb' 0 16)) s) ∧
      (a = 0x010#24 → w = .full → exec (.registerWrite bar2 a w v) s = exec (.errStatusClear 0 v) s) ∧
      (a = 0x440#24 → exec (.registerWrite bar2 a w v) s = .next s)))

/-! ### Tandem and the Peloton (chapter 15) -/

/-- TANDEM_CONFIG forms, joins, leaves and sets a pair, ROLE_HANDOVER changes the role, and the status commands and CLAIM_RANK_SET do what chapter 15 says (spec/15_tandem.md). -/
def Obligations.TandemCommands : Prop :=
  (∀ (s : State) (mb : Fin 129) (e : Entry), Accepted s rowTandemConfig mb e [(16, 0, 8), (17, 0, 2)] → s.hasTandem = true →
    (e.u8 16 = 0 → s.tandem.role = .standalone → Answers (.tandemConfig mb e) s rowTandemConfig mb 0 0 (begun s rowTandemConfig mb e)) ∧
    (e.u8 16 = 0 → s.tandem.role ≠ .standalone → ∃ u : State, Answers (.tandemConfig mb e) s rowTandemConfig mb 0 0 u ∧
      u.tandem.role = .standalone ∧ u.tandem.sync = .none ∧ u.tandem.epoch = s.tandem.epoch + 1 ∧ u.bell.rateHz = s.bell.soloRate ∧
      u.tandem.rank = (if s.tandem.role = .stoker then 0 else s.tandem.rank)) ∧
    (e.u8 16 = 1 → s.tandem.role = .standalone → s.tandem.raised = false → (s.tandem.gatesOpen = true → s.gateCondition = true) →
      ∃ u : State, Answers (.tandemConfig mb e) s rowTandemConfig mb 0 0 u ∧ u.tandem.role = .captain ∧ u.tandem.epoch = 1 ∧
        u.tandem.strict = e.bit 17 0 ∧ u.tandem.noTakeover = e.bit 17 1 ∧ u.bell.rateHz = 10000 ∧ u.bell.soloRate = s.bell.rateHz) ∧
    (∀ f, e.u8 16 = 2 → e.f 17 0 2 = 0 → s.tandem.role = .standalone → s.tandem.linkUp = true → s.partner = some f → claimRole f = 1 →
      ∃ u : State, Answers (.tandemConfig mb e) s rowTandemConfig mb 0 0 u ∧ u.tandem.role = .stoker ∧ u.tandem.sync = .syncing ∧
        u.bell.rateHz = 10000 ∧ u.swap.count = 0) ∧
    (e.u8 16 = 3 → s.tandem.role ≠ .standalone → ∃ u : State, Answers (.tandemConfig mb e) s rowTandemConfig mb 0 0 u ∧
      u.tandem.noTakeover = e.bit 17 1 ∧ u.tandem.strict = (if s.tandem.role = .captain then e.bit 17 0 else s.tandem.strict) ∧
      u.tandem.role = s.tandem.role)) ∧
  (∀ (s : State) (mb : Fin 129) (e : Entry), Accepted s rowRoleHandover mb e [] → s.hasTandem = true →
    (s.tandem.role = .stoker → s.tandem.gatesOpen = false → ∃ u : State,
      Answers (.roleHandover mb e) s rowRoleHandover mb 0 (resultOf [(16, 1, s.tandem.sync.num)]) u ∧ u.tandem.role = .captain ∧
        u.tandem.raised = true ∧ u.rankNow = 63 ∧ u.tandem.epoch = s.tandem.epoch + 1 ∧ u.tandem.holdoff = true ∧
        u.tandem.gatesOpen = false ∧ u.tandem.mustApply = !s.tandem.records.isEmpty) ∧
    (∀ f, s.tandem.role = .captain → s.partner = some f → claimEligible f = true → ∃ t : State, exec (.roleHandover mb e) s = .next t ∧
      t.tandem.journalSeq = s.tandem.journalSeq + 1 ∧ t.tandem.handover = some (s.tandem.journalSeq + 1) ∧ t.fw.journal = [] ∧
      (t.mbox mb.val).inExec.isSome = true)) ∧
  (∀ (s : State) (mb : Fin 129) (e : Entry), Accepted s rowClaimRankSet mb e [(16, 0, 6)] → s.hasTandem = true → e.f 16 0 6 ≠ 0 →
    e.f 16 0 6 ≠ 63 → ∃ u : State, Answers (.claimRankSet mb e) s rowClaimRankSet mb 0 0 u ∧ u.tandem.rank = e.f 16 0 6) ∧
  (∀ (s : State) (mb : Fin 129) (e : Entry), Accepted s rowPelotonConfig mb e [(16, 0, 8), (17, 0, 8)] → e.u8 16 ≤ 1 → e.u8 17 ≤ 1 →
    (e.u8 17 = 1 → s.hasTandem = true) → ∃ u : State, Answers (.pelotonConfig mb e) s rowPelotonConfig mb 0 0 u ∧
      u.peloton.joined = decide (e.u8 16 = 1) ∧ u.peloton.paired = decide (e.u8 16 = 1 ∧ e.u8 17 = 1)) ∧
  (∀ (s : State) (mb : Fin 129) (e : Entry), Accepted s rowTandemStatus mb e [(16, 0, 8), (18, 0, 16)] →
    (e.u8 16 = 0 → e.u16 18 = 0 → Answers (.tandemStatus mb e) s rowTandemStatus mb 0
      (resultOf [(16, 8, s.tandemState), (24, 8, s.tandemJournal)]) (begun s rowTandemStatus mb e)) ∧
    (e.u8 16 = 1 → e.u16 18 ≤ 128 → ∃ res : BitVec 128, Answers (.tandemStatus mb e) s rowTandemStatus mb 0 res (begun s rowTandemStatus mb e) ∧
      field res 16 4 = (tget s.tandem.lastSeq (0, 0) (e.u16 18)).1.toNat ∧
      field res 20 4 = (tget s.tandem.lastSeq (0, 0) (e.u16 18)).2.toNat)) ∧
  (∀ (s : State) (mb : Fin 129) (e : Entry), Accepted s rowFabricStatus mb e [(16, 0, 8)] → e.u8 16 ≤ 2 →
    Answers (.fabricStatus mb e) s rowFabricStatus mb 0 (resultOf [(16, 8, s.fabricLinkReg (e.u8 16))]) (begun s rowFabricStatus mb e)) ∧
  (∀ (s : State) (mb : Fin 129) (e : Entry) (c : Compared), Accepted s rowDigestRead mb e [(16, 0, 8), (17, 0, 8)] →
    e.u8 16 < s.portCount → e.u8 16 ≤ 127 → (s.port (e.u8 16)).digest.compared = some c →
    (e.u8 17 = 0 → ∃ res : BitVec 128, Answers (.digestRead mb e) s rowDigestRead mb 0 res (begun s rowDigestRead mb e) ∧
      field res 16 4 = c.number % 2 ^ 32 ∧ field res 20 1 = bit c.mismatch ∧ field res 24 8 = c.digest.toNat) ∧
    (e.u8 17 = 1 → ∃ res : BitVec 128, Answers (.digestRead mb e) s rowDigestRead mb 0 res (begun s rowDigestRead mb e) ∧
      field res 16 8 = c.partner.toNat ∧ field res 24 4 = c.settled % 2 ^ 32 ∧ field res 28 4 = c.partnerSettled % 2 ^ 32))

/-- Claims, the bell, the Tandem link, records, messages, snapshots, seals, blocks and verdicts change the pair as chapter 15 says (spec/15_tandem.md). -/
def Obligations.TandemEvents : Prop :=
  (∀ (s : State) (p : ClaimPath) (f : BitVec 32), (p = .link → s.tandem.linkUp = true) →
    (claimGood f = false → exec (.claimFrameReceived p f) s = .next (s.setPath p { s.path p with last := none })) ∧
    (claimGood f = true → (s.path p).last ≠ some f →
      exec (.claimFrameReceived p f) s = .next (s.setPath p { s.path p with last := some f })) ∧
    (claimGood f = true → (s.path p).last = some f → ∃ t : State, exec (.claimFrameReceived p f) s = .next t ∧
      t.path p = { last := some f, accepted := some f } ∧
      (s.tandem.role ≠ .stoker → claimGated f = true → t.tandem.holdoff = false))) ∧
  (∀ (s : State) (p : ClaimPath), ∃ t : State, exec (.claimPathTimeout p) s = .next t ∧ t.path p = { last := none, accepted := none }) ∧
  (∀ s : State, ∃ t : State, exec .holdoffExpiry s = .next t ∧ t.tandem.holdoff = false ∧
    (s.tandem.role ≠ .stoker → (∀ f ∈ s.claims2, claimNo f < s.ownClaim) → t.tandem.gatesOpen = true ∧ t.tandem.role = s.tandem.role)) ∧
  (∀ s : State, exec .bellInEdge s = .next (s.setTandem { s.tandem with bellInOk := true }) ∧
    ∃ t : State, exec .bellInTimeout s = .next t ∧ t.tandem.bellInOk = false ∧ (s.tandem.role ≠ .stoker → t.tandem.role = s.tandem.role)) ∧
  (∀ s : State, s.hasTandem = true → (s.tandem.linkUp = true → ∃ t : State, exec .tandemLinkDown s = .next t ∧ t.tandem.linkUp = false ∧
      t.tandem.loading = none ∧ t.tandem.role = s.tandem.role) ∧
    (s.boot.failed.contains { kind := 7, index := 0 } = false →
      exec .tandemLinkUp s = .next (s.setTandem { s.tandem with linkUp := true })) ∧
    (s.tandem.linkUp = false → s.tandem.role = .stoker →
      exec .linkDownIneligible s = .next (s.setTandem { s.tandem with linkLost := true }))) ∧
  (∀ s : State, s.roleChanged = s.setTandem { s.tandem with rejected := s.tandem.rejected + 1, rejectRole := s.tandem.role.num }) ∧
  (∀ (s : State) (r : JournalRecord), s.tandem.role = .stoker → s.tandem.sync = .syncing →
    exec (.journalRecordReceived r) s = .next (s.setTandem { s.tandem with records := s.tandem.records ++ [r] })) ∧
  (∀ (s : State) (r : JournalRecord), s.tandem.role = .stoker → s.tandem.sync = .synced →
    (r.epoch ≠ s.tandem.epoch → exec (.journalRecordReceived r) s = .next s.roleChanged) ∧
    (r.epoch = s.tandem.epoch → r.seq = (match s.tandem.records.getLast? with | some x => x.seq | none => s.tandem.journalSeq) + 1 →
      s.tandem.records.length < 100 →
      exec (.journalRecordReceived r) s = .next (s.setTandem { s.tandem with records := s.tandem.records ++ [r] }))) ∧
  (∀ (s : State) (m : MirrorMessage), s.tandem.role = .stoker → s.tandem.sync = .synced →
    (m.epoch ≠ s.tandem.epoch → exec (.mirrorMessageReceived m) s = .next s.roleChanged) ∧
    (m.epoch = s.tandem.epoch → m.serial = s.tandem.serialIn + 1 → ∃ t : State, exec (.mirrorMessageReceived m) s = .next t ∧
      t.tandem.serialIn = m.serial ∧ t.tandem.role = .stoker)) ∧
  (∀ (s : State) (ep next : BitVec 16) (b : Bool),
    (ep ≠ s.tandem.epoch → exec (.tandemControlMessage (.newEpoch ep next)) s = .next s.roleChanged ∧
      exec (.tandemControlMessage (.becomeCaptain ep next)) s = .next s.roleChanged ∧
      exec (.tandemControlMessage (.setStrict ep b)) s = .next s.roleChanged ∧
      exec (.tandemControlMessage (.becomeStandalone ep)) s = .next s.roleChanged) ∧
    (ep = s.tandem.epoch → s.tandem.role = .stoker →
      exec (.tandemControlMessage (.newEpoch ep next)) s = .next (s.setTandem { s.tandem with epoch := next }) ∧
      exec (.tandemControlMessage (.setStrict ep b)) s = .next (s.setTandem { s.tandem with strict := b }) ∧
      (∃ t : State, exec (.tandemControlMessage (.becomeStandalone ep)) s = .next t ∧ t.tandem.role = .standalone ∧ t.tandem.rank = 0) ∧
      (s.tandem.gatesOpen = false → ∃ t : State, exec (.tandemControlMessage (.becomeCaptain ep next)) s = .next t ∧
        t.tandem.role = .captain ∧ t.tandem.raised = false ∧ t.tandem.epoch = next ∧ t.tandem.holdoff = true))) ∧
  (∀ (s : State) (x : JoinSnapshot), s.tandem.role = .stoker → s.tandem.sync = .syncing → s.tandem.linkUp = true →
    s.tandem.loading = none → s.tandem.records = [] → s.tandem.mirrors = [] → x.commands = [] → x.learned = [] →
    ∃ t : State, exec (.joinSnapshotReceived x) s = .next t ∧ t.tandem.sync = .synced ∧ t.tandem.epoch = x.epoch ∧
      t.tandem.strict = x.strict ∧ t.tandem.journalSeq = x.seq ∧ t.tandem.serialIn = x.serial) ∧
  (∀ (s : State) (r : AppliedReport), r.epoch ≠ s.tandem.epoch → exec (.stokerAppliedReport r) s = .next s.roleChanged) ∧
  (∀ (s : State) (r : AppliedReport), s.tandem.role = .captain → s.tandem.handover = some r.seq → r.epoch = s.tandem.epoch →
    ∃ t : State, exec (.stokerAppliedReport r) s = .next t ∧ t.tandem.role = .stoker ∧ t.tandem.sync = .synced ∧ t.tandem.epoch = s.tandem.epoch + 1 ∧ t.tandem.handover = none) ∧
  (∀ (s : State) (h : Bool), s.tandem.role = .captain → s.fw.halted = false → ∃ t : State, exec (.sealTimer h) s = .next t ∧
    (∀ k ∈ s.portsPresent, (s.port k).digest.last + BitVec.ofNat 32 (sealDistance (s.port k).cfg.rate) ∈ (t.port k).digest.seals) ∧
    ∀ k, k ∉ s.portsPresent → t.port k = s.port k) ∧
  (∀ (s : State) (k : Fin 128) (x : SealFrame) (late : Bool), x.epoch ≠ s.tandem.epoch →
    exec (.sealReceived k x late) s = .next s.roleChanged) ∧
  (∀ (s : State) (k : Fin 128) (f : BitVec 32), s.paired = true →
    (s.tandem.role = .stoker → serialAfter 32 f.toNat (s.port k.val).digest.last.toNat = true →
      ∃ t : State, exec (.sealReceived k { epoch := s.tandem.epoch, frame := f } false) s = .next t ∧ (t.port k.val).digest.seals = (s.port k.val).digest.seals ++ [f]) ∧
    ((s.port k.val).digest.current.covers f.toNat = true → ∃ t : State, exec (.sealReceived k { epoch := s.tandem.epoch, frame := f } true) s = .next t ∧
      (t.port k.val).digest.current = { (s.port k.val).digest.current with unaligned := true })) ∧
  (∀ (s : State) (b : DigestBlock), b.epoch ≠ s.tandem.epoch → exec (.digestBlockReceived b) s = .next s.roleChanged) ∧
  (∀ (s : State) (b : DigestBlock), b.epoch = s.tandem.epoch → s.paired = true →
    ((s.port b.port.val).digest.closed = [] → ∃ t : State, exec (.digestBlockReceived b) s = .next t ∧
      (t.port b.port.val).digest.partner = (s.port b.port.val).digest.partner ++ [b]) ∧
    (∀ c, (s.port b.port.val).digest.closed = [c] → (s.port b.port.val).digest.partner = [] → c.number = b.number →
      s.blockOpen b.port.val c = false → s.blockSkip c b = false → c.digest = b.digest → c.settled = b.settled →
      ∃ t x, exec (.digestBlockReceived b) s = .next t ∧ (t.port b.port.val).digest.compared = some x ∧ x.mismatch = false ∧
        x.number = b.number ∧ (t.port b.port.val).digest.run = 0 ∧ (t.port b.port.val).digest.closed = [] ∧
        tget t.tandem.counters 0 0 = tget s.tandem.counters 0 0 + 1)) ∧
  (∀ (s : State) (k : Fin 128) (c : DigestState) (r : List DigestState), (s.port k.val).digest.closed = c :: r →
    ∃ t : State, exec (.partnerBlockTimeout k) s = .next t ∧ (t.port k.val).digest.closed = r ∧
      tget t.tandem.counters 0 2 = tget s.tandem.counters 0 2 + 1) ∧
  (∀ (s : State) (x : RefereeCodes), x.epoch ≠ s.tandem.epoch → exec (.refereeCodesReceived x) s = .next s.roleChanged) ∧
  (∀ (s : State) (x : RefereeCodes), x.epoch = s.tandem.epoch →
    (s.paired = false ∨ (s.port x.port.val).digest.run < 2 → exec (.refereeCodesReceived x) s = .next s) ∧
    (s.tandem.role = .captain → 2 ≤ (s.port x.port.val).digest.run → ∃ t : State, exec (.refereeCodesReceived x) s = .next t ∧
      (t.port x.port.val).digest.run = 0 ∧ hasCode (t.block tandemBlock).codes 31 = true ∧ t.tandem = s.tandem))

/-- A fabric link comes up or is held down by its control words, loses and regains lanes, takes credit, and passes frames on under the isolation row (spec/15_tandem.md). -/
def Obligations.FabricEvents : Prop :=
  (∀ (s : State) (m : Fin 3) (w : FabricControl), s.peloton.joined = true → s.boot.failed.contains { kind := 8, index := m.val } = false →
    s.gears.change = none → ∃ t : State, exec (.fabricLinkUp m w) s = .next t ∧ (t.link m.val).lanesUp = 0xFF ∧
      (t.link m.val).portsDown = w.portsDown ∧ (t.link m.val).state = (if s.fabricMatch m.val w then .up else .mismatch)) ∧
  (∀ (s : State) (m : Fin 3) (w : FabricControl), ((s.link m.val).state = .up ∨ (s.link m.val).state = .mismatch) →
    s.gears.change = none → ∃ t : State, exec (.fabricLinkControlWord m w) s = .next t ∧ (t.link m.val).portsDown = w.portsDown ∧
      (t.link m.val).state = (if s.fabricMatch m.val w then .up else .mismatch)) ∧
  (∀ (s : State) (m : Fin 3), s.gears.change = none → ∃ t : State, exec (.fabricLinkDown m) s = .next t ∧ (t.link m.val).state = .down ∧
    (t.link m.val).lanesUp = 0 ∧ (t.link m.val).spares = 0) ∧
  (∀ (s : State) (m : Fin 3) (lane : Fin 8), (s.link m.val).state = .up → (s.link m.val).lanesUp.getLsbD lane.val = true →
    s.gears.change = none → ∃ t : State, exec (.fabricLaneLockLoss m lane) s = .next t ∧
      ((s.link m.val).lanesUp = 0xFF → (t.link m.val).state = .up ∧ (t.link m.val).lanesUp = (if lane.val < 4 then 0xF0 else 0x0F)) ∧
      ((s.link m.val).lanesUp ≠ 0xFF → (t.link m.val).state = .down ∧ (t.link m.val).lanesUp = 0) ∧
      hasCode (t.block tandemBlock).codes 30 = true) ∧
  (∀ (s : State) (m : Fin 3), (s.link m.val).state = .up → (s.link m.val).spares ≠ 0 →
    exec (.fabricSpareTrained m) s = .next (s.setLink m.val { s.link m.val with lanesUp := 0xFF })) ∧
  (∀ (s : State) (m : Fin 3) (c : Fin 8) (n : Nat), ∃ t : State, exec (.fabricCreditReturn m c n) s = .next t ∧
    tget (t.link m.val).used 0 c.val = tget (s.link m.val).used 0 c.val - n ∧
    ∀ d, d ≠ c.val → tget (t.link m.val).used 0 d = tget (s.link m.val).used 0 d) ∧
  (∀ (s : State) (m : Fin 3) (x : FabricFrame),
    ((s.link m.val).state ≠ .up → exec (.fabricFrameArrival m x) s = .next s) ∧
    ((s.link m.val).state = .up → x.corrupt = false → s.readsQuiet = true → (s.fabricRow x.slice.val).dest.getLsbD x.port.val = false →
      ∃ t : State, exec (.fabricFrameArrival m x) s = .next t ∧ t.link m.val = s.link m.val ∧
        tget (t.pipe (pipeOf x.port.val)).isoDrop 0 x.slice.val = tget (s.pipe (pipeOf x.port.val)).isoDrop 0 x.slice.val + 1 ∧
        tget t.tandem.counters 0 10 = tget s.tandem.counters 0 10 + 1) ∧
    ((s.link m.val).state = .up → x.corrupt = false → s.readsQuiet = true → x.stomp = false → (s.fabricRow x.slice.val).dest.getLsbD x.port.val = true →
      (s.link m.val).received = [] → s.portOpen x.port.val = true → (s.port x.port.val).cfg.subscriber = false →
      x.bytes.length + 4 ≤ (s.port x.port.val).cfg.limit x.bytes →
      (s.port x.port.val).staged + cellsFor x.bytes.length ≤ (s.port x.port.val).stagingSize →
      ∃ t f, exec (.fabricFrameArrival m x) s = .next t ∧ (t.port x.port.val).staging = (s.port x.port.val).staging ++ [f] ∧
        (t.link m.val).received = [] ∧ tget t.tandem.counters 0 8 = tget s.tandem.counters 0 8 + BitVec.ofNat 64 (cellsFor x.bytes.length)))

/-! ### Frames, invariants of every step, and rules of the spec that are stated whole -/

/-- Reading commands change nothing beside their answer, and the settings commands nothing outside the part of the machine that they set (spec/02_mailbox.md, spec/03_consistency.md, spec/05_spokes.md, spec/08_rules_actions.md, spec/09_stores.md, spec/10_scheduling.md, spec/11_far_store_dram.md, spec/12_slices.md, spec/13_cadence.md, spec/14_faults.md, spec/15_tandem.md). -/
def Obligations.FamilyFrames : Prop :=
  (∀ (s t : State) (mb : Fin 129) (e : Entry) (buf : Option Bytes) (c : Instr),
    c ∈ [.nop mb e, .deviceInfo mb e, .claimQuery mb e, .fwLogRead mb e buf, .ruleBankStatus mb e, .gearStatus mb e, .patchStatus mb e,
      .fuseRead mb e, .portStatus mb e, .ruleRead mb e, .storeStatus mb e, .dramStatus mb e, .sliceStatus mb e, .vectorMapSet mb e,
      .probeRead mb e, .lineChannelStatus mb e, .faultStatusRead mb e, .wearRead mb e, .tandemStatus mb e, .fabricStatus mb e,
      .digestRead mb e] → exec c s = .next t → sameBeside t s) ∧
  (∀ (s t : State) (mb : Fin 129) (e : Entry) (c : Instr),
    c ∈ [.queueThresholdSet mb e, .ecnConfig mb e, .policerSet mb e, .shaperSet mb e, .wfqWeightSet mb e, .classSchedSet mb e,
      .schedRead mb e] → (c = .schedRead mb e → s.wordsQuiet = true) → exec c s = .next t → sameBeside t { s with sw := t.sw, ports := t.ports }) ∧
  (∀ (s t : State) (mb : Fin 129) (e : Entry), exec (.recircConfig mb e) s = .next t → sameBeside t { s with pipes := t.pipes }) ∧
  (∀ (s t : State) (mb : Fin 129) (e : Entry), 
    (∀ g, s.mboxRing mb.val (e.u16 16) = some g → e.u8 18 = 1 → e.bit 19 1 = true → (s.ring g).rx.writing = none) →
    exec (.ringPairSet mb e) s = .next t → sameBeside t { s with rings := t.rings }) ∧
  (∀ (s t : State) (mb : Fin 129) (e : Entry), exec (.sliceResize mb e) s = .next t → sameBeside t { s with slices := t.slices }) ∧
  (∀ (s t : State) (mb : Fin 129) (e : Entry) (r : ModuleReply) (c : Instr),
    c ∈ [.timeSet mb e, .timeAdjust mb e, .probeSet mb e, .perfSelect mb e, .ppsOutSet mb e, .synceOutSet mb e, .gpioSet mb e,
      .lineChannelSet mb e, .moduleAccess mb e r] → exec c s = .next t → sameBeside t { s with cad := t.cad, claims := t.claims })

/-- Every command answers a next state in every state, and leaves the waiting commands as they are (spec/95_what_each_step_holds.md). -/
def Obligations.EveryCommandCompletes : Prop :=
  (∀ (c : Instr) (s : State), ∃ t : State, exec c s = .next t ∧ t.pending = s.pending) ∧
  (∀ s : State, ∃ t : State, step s = .next t ∧ t.pending = s.pending.tail)

/-- No step clears a burned fuse: the rollback counter and the revoked keys never go back (spec/04_boot_microcode.md). -/
def Obligations.BurnedFusesStayBurned : Prop :=
  ∀ s t : State, fusesAgree s.fuses → step s = .next t → fusesAgree t.fuses ∧
    (∀ i, s.fuses.rollback.getLsbD i = true → t.fuses.rollback.getLsbD i = true) ∧
    (∀ k, s.fuses.revoked.getLsbD k = true → t.fuses.revoked.getLsbD k = true) ∧ s.fuses.rollbackValue ≤ t.fuses.rollbackValue

/-- Every step keeps what the device has written to host memory, in each address space, canonical, and a write never un-writes a byte (spec/12_slices.md, spec/16_balls.md). -/
def Obligations.HostMemoryStaysCanonical : Prop :=
  ∀ s t : State, memWf s.host.mem = true → (∀ p, memWf (tget s.host.spaces [] p) = true) → step s = .next t →
    memWf t.host.mem = true ∧ (∀ p, memWf (tget t.host.spaces [] p) = true) ∧
    (∀ a, (memAt s.host.mem a).isSome = true → (memAt t.host.mem a).isSome = true) ∧
    ∀ p a, (memAt (tget s.host.spaces [] p) a).isSome = true → (memAt (tget t.host.spaces [] p) a).isSome = true

/-- The state after reset lists no host memory, no waiting command and no burned bit of its own, and its fuse copies agree (spec/04_boot_microcode.md, spec/12_slices.md). -/
def Obligations.ResetMeetsTheInvariants : Prop :=
  memWf State.reset.host.mem = true ∧ State.reset.host.mem = [] ∧ State.reset.host.spaces = [] ∧
  fusesAgree State.reset.fuses ∧ State.reset.pending = [] ∧ State.reset.fuses.rollback = 0 ∧
  State.reset.fuses.revoked = 0

/-- The rule bank swap count starts at 0, rises by one modulo 2^16 on a completed swap, and its parity names the active bank (R65) (R65). -/
def Obligations.SwapCountNamesTheBank : Prop :=
  State.reset.swap.count = 0 ∧
  (∀ (s : State) (mb : Nat), s.swap.mb = some mb → s.switching (· == Switch.ruleBank) = false →
    s.switchSettle.swap.count.toNat = (s.swap.count.toNat + 1) % 65536 ∧ s.switchSettle.swap.mb = none) ∧
  (∀ s : State, (s.swap.mb = none ∨ s.switching (· == Switch.ruleBank) = true) → s.switchSettle.swap.count = s.swap.count) ∧
  (∀ s : State, (s.ruleBank = false ↔ s.swap.count.toNat % 2 = 0) ∧ (s.ruleBank = true ↔ s.swap.count.toNat % 2 = 1)) ∧
  (∀ s t : State, s.swap.count = 0xFFFF → t.swap.count = s.swap.count + 1 → s.ruleBank = true ∧ t.ruleBank = false ∧ t.swap.count = 0)

/-- STORE_STATUS returns TOTAL, FREE, QUEUED and LOANED of its store, ABSENT for an absent store and BAD_ARG above 9 (R254) (R254). -/
def Obligations.StoreStatusReturnsTheCounts : Prop :=
  ∀ (s : State) (mb : Fin 129) (e : Entry), Accepted s rowStoreStatus mb e [(32, 0, 4)] →
    let n := e.f 32 0 4
    let u := begun s rowStoreStatus mb e
    (n ≤ 8 → s.storePresent n = true → ∃ res : BitVec 128, Answers (.storeStatus mb e) s rowStoreStatus mb 0 res u ∧
      field res 16 4 = (s.store n).total % 2 ^ 32 ∧ field res 20 4 = (s.store n).free % 2 ^ 32 ∧
      field res 24 4 = (s.store n).queued % 2 ^ 32 ∧ field res 28 4 = (s.store n).loaned % 2 ^ 32) ∧
    (n = 9 → s.storePresent n = true → ∃ res : BitVec 128, Answers (.storeStatus mb e) s rowStoreStatus mb 0 res u ∧
      field res 16 4 = s.farTotal % 2 ^ 32 ∧ field res 20 4 = s.farFree % 2 ^ 32 ∧
      field res 24 4 = (s.farUsed - s.farLoaned) % 2 ^ 32 ∧ field res 28 4 = s.farLoaned % 2 ^ 32) ∧
    (n ≤ 9 → s.storePresent n = false → exec (.storeStatus mb e) s = .next (u.complete mb.val rowStoreStatus 0x09 32 0 0)) ∧
    (9 < n → exec (.storeStatus mb e) s = .next (u.complete mb.val rowStoreStatus 0x02 32 0 0))

/-- A frame that finds no posted buffer is dropped whole, counted in RX_NO_BUFFER, and writes nothing to the ring (R324) (R324). -/
def Obligations.FrameWithoutBufferIsDropped : Prop :=
  ∀ (s : State) (f g : Nat) (l : List Nat) (x : Frame), s.sw.hostQueue = f :: l → s.frame f = some x → s.rxWriter f = none → x.was = none →
    s.far.replayLeft = [] → s.readsQuiet = true →
    s.gears.change = none → s.globalRing x.slice x.destQueue = some g → (s.ring g).rx.state = .running →
    ((s.ring g).rx.bucket.refill s.now).positive = true → (s.ring g).rx.tail = (s.ring g).rx.head →
    ∃ t : State, exec .hostRxFrame s = .next t ∧ f ∉ t.sw.hostQueue ∧ (t.ring g).rx.noBuffer = (s.ring g).rx.noBuffer + 1 ∧
      (t.ring g).rx.bucket = ((s.ring g).rx.bucket.refill s.now).charge x.bytes.length ∧
      (t.ring g).rx.head = (s.ring g).rx.head ∧ (t.ring g).rx.tail = (s.ring g).rx.tail ∧
      (t.ring g).rx.posted = (s.ring g).rx.posted ∧ (t.ring g).rx.frames = (s.ring g).rx.frames ∧
      (t.ring g).rx.bytes = (s.ring g).rx.bytes ∧ (t.ring g).rx.truncated = (s.ring g).rx.truncated ∧ t.host.mem = s.host.mem
end

