-- ==== Sys2Proof/Laws/Tab.lean ====
section
/-! SUPPORT. The laws of sparse tables and of host memory: a read after a write, and the canonical forms that
every operation keeps. -/
namespace Sys2Proof.Machine
open Sys2Proof

/-- A table answers with an entry that it lists, or with the default. -/
theorem tget_mem_or {α : Type} (t : Tab α) (d : α) (i : Nat) : (i, tget t d i) ∈ t ∨ tget t d i = d := by
  induction t with
  | nil => exact .inr rfl
  | cons e r ih =>
    by_cases h : i = e.1
    · exact .inl (by simp [tget, h])
    · simpa [tget, h] using ih.imp_left (Or.inr ·)

theorem tget_tput_self {α : Type} (t : Tab α) (d a : α) (i : Nat) : tget (tput t i a) d i = a := by
  induction t with
  | nil => simp [tput, tget]
  | cons p r ih =>
    obtain ⟨j, b⟩ := p
    simp only [tput]
    by_cases h : i = j
    · simp [h, tget]
    · by_cases h' : i < j
      · simp [h, h', tget]
      · simp [h, h', tget, ih]

theorem tget_tput_ne {α : Type} (t : Tab α) (d a : α) {i j : Nat} (h : j ≠ i) :
    tget (tput t i a) d j = tget t d j := by
  induction t with
  | nil => simp [tput, tget, h]
  | cons p r ih =>
    obtain ⟨k, b⟩ := p
    simp only [tput]
    by_cases hk : i = k
    · subst hk; simp [tget, h]
    · by_cases h' : i < k
      · simp [hk, h', tget, h]
      · simp [hk, h', tget, ih]

theorem tget_tdel_self {α : Type} (t : Tab α) (d : α) (i : Nat) : tget (tdel t i) d i = d := by
  induction t with
  | nil => rfl
  | cons p r ih =>
    obtain ⟨j, b⟩ := p
    by_cases h : i = j <;> simp [tdel, tget, h, ih]
    · simpa [h] using ih

theorem tget_tdel_ne {α : Type} (t : Tab α) (d : α) {i j : Nat} (h : j ≠ i) :
    tget (tdel t i) d j = tget t d j := by
  induction t with
  | nil => rfl
  | cons p r ih =>
    obtain ⟨k, b⟩ := p
    by_cases hk : i = k
    · subst hk; simp [tdel, tget, h, ih]
    · simp [tdel, tget, hk, ih]

/-- A read after a write to the same index. -/
@[simp] theorem tget_tset_self {α : Type} [DecidableEq α] (t : Tab α) (d a : α) (i : Nat) : tget (tset t d i a) d i = a := by
  unfold tset
  split
  · next h => rw [tget_tdel_self, h]
  · exact tget_tput_self _ d a i

/-- A write leaves every other index alone. -/
theorem tget_tset_ne {α : Type} [DecidableEq α] (t : Tab α) (d a : α) {i j : Nat} (h : j ≠ i) :
    tget (tset t d i a) d j = tget t d j := by
  unfold tset
  split
  · exact tget_tdel_ne t d h
  · rw [tget_tput_ne _ d a h, tget_tdel_ne t d h]

theorem tget_tset {α : Type} [DecidableEq α] (t : Tab α) (d a : α) (i j : Nat) :
    tget (tset t d i a) d j = if j = i then a else tget t d j := by
  split
  · next h => rw [h, tget_tset_self]
  · next h => exact tget_tset_ne t d a h

theorem tput_keys {α : Type} (t : Tab α) (i n : Nat) (a : α) (hn : n < i)
    (h : ∀ p ∈ t, n < p.1) : ∀ p ∈ tput t i a, n < p.1 := by
  induction t with
  | nil => intro p hp; simp [tput] at hp; subst hp; exact hn
  | cons q r ih =>
    obtain ⟨j, b⟩ := q
    intro p hp
    simp only [tput] at hp
    have hr : ∀ p ∈ r, n < p.1 := fun p hp => h p (List.mem_cons_of_mem _ hp)
    have hj : n < j := h (j, b) (List.mem_cons_self ..)
    split at hp
    · rcases List.mem_cons.1 hp with e | e
      · subst e; exact hn
      · exact hr p e
    · split at hp
      · rcases List.mem_cons.1 hp with e | e
        · subst e; exact hn
        · rcases List.mem_cons.1 e with e | e
          · subst e; exact hj
          · exact hr p e
      · rcases List.mem_cons.1 hp with e | e
        · subst e; exact hj
        · exact ih hr p e

theorem tdel_subset {α : Type} (t : Tab α) (i : Nat) : ∀ p ∈ tdel t i, p ∈ t := by
  induction t with
  | nil => simp [tdel]
  | cons q r ih =>
    obtain ⟨j, b⟩ := q
    intro p hp
    simp only [tdel] at hp
    split at hp
    · exact List.mem_cons_of_mem _ (ih p hp)
    · rcases List.mem_cons.1 hp with e | e
      · subst e; exact List.mem_cons_self ..
      · exact List.mem_cons_of_mem _ (ih p e)

/-- A removal keeps the canonical form. -/
theorem tabWf_tdel {α : Type} [DecidableEq α] (t : Tab α) (d : α) (i : Nat) (h : tabWf t d = true) :
    tabWf (tdel t i) d = true := by
  induction t with
  | nil => rfl
  | cons q r ih =>
    obtain ⟨j, b⟩ := q
    simp only [tabWf, Bool.and_eq_true, decide_eq_true_eq, List.all_eq_true] at h
    simp only [tdel]
    split
    · exact ih h.2
    · simp only [tabWf, Bool.and_eq_true, decide_eq_true_eq, List.all_eq_true]
      exact ⟨⟨h.1.1, fun p hp => h.1.2 p (tdel_subset r i p hp)⟩, ih h.2⟩

theorem tabWf_tput {α : Type} [DecidableEq α] (t : Tab α) (d a : α) (i : Nat) (ha : a ≠ d) (h : tabWf t d = true) :
    tabWf (tput t i a) d = true := by
  induction t with
  | nil => simp [tput, tabWf, ha]
  | cons q r ih =>
    obtain ⟨j, b⟩ := q
    have h' := h
    simp only [tabWf, Bool.and_eq_true, decide_eq_true_eq, List.all_eq_true] at h
    simp only [tput]
    split
    · next e => subst e; simp only [tabWf, Bool.and_eq_true, decide_eq_true_eq, List.all_eq_true]; exact ⟨⟨ha, h.1.2⟩, h.2⟩
    · split
      · next hlt =>
        rw [tabWf]
        simp only [Bool.and_eq_true, decide_eq_true_eq, List.all_eq_true]
        refine ⟨⟨ha, ?_⟩, h'⟩
        intro p hp
        rcases List.mem_cons.1 hp with e | e
        · subst e; exact hlt
        · exact Nat.lt_trans hlt (h.1.2 p e)
      · next hne hlt =>
        rw [tabWf]
        simp only [Bool.and_eq_true, decide_eq_true_eq, List.all_eq_true]
        exact ⟨⟨h.1.1, tput_keys r i j a (by omega) h.1.2⟩, ih h.2⟩

/-- A write keeps the canonical form. -/
theorem tabWf_tset {α : Type} [DecidableEq α] (t : Tab α) (d a : α) (i : Nat) (h : tabWf t d = true) :
    tabWf (tset t d i a) d = true := by
  unfold tset
  split
  · exact tabWf_tdel t d i h
  · next ha => exact tabWf_tput _ d a i ha (tabWf_tdel t d i h)

/-! ### Host memory -/

theorem memAt_tput_self (m : List (Nat × Byte)) (a : Nat) (x : Byte) : memAt (tput m a x) a = some x := by
  induction m with
  | nil => simp [tput, memAt]
  | cons p r ih =>
    obtain ⟨j, b⟩ := p
    simp only [tput]
    by_cases h : a = j
    · simp [h, memAt]
    · by_cases h' : a < j
      · simp [h, h', memAt]
      · simp [h, h', memAt, ih]

theorem memAt_tput_ne (m : List (Nat × Byte)) (a : Nat) (x : Byte) {c : Nat} (h : c ≠ a) :
    memAt (tput m a x) c = memAt m c := by
  induction m with
  | nil => simp [tput, memAt, h]
  | cons p r ih =>
    obtain ⟨k, b⟩ := p
    simp only [tput]
    by_cases hk : a = k
    · subst hk; simp [memAt, h]
    · by_cases h' : a < k
      · simp [hk, h', memAt, h]
      · simp [hk, h', memAt, ih]

theorem memWf_tput (m : List (Nat × Byte)) (a : Nat) (x : Byte) (h : memWf m = true) : memWf (tput m a x) = true := by
  induction m with
  | nil => rfl
  | cons q r ih =>
    obtain ⟨j, b⟩ := q
    have h' := h
    simp only [memWf, Bool.and_eq_true, decide_eq_true_eq, List.all_eq_true] at h
    simp only [tput]
    split
    · next e => subst e; simp only [memWf, Bool.and_eq_true, decide_eq_true_eq, List.all_eq_true]; exact h
    · split
      · next hlt =>
        rw [memWf]
        simp only [Bool.and_eq_true, decide_eq_true_eq, List.all_eq_true]
        refine ⟨?_, h'⟩
        intro p hp
        rcases List.mem_cons.1 hp with e | e
        · subst e; exact hlt
        · exact Nat.lt_trans hlt (h.1 p e)
      · next hne hlt =>
        rw [memWf]
        simp only [Bool.and_eq_true, decide_eq_true_eq, List.all_eq_true]
        exact ⟨tput_keys r a j x (by omega) h.1, ih h.2⟩

/-- A device write keeps memory's canonical form. -/
theorem memWf_memPut (b : Bytes) (m : List (Nat × Byte)) (a : Nat) (h : memWf m = true) : memWf (memPut m a b) = true := by
  induction b generalizing m a with
  | nil => exact h
  | cons x r ih => exact ih _ _ (memWf_tput m _ x h)

/-- A write leaves every byte outside the written range as it was. -/
theorem memAt_memPut_ne (b : Bytes) (m : List (Nat × Byte)) (a c : Nat) (h : ∀ k < b.length, c ≠ (a + k) % 2 ^ 64) :
    memAt (memPut m a b) c = memAt m c := by
  induction b generalizing m a with
  | nil => rfl
  | cons x r ih =>
    rw [memPut, ih]
    · exact memAt_tput_ne m _ x (by simpa using h 0 (by simp))
    · intro k hk
      have := h (k + 1) (by simpa using hk)
      rwa [show a + (k + 1) = a + 1 + k by omega] at this

/-- A write puts its first byte at its address when it does not wrap onto it. -/
theorem memAt_memPut_head (x : Byte) (r : Bytes) (m : List (Nat × Byte)) (a : Nat) (h : a + r.length < 2 ^ 64) :
    memAt (memPut m a (x :: r)) a = some x := by
  rw [memPut, memAt_memPut_ne]
  · rw [Nat.mod_eq_of_lt (by omega)]; exact memAt_tput_self m a x
  · intro k hk
    rw [Nat.mod_eq_of_lt (by omega)]
    omega

/-! ### Lists of operations -/

theorem forAll_nil {α : Type} (s : State) (f : α → State → State) : forAll [] s f = s := rfl

theorem forAll_cons {α : Type} (a : α) (l : List α) (s : State) (f : α → State → State) :
    forAll (a :: l) s f = forAll l (f a s) f := rfl

/-- What every operation of a list keeps, the list keeps. -/
theorem forAll_keeps {α : Type} (P : State → Prop) (f : α → State → State) (hf : ∀ a s, P s → P (f a s))
    (l : List α) (s : State) (h : P s) : P (forAll l s f) := by
  induction l generalizing s with
  | nil => exact h
  | cons a r ih => exact ih _ (hf a s h)

/-- A part of the state that no operation of a list changes is unchanged by the list. -/
theorem forAll_proj {α β : Type} (p : State → β) (f : α → State → State) (hf : ∀ a s, p (f a s) = p s)
    (l : List α) (s : State) : p (forAll l s f) = p s := by
  induction l generalizing s with
  | nil => rfl
  | cons a r ih => rw [forAll_cons, ih, hf]

end Sys2Proof.Machine
end

