-- ==== Sys2Proof/Laws/State.lean ====
section
/-! SUPPORT. For each update of a part of the state: what it writes, and each field that it leaves. -/
namespace Sys2Proof.Machine
open Sys2Proof

/-! ### setMbox -/

@[simp] theorem State.setMbox_pending (s : State) (n : Nat) (x : Mailbox) : (s.setMbox n x).pending = s.pending := rfl
@[simp] theorem State.setMbox_freeIx (s : State) (n : Nat) (x : Mailbox) : (s.setMbox n x).freeIx = s.freeIx := rfl
@[simp] theorem State.setMbox_balls (s : State) (n : Nat) (x : Mailbox) : (s.setMbox n x).balls = s.balls := rfl
@[simp] theorem State.setMbox_boot (s : State) (n : Nat) (x : Mailbox) : (s.setMbox n x).boot = s.boot := rfl
@[simp] theorem State.setMbox_fuses (s : State) (n : Nat) (x : Mailbox) : (s.setMbox n x).fuses = s.fuses := rfl
@[simp] theorem State.setMbox_flash (s : State) (n : Nat) (x : Mailbox) : (s.setMbox n x).flash = s.flash := rfl
@[simp] theorem State.setMbox_fw (s : State) (n : Nat) (x : Mailbox) : (s.setMbox n x).fw = s.fw := rfl
@[simp] theorem State.setMbox_claims (s : State) (n : Nat) (x : Mailbox) : (s.setMbox n x).claims = s.claims := rfl
@[simp] theorem State.setMbox_gears (s : State) (n : Nat) (x : Mailbox) : (s.setMbox n x).gears = s.gears := rfl
@[simp] theorem State.setMbox_swap (s : State) (n : Nat) (x : Mailbox) : (s.setMbox n x).swap = s.swap := rfl
@[simp] theorem State.setMbox_fences (s : State) (n : Nat) (x : Mailbox) : (s.setMbox n x).fences = s.fences := rfl
@[simp] theorem State.setMbox_hostStamp (s : State) (n : Nat) (x : Mailbox) : (s.setMbox n x).hostStamp = s.hostStamp := rfl
@[simp] theorem State.setMbox_host (s : State) (n : Nat) (x : Mailbox) : (s.setMbox n x).host = s.host := rfl
@[simp] theorem State.setMbox_slices (s : State) (n : Nat) (x : Mailbox) : (s.setMbox n x).slices = s.slices := rfl
@[simp] theorem State.setMbox_undo (s : State) (n : Nat) (x : Mailbox) : (s.setMbox n x).undo = s.undo := rfl
@[simp] theorem State.setMbox_rings (s : State) (n : Nat) (x : Mailbox) : (s.setMbox n x).rings = s.rings := rfl
@[simp] theorem State.setMbox_cad (s : State) (n : Nat) (x : Mailbox) : (s.setMbox n x).cad = s.cad := rfl
@[simp] theorem State.setMbox_blocks (s : State) (n : Nat) (x : Mailbox) : (s.setMbox n x).blocks = s.blocks := rfl
@[simp] theorem State.setMbox_bell (s : State) (n : Nat) (x : Mailbox) : (s.setMbox n x).bell = s.bell := rfl
@[simp] theorem State.setMbox_wear (s : State) (n : Nat) (x : Mailbox) : (s.setMbox n x).wear = s.wear := rfl
@[simp] theorem State.setMbox_fenced (s : State) (n : Nat) (x : Mailbox) : (s.setMbox n x).fenced = s.fenced := rfl
@[simp] theorem State.setMbox_bad (s : State) (n : Nat) (x : Mailbox) : (s.setMbox n x).bad = s.bad := rfl
@[simp] theorem State.setMbox_ports (s : State) (n : Nat) (x : Mailbox) : (s.setMbox n x).ports = s.ports := rfl
@[simp] theorem State.setMbox_lanes (s : State) (n : Nat) (x : Mailbox) : (s.setMbox n x).lanes = s.lanes := rfl
@[simp] theorem State.setMbox_pipes (s : State) (n : Nat) (x : Mailbox) : (s.setMbox n x).pipes = s.pipes := rfl
@[simp] theorem State.setMbox_ctl (s : State) (n : Nat) (x : Mailbox) : (s.setMbox n x).ctl = s.ctl := rfl
@[simp] theorem State.setMbox_tables (s : State) (n : Nat) (x : Mailbox) : (s.setMbox n x).tables = s.tables := rfl
@[simp] theorem State.setMbox_sw (s : State) (n : Nat) (x : Mailbox) : (s.setMbox n x).sw = s.sw := rfl
@[simp] theorem State.setMbox_far (s : State) (n : Nat) (x : Mailbox) : (s.setMbox n x).far = s.far := rfl
@[simp] theorem State.setMbox_tandem (s : State) (n : Nat) (x : Mailbox) : (s.setMbox n x).tandem = s.tandem := rfl
@[simp] theorem State.setMbox_peloton (s : State) (n : Nat) (x : Mailbox) : (s.setMbox n x).peloton = s.peloton := rfl
@[simp] theorem State.setMbox_mbox (s : State) (n : Nat) (x : Mailbox) : (s.setMbox n x).mbox n = x := tget_tset_self ..
theorem State.setMbox_mbox_ne (s : State) (n : Nat) (x : Mailbox) {m : Nat} (h : m ≠ n) : (s.setMbox n x).mbox m = s.mbox m :=
  tget_tset_ne _ _ _ h

/-! ### setSlice -/

@[simp] theorem State.setSlice_pending (s : State) (n : Nat) (x : Slice) : (s.setSlice n x).pending = s.pending := rfl
@[simp] theorem State.setSlice_freeIx (s : State) (n : Nat) (x : Slice) : (s.setSlice n x).freeIx = s.freeIx := rfl
@[simp] theorem State.setSlice_balls (s : State) (n : Nat) (x : Slice) : (s.setSlice n x).balls = s.balls := rfl
@[simp] theorem State.setSlice_boot (s : State) (n : Nat) (x : Slice) : (s.setSlice n x).boot = s.boot := rfl
@[simp] theorem State.setSlice_fuses (s : State) (n : Nat) (x : Slice) : (s.setSlice n x).fuses = s.fuses := rfl
@[simp] theorem State.setSlice_flash (s : State) (n : Nat) (x : Slice) : (s.setSlice n x).flash = s.flash := rfl
@[simp] theorem State.setSlice_fw (s : State) (n : Nat) (x : Slice) : (s.setSlice n x).fw = s.fw := rfl
@[simp] theorem State.setSlice_claims (s : State) (n : Nat) (x : Slice) : (s.setSlice n x).claims = s.claims := rfl
@[simp] theorem State.setSlice_mboxes (s : State) (n : Nat) (x : Slice) : (s.setSlice n x).mboxes = s.mboxes := rfl
@[simp] theorem State.setSlice_gears (s : State) (n : Nat) (x : Slice) : (s.setSlice n x).gears = s.gears := rfl
@[simp] theorem State.setSlice_swap (s : State) (n : Nat) (x : Slice) : (s.setSlice n x).swap = s.swap := rfl
@[simp] theorem State.setSlice_fences (s : State) (n : Nat) (x : Slice) : (s.setSlice n x).fences = s.fences := rfl
@[simp] theorem State.setSlice_hostStamp (s : State) (n : Nat) (x : Slice) : (s.setSlice n x).hostStamp = s.hostStamp := rfl
@[simp] theorem State.setSlice_host (s : State) (n : Nat) (x : Slice) : (s.setSlice n x).host = s.host := rfl
@[simp] theorem State.setSlice_undo (s : State) (n : Nat) (x : Slice) : (s.setSlice n x).undo = s.undo := rfl
@[simp] theorem State.setSlice_rings (s : State) (n : Nat) (x : Slice) : (s.setSlice n x).rings = s.rings := rfl
@[simp] theorem State.setSlice_cad (s : State) (n : Nat) (x : Slice) : (s.setSlice n x).cad = s.cad := rfl
@[simp] theorem State.setSlice_blocks (s : State) (n : Nat) (x : Slice) : (s.setSlice n x).blocks = s.blocks := rfl
@[simp] theorem State.setSlice_bell (s : State) (n : Nat) (x : Slice) : (s.setSlice n x).bell = s.bell := rfl
@[simp] theorem State.setSlice_wear (s : State) (n : Nat) (x : Slice) : (s.setSlice n x).wear = s.wear := rfl
@[simp] theorem State.setSlice_fenced (s : State) (n : Nat) (x : Slice) : (s.setSlice n x).fenced = s.fenced := rfl
@[simp] theorem State.setSlice_bad (s : State) (n : Nat) (x : Slice) : (s.setSlice n x).bad = s.bad := rfl
@[simp] theorem State.setSlice_ports (s : State) (n : Nat) (x : Slice) : (s.setSlice n x).ports = s.ports := rfl
@[simp] theorem State.setSlice_lanes (s : State) (n : Nat) (x : Slice) : (s.setSlice n x).lanes = s.lanes := rfl
@[simp] theorem State.setSlice_pipes (s : State) (n : Nat) (x : Slice) : (s.setSlice n x).pipes = s.pipes := rfl
@[simp] theorem State.setSlice_ctl (s : State) (n : Nat) (x : Slice) : (s.setSlice n x).ctl = s.ctl := rfl
@[simp] theorem State.setSlice_tables (s : State) (n : Nat) (x : Slice) : (s.setSlice n x).tables = s.tables := rfl
@[simp] theorem State.setSlice_sw (s : State) (n : Nat) (x : Slice) : (s.setSlice n x).sw = s.sw := rfl
@[simp] theorem State.setSlice_far (s : State) (n : Nat) (x : Slice) : (s.setSlice n x).far = s.far := rfl
@[simp] theorem State.setSlice_tandem (s : State) (n : Nat) (x : Slice) : (s.setSlice n x).tandem = s.tandem := rfl
@[simp] theorem State.setSlice_peloton (s : State) (n : Nat) (x : Slice) : (s.setSlice n x).peloton = s.peloton := rfl
@[simp] theorem State.setSlice_slice (s : State) (n : Nat) (x : Slice) : (s.setSlice n x).slice n = x := tget_tset_self ..
theorem State.setSlice_slice_ne (s : State) (n : Nat) (x : Slice) {m : Nat} (h : m ≠ n) : (s.setSlice n x).slice m = s.slice m :=
  tget_tset_ne _ _ _ h

/-! ### setRing -/

@[simp] theorem State.setRing_pending (s : State) (n : Nat) (x : RingPair) : (s.setRing n x).pending = s.pending := rfl
@[simp] theorem State.setRing_freeIx (s : State) (n : Nat) (x : RingPair) : (s.setRing n x).freeIx = s.freeIx := rfl
@[simp] theorem State.setRing_balls (s : State) (n : Nat) (x : RingPair) : (s.setRing n x).balls = s.balls := rfl
@[simp] theorem State.setRing_boot (s : State) (n : Nat) (x : RingPair) : (s.setRing n x).boot = s.boot := rfl
@[simp] theorem State.setRing_fuses (s : State) (n : Nat) (x : RingPair) : (s.setRing n x).fuses = s.fuses := rfl
@[simp] theorem State.setRing_flash (s : State) (n : Nat) (x : RingPair) : (s.setRing n x).flash = s.flash := rfl
@[simp] theorem State.setRing_fw (s : State) (n : Nat) (x : RingPair) : (s.setRing n x).fw = s.fw := rfl
@[simp] theorem State.setRing_claims (s : State) (n : Nat) (x : RingPair) : (s.setRing n x).claims = s.claims := rfl
@[simp] theorem State.setRing_mboxes (s : State) (n : Nat) (x : RingPair) : (s.setRing n x).mboxes = s.mboxes := rfl
@[simp] theorem State.setRing_gears (s : State) (n : Nat) (x : RingPair) : (s.setRing n x).gears = s.gears := rfl
@[simp] theorem State.setRing_swap (s : State) (n : Nat) (x : RingPair) : (s.setRing n x).swap = s.swap := rfl
@[simp] theorem State.setRing_fences (s : State) (n : Nat) (x : RingPair) : (s.setRing n x).fences = s.fences := rfl
@[simp] theorem State.setRing_hostStamp (s : State) (n : Nat) (x : RingPair) : (s.setRing n x).hostStamp = s.hostStamp := rfl
@[simp] theorem State.setRing_host (s : State) (n : Nat) (x : RingPair) : (s.setRing n x).host = s.host := rfl
@[simp] theorem State.setRing_slices (s : State) (n : Nat) (x : RingPair) : (s.setRing n x).slices = s.slices := rfl
@[simp] theorem State.setRing_undo (s : State) (n : Nat) (x : RingPair) : (s.setRing n x).undo = s.undo := rfl
@[simp] theorem State.setRing_cad (s : State) (n : Nat) (x : RingPair) : (s.setRing n x).cad = s.cad := rfl
@[simp] theorem State.setRing_blocks (s : State) (n : Nat) (x : RingPair) : (s.setRing n x).blocks = s.blocks := rfl
@[simp] theorem State.setRing_bell (s : State) (n : Nat) (x : RingPair) : (s.setRing n x).bell = s.bell := rfl
@[simp] theorem State.setRing_wear (s : State) (n : Nat) (x : RingPair) : (s.setRing n x).wear = s.wear := rfl
@[simp] theorem State.setRing_fenced (s : State) (n : Nat) (x : RingPair) : (s.setRing n x).fenced = s.fenced := rfl
@[simp] theorem State.setRing_bad (s : State) (n : Nat) (x : RingPair) : (s.setRing n x).bad = s.bad := rfl
@[simp] theorem State.setRing_ports (s : State) (n : Nat) (x : RingPair) : (s.setRing n x).ports = s.ports := rfl
@[simp] theorem State.setRing_lanes (s : State) (n : Nat) (x : RingPair) : (s.setRing n x).lanes = s.lanes := rfl
@[simp] theorem State.setRing_pipes (s : State) (n : Nat) (x : RingPair) : (s.setRing n x).pipes = s.pipes := rfl
@[simp] theorem State.setRing_ctl (s : State) (n : Nat) (x : RingPair) : (s.setRing n x).ctl = s.ctl := rfl
@[simp] theorem State.setRing_tables (s : State) (n : Nat) (x : RingPair) : (s.setRing n x).tables = s.tables := rfl
@[simp] theorem State.setRing_sw (s : State) (n : Nat) (x : RingPair) : (s.setRing n x).sw = s.sw := rfl
@[simp] theorem State.setRing_far (s : State) (n : Nat) (x : RingPair) : (s.setRing n x).far = s.far := rfl
@[simp] theorem State.setRing_tandem (s : State) (n : Nat) (x : RingPair) : (s.setRing n x).tandem = s.tandem := rfl
@[simp] theorem State.setRing_peloton (s : State) (n : Nat) (x : RingPair) : (s.setRing n x).peloton = s.peloton := rfl
@[simp] theorem State.setRing_ring (s : State) (n : Nat) (x : RingPair) : (s.setRing n x).ring n = x := tget_tset_self ..
theorem State.setRing_ring_ne (s : State) (n : Nat) (x : RingPair) {m : Nat} (h : m ≠ n) : (s.setRing n x).ring m = s.ring m :=
  tget_tset_ne _ _ _ h

/-! ### setBlock -/

@[simp] theorem State.setBlock_pending (s : State) (n : Nat) (x : Block) : (s.setBlock n x).pending = s.pending := rfl
@[simp] theorem State.setBlock_freeIx (s : State) (n : Nat) (x : Block) : (s.setBlock n x).freeIx = s.freeIx := rfl
@[simp] theorem State.setBlock_balls (s : State) (n : Nat) (x : Block) : (s.setBlock n x).balls = s.balls := rfl
@[simp] theorem State.setBlock_boot (s : State) (n : Nat) (x : Block) : (s.setBlock n x).boot = s.boot := rfl
@[simp] theorem State.setBlock_fuses (s : State) (n : Nat) (x : Block) : (s.setBlock n x).fuses = s.fuses := rfl
@[simp] theorem State.setBlock_flash (s : State) (n : Nat) (x : Block) : (s.setBlock n x).flash = s.flash := rfl
@[simp] theorem State.setBlock_fw (s : State) (n : Nat) (x : Block) : (s.setBlock n x).fw = s.fw := rfl
@[simp] theorem State.setBlock_claims (s : State) (n : Nat) (x : Block) : (s.setBlock n x).claims = s.claims := rfl
@[simp] theorem State.setBlock_mboxes (s : State) (n : Nat) (x : Block) : (s.setBlock n x).mboxes = s.mboxes := rfl
@[simp] theorem State.setBlock_gears (s : State) (n : Nat) (x : Block) : (s.setBlock n x).gears = s.gears := rfl
@[simp] theorem State.setBlock_swap (s : State) (n : Nat) (x : Block) : (s.setBlock n x).swap = s.swap := rfl
@[simp] theorem State.setBlock_fences (s : State) (n : Nat) (x : Block) : (s.setBlock n x).fences = s.fences := rfl
@[simp] theorem State.setBlock_hostStamp (s : State) (n : Nat) (x : Block) : (s.setBlock n x).hostStamp = s.hostStamp := rfl
@[simp] theorem State.setBlock_host (s : State) (n : Nat) (x : Block) : (s.setBlock n x).host = s.host := rfl
@[simp] theorem State.setBlock_slices (s : State) (n : Nat) (x : Block) : (s.setBlock n x).slices = s.slices := rfl
@[simp] theorem State.setBlock_undo (s : State) (n : Nat) (x : Block) : (s.setBlock n x).undo = s.undo := rfl
@[simp] theorem State.setBlock_rings (s : State) (n : Nat) (x : Block) : (s.setBlock n x).rings = s.rings := rfl
@[simp] theorem State.setBlock_cad (s : State) (n : Nat) (x : Block) : (s.setBlock n x).cad = s.cad := rfl
@[simp] theorem State.setBlock_bell (s : State) (n : Nat) (x : Block) : (s.setBlock n x).bell = s.bell := rfl
@[simp] theorem State.setBlock_wear (s : State) (n : Nat) (x : Block) : (s.setBlock n x).wear = s.wear := rfl
@[simp] theorem State.setBlock_fenced (s : State) (n : Nat) (x : Block) : (s.setBlock n x).fenced = s.fenced := rfl
@[simp] theorem State.setBlock_bad (s : State) (n : Nat) (x : Block) : (s.setBlock n x).bad = s.bad := rfl
@[simp] theorem State.setBlock_ports (s : State) (n : Nat) (x : Block) : (s.setBlock n x).ports = s.ports := rfl
@[simp] theorem State.setBlock_lanes (s : State) (n : Nat) (x : Block) : (s.setBlock n x).lanes = s.lanes := rfl
@[simp] theorem State.setBlock_pipes (s : State) (n : Nat) (x : Block) : (s.setBlock n x).pipes = s.pipes := rfl
@[simp] theorem State.setBlock_ctl (s : State) (n : Nat) (x : Block) : (s.setBlock n x).ctl = s.ctl := rfl
@[simp] theorem State.setBlock_tables (s : State) (n : Nat) (x : Block) : (s.setBlock n x).tables = s.tables := rfl
@[simp] theorem State.setBlock_sw (s : State) (n : Nat) (x : Block) : (s.setBlock n x).sw = s.sw := rfl
@[simp] theorem State.setBlock_far (s : State) (n : Nat) (x : Block) : (s.setBlock n x).far = s.far := rfl
@[simp] theorem State.setBlock_tandem (s : State) (n : Nat) (x : Block) : (s.setBlock n x).tandem = s.tandem := rfl
@[simp] theorem State.setBlock_peloton (s : State) (n : Nat) (x : Block) : (s.setBlock n x).peloton = s.peloton := rfl
@[simp] theorem State.setBlock_block (s : State) (n : Nat) (x : Block) : (s.setBlock n x).block n = x := tget_tset_self ..
theorem State.setBlock_block_ne (s : State) (n : Nat) (x : Block) {m : Nat} (h : m ≠ n) : (s.setBlock n x).block m = s.block m :=
  tget_tset_ne _ _ _ h

/-! ### setPort -/

@[simp] theorem State.setPort_pending (s : State) (n : Nat) (x : Port) : (s.setPort n x).pending = s.pending := rfl
@[simp] theorem State.setPort_freeIx (s : State) (n : Nat) (x : Port) : (s.setPort n x).freeIx = s.freeIx := rfl
@[simp] theorem State.setPort_balls (s : State) (n : Nat) (x : Port) : (s.setPort n x).balls = s.balls := rfl
@[simp] theorem State.setPort_boot (s : State) (n : Nat) (x : Port) : (s.setPort n x).boot = s.boot := rfl
@[simp] theorem State.setPort_fuses (s : State) (n : Nat) (x : Port) : (s.setPort n x).fuses = s.fuses := rfl
@[simp] theorem State.setPort_flash (s : State) (n : Nat) (x : Port) : (s.setPort n x).flash = s.flash := rfl
@[simp] theorem State.setPort_fw (s : State) (n : Nat) (x : Port) : (s.setPort n x).fw = s.fw := rfl
@[simp] theorem State.setPort_claims (s : State) (n : Nat) (x : Port) : (s.setPort n x).claims = s.claims := rfl
@[simp] theorem State.setPort_mboxes (s : State) (n : Nat) (x : Port) : (s.setPort n x).mboxes = s.mboxes := rfl
@[simp] theorem State.setPort_gears (s : State) (n : Nat) (x : Port) : (s.setPort n x).gears = s.gears := rfl
@[simp] theorem State.setPort_swap (s : State) (n : Nat) (x : Port) : (s.setPort n x).swap = s.swap := rfl
@[simp] theorem State.setPort_fences (s : State) (n : Nat) (x : Port) : (s.setPort n x).fences = s.fences := rfl
@[simp] theorem State.setPort_hostStamp (s : State) (n : Nat) (x : Port) : (s.setPort n x).hostStamp = s.hostStamp := rfl
@[simp] theorem State.setPort_host (s : State) (n : Nat) (x : Port) : (s.setPort n x).host = s.host := rfl
@[simp] theorem State.setPort_slices (s : State) (n : Nat) (x : Port) : (s.setPort n x).slices = s.slices := rfl
@[simp] theorem State.setPort_undo (s : State) (n : Nat) (x : Port) : (s.setPort n x).undo = s.undo := rfl
@[simp] theorem State.setPort_rings (s : State) (n : Nat) (x : Port) : (s.setPort n x).rings = s.rings := rfl
@[simp] theorem State.setPort_cad (s : State) (n : Nat) (x : Port) : (s.setPort n x).cad = s.cad := rfl
@[simp] theorem State.setPort_blocks (s : State) (n : Nat) (x : Port) : (s.setPort n x).blocks = s.blocks := rfl
@[simp] theorem State.setPort_bell (s : State) (n : Nat) (x : Port) : (s.setPort n x).bell = s.bell := rfl
@[simp] theorem State.setPort_wear (s : State) (n : Nat) (x : Port) : (s.setPort n x).wear = s.wear := rfl
@[simp] theorem State.setPort_fenced (s : State) (n : Nat) (x : Port) : (s.setPort n x).fenced = s.fenced := rfl
@[simp] theorem State.setPort_bad (s : State) (n : Nat) (x : Port) : (s.setPort n x).bad = s.bad := rfl
@[simp] theorem State.setPort_lanes (s : State) (n : Nat) (x : Port) : (s.setPort n x).lanes = s.lanes := rfl
@[simp] theorem State.setPort_pipes (s : State) (n : Nat) (x : Port) : (s.setPort n x).pipes = s.pipes := rfl
@[simp] theorem State.setPort_ctl (s : State) (n : Nat) (x : Port) : (s.setPort n x).ctl = s.ctl := rfl
@[simp] theorem State.setPort_tables (s : State) (n : Nat) (x : Port) : (s.setPort n x).tables = s.tables := rfl
@[simp] theorem State.setPort_sw (s : State) (n : Nat) (x : Port) : (s.setPort n x).sw = s.sw := rfl
@[simp] theorem State.setPort_far (s : State) (n : Nat) (x : Port) : (s.setPort n x).far = s.far := rfl
@[simp] theorem State.setPort_tandem (s : State) (n : Nat) (x : Port) : (s.setPort n x).tandem = s.tandem := rfl
@[simp] theorem State.setPort_peloton (s : State) (n : Nat) (x : Port) : (s.setPort n x).peloton = s.peloton := rfl
@[simp] theorem State.setPort_port (s : State) (n : Nat) (x : Port) : (s.setPort n x).port n = x := tget_tset_self ..
theorem State.setPort_port_ne (s : State) (n : Nat) (x : Port) {m : Nat} (h : m ≠ n) : (s.setPort n x).port m = s.port m :=
  tget_tset_ne _ _ _ h

/-! ### setLane -/

@[simp] theorem State.setLane_pending (s : State) (n : Nat) (x : Lane) : (s.setLane n x).pending = s.pending := rfl
@[simp] theorem State.setLane_freeIx (s : State) (n : Nat) (x : Lane) : (s.setLane n x).freeIx = s.freeIx := rfl
@[simp] theorem State.setLane_balls (s : State) (n : Nat) (x : Lane) : (s.setLane n x).balls = s.balls := rfl
@[simp] theorem State.setLane_boot (s : State) (n : Nat) (x : Lane) : (s.setLane n x).boot = s.boot := rfl
@[simp] theorem State.setLane_fuses (s : State) (n : Nat) (x : Lane) : (s.setLane n x).fuses = s.fuses := rfl
@[simp] theorem State.setLane_flash (s : State) (n : Nat) (x : Lane) : (s.setLane n x).flash = s.flash := rfl
@[simp] theorem State.setLane_fw (s : State) (n : Nat) (x : Lane) : (s.setLane n x).fw = s.fw := rfl
@[simp] theorem State.setLane_claims (s : State) (n : Nat) (x : Lane) : (s.setLane n x).claims = s.claims := rfl
@[simp] theorem State.setLane_mboxes (s : State) (n : Nat) (x : Lane) : (s.setLane n x).mboxes = s.mboxes := rfl
@[simp] theorem State.setLane_gears (s : State) (n : Nat) (x : Lane) : (s.setLane n x).gears = s.gears := rfl
@[simp] theorem State.setLane_swap (s : State) (n : Nat) (x : Lane) : (s.setLane n x).swap = s.swap := rfl
@[simp] theorem State.setLane_fences (s : State) (n : Nat) (x : Lane) : (s.setLane n x).fences = s.fences := rfl
@[simp] theorem State.setLane_hostStamp (s : State) (n : Nat) (x : Lane) : (s.setLane n x).hostStamp = s.hostStamp := rfl
@[simp] theorem State.setLane_host (s : State) (n : Nat) (x : Lane) : (s.setLane n x).host = s.host := rfl
@[simp] theorem State.setLane_slices (s : State) (n : Nat) (x : Lane) : (s.setLane n x).slices = s.slices := rfl
@[simp] theorem State.setLane_undo (s : State) (n : Nat) (x : Lane) : (s.setLane n x).undo = s.undo := rfl
@[simp] theorem State.setLane_rings (s : State) (n : Nat) (x : Lane) : (s.setLane n x).rings = s.rings := rfl
@[simp] theorem State.setLane_cad (s : State) (n : Nat) (x : Lane) : (s.setLane n x).cad = s.cad := rfl
@[simp] theorem State.setLane_blocks (s : State) (n : Nat) (x : Lane) : (s.setLane n x).blocks = s.blocks := rfl
@[simp] theorem State.setLane_bell (s : State) (n : Nat) (x : Lane) : (s.setLane n x).bell = s.bell := rfl
@[simp] theorem State.setLane_wear (s : State) (n : Nat) (x : Lane) : (s.setLane n x).wear = s.wear := rfl
@[simp] theorem State.setLane_fenced (s : State) (n : Nat) (x : Lane) : (s.setLane n x).fenced = s.fenced := rfl
@[simp] theorem State.setLane_bad (s : State) (n : Nat) (x : Lane) : (s.setLane n x).bad = s.bad := rfl
@[simp] theorem State.setLane_ports (s : State) (n : Nat) (x : Lane) : (s.setLane n x).ports = s.ports := rfl
@[simp] theorem State.setLane_pipes (s : State) (n : Nat) (x : Lane) : (s.setLane n x).pipes = s.pipes := rfl
@[simp] theorem State.setLane_ctl (s : State) (n : Nat) (x : Lane) : (s.setLane n x).ctl = s.ctl := rfl
@[simp] theorem State.setLane_tables (s : State) (n : Nat) (x : Lane) : (s.setLane n x).tables = s.tables := rfl
@[simp] theorem State.setLane_sw (s : State) (n : Nat) (x : Lane) : (s.setLane n x).sw = s.sw := rfl
@[simp] theorem State.setLane_far (s : State) (n : Nat) (x : Lane) : (s.setLane n x).far = s.far := rfl
@[simp] theorem State.setLane_tandem (s : State) (n : Nat) (x : Lane) : (s.setLane n x).tandem = s.tandem := rfl
@[simp] theorem State.setLane_peloton (s : State) (n : Nat) (x : Lane) : (s.setLane n x).peloton = s.peloton := rfl
@[simp] theorem State.setLane_lane (s : State) (n : Nat) (x : Lane) : (s.setLane n x).lane n = x := tget_tset_self ..
theorem State.setLane_lane_ne (s : State) (n : Nat) (x : Lane) {m : Nat} (h : m ≠ n) : (s.setLane n x).lane m = s.lane m :=
  tget_tset_ne _ _ _ h

/-! ### setPipe -/

@[simp] theorem State.setPipe_pending (s : State) (n : Nat) (x : Pipe) : (s.setPipe n x).pending = s.pending := rfl
@[simp] theorem State.setPipe_freeIx (s : State) (n : Nat) (x : Pipe) : (s.setPipe n x).freeIx = s.freeIx := rfl
@[simp] theorem State.setPipe_balls (s : State) (n : Nat) (x : Pipe) : (s.setPipe n x).balls = s.balls := rfl
@[simp] theorem State.setPipe_boot (s : State) (n : Nat) (x : Pipe) : (s.setPipe n x).boot = s.boot := rfl
@[simp] theorem State.setPipe_fuses (s : State) (n : Nat) (x : Pipe) : (s.setPipe n x).fuses = s.fuses := rfl
@[simp] theorem State.setPipe_flash (s : State) (n : Nat) (x : Pipe) : (s.setPipe n x).flash = s.flash := rfl
@[simp] theorem State.setPipe_fw (s : State) (n : Nat) (x : Pipe) : (s.setPipe n x).fw = s.fw := rfl
@[simp] theorem State.setPipe_claims (s : State) (n : Nat) (x : Pipe) : (s.setPipe n x).claims = s.claims := rfl
@[simp] theorem State.setPipe_mboxes (s : State) (n : Nat) (x : Pipe) : (s.setPipe n x).mboxes = s.mboxes := rfl
@[simp] theorem State.setPipe_gears (s : State) (n : Nat) (x : Pipe) : (s.setPipe n x).gears = s.gears := rfl
@[simp] theorem State.setPipe_swap (s : State) (n : Nat) (x : Pipe) : (s.setPipe n x).swap = s.swap := rfl
@[simp] theorem State.setPipe_fences (s : State) (n : Nat) (x : Pipe) : (s.setPipe n x).fences = s.fences := rfl
@[simp] theorem State.setPipe_hostStamp (s : State) (n : Nat) (x : Pipe) : (s.setPipe n x).hostStamp = s.hostStamp := rfl
@[simp] theorem State.setPipe_host (s : State) (n : Nat) (x : Pipe) : (s.setPipe n x).host = s.host := rfl
@[simp] theorem State.setPipe_slices (s : State) (n : Nat) (x : Pipe) : (s.setPipe n x).slices = s.slices := rfl
@[simp] theorem State.setPipe_undo (s : State) (n : Nat) (x : Pipe) : (s.setPipe n x).undo = s.undo := rfl
@[simp] theorem State.setPipe_rings (s : State) (n : Nat) (x : Pipe) : (s.setPipe n x).rings = s.rings := rfl
@[simp] theorem State.setPipe_cad (s : State) (n : Nat) (x : Pipe) : (s.setPipe n x).cad = s.cad := rfl
@[simp] theorem State.setPipe_blocks (s : State) (n : Nat) (x : Pipe) : (s.setPipe n x).blocks = s.blocks := rfl
@[simp] theorem State.setPipe_bell (s : State) (n : Nat) (x : Pipe) : (s.setPipe n x).bell = s.bell := rfl
@[simp] theorem State.setPipe_wear (s : State) (n : Nat) (x : Pipe) : (s.setPipe n x).wear = s.wear := rfl
@[simp] theorem State.setPipe_fenced (s : State) (n : Nat) (x : Pipe) : (s.setPipe n x).fenced = s.fenced := rfl
@[simp] theorem State.setPipe_bad (s : State) (n : Nat) (x : Pipe) : (s.setPipe n x).bad = s.bad := rfl
@[simp] theorem State.setPipe_ports (s : State) (n : Nat) (x : Pipe) : (s.setPipe n x).ports = s.ports := rfl
@[simp] theorem State.setPipe_lanes (s : State) (n : Nat) (x : Pipe) : (s.setPipe n x).lanes = s.lanes := rfl
@[simp] theorem State.setPipe_ctl (s : State) (n : Nat) (x : Pipe) : (s.setPipe n x).ctl = s.ctl := rfl
@[simp] theorem State.setPipe_tables (s : State) (n : Nat) (x : Pipe) : (s.setPipe n x).tables = s.tables := rfl
@[simp] theorem State.setPipe_sw (s : State) (n : Nat) (x : Pipe) : (s.setPipe n x).sw = s.sw := rfl
@[simp] theorem State.setPipe_far (s : State) (n : Nat) (x : Pipe) : (s.setPipe n x).far = s.far := rfl
@[simp] theorem State.setPipe_tandem (s : State) (n : Nat) (x : Pipe) : (s.setPipe n x).tandem = s.tandem := rfl
@[simp] theorem State.setPipe_peloton (s : State) (n : Nat) (x : Pipe) : (s.setPipe n x).peloton = s.peloton := rfl
@[simp] theorem State.setPipe_pipe (s : State) (n : Nat) (x : Pipe) : (s.setPipe n x).pipe n = x := tget_tset_self ..
theorem State.setPipe_pipe_ne (s : State) (n : Nat) (x : Pipe) {m : Nat} (h : m ≠ n) : (s.setPipe n x).pipe m = s.pipe m :=
  tget_tset_ne _ _ _ h

/-! ### setStore -/

@[simp] theorem State.setStore_pending (s : State) (n : Nat) (x : Store) : (s.setStore n x).pending = s.pending := rfl
@[simp] theorem State.setStore_freeIx (s : State) (n : Nat) (x : Store) : (s.setStore n x).freeIx = s.freeIx := rfl
@[simp] theorem State.setStore_balls (s : State) (n : Nat) (x : Store) : (s.setStore n x).balls = s.balls := rfl
@[simp] theorem State.setStore_boot (s : State) (n : Nat) (x : Store) : (s.setStore n x).boot = s.boot := rfl
@[simp] theorem State.setStore_fuses (s : State) (n : Nat) (x : Store) : (s.setStore n x).fuses = s.fuses := rfl
@[simp] theorem State.setStore_flash (s : State) (n : Nat) (x : Store) : (s.setStore n x).flash = s.flash := rfl
@[simp] theorem State.setStore_fw (s : State) (n : Nat) (x : Store) : (s.setStore n x).fw = s.fw := rfl
@[simp] theorem State.setStore_claims (s : State) (n : Nat) (x : Store) : (s.setStore n x).claims = s.claims := rfl
@[simp] theorem State.setStore_mboxes (s : State) (n : Nat) (x : Store) : (s.setStore n x).mboxes = s.mboxes := rfl
@[simp] theorem State.setStore_gears (s : State) (n : Nat) (x : Store) : (s.setStore n x).gears = s.gears := rfl
@[simp] theorem State.setStore_swap (s : State) (n : Nat) (x : Store) : (s.setStore n x).swap = s.swap := rfl
@[simp] theorem State.setStore_fences (s : State) (n : Nat) (x : Store) : (s.setStore n x).fences = s.fences := rfl
@[simp] theorem State.setStore_hostStamp (s : State) (n : Nat) (x : Store) : (s.setStore n x).hostStamp = s.hostStamp := rfl
@[simp] theorem State.setStore_host (s : State) (n : Nat) (x : Store) : (s.setStore n x).host = s.host := rfl
@[simp] theorem State.setStore_slices (s : State) (n : Nat) (x : Store) : (s.setStore n x).slices = s.slices := rfl
@[simp] theorem State.setStore_undo (s : State) (n : Nat) (x : Store) : (s.setStore n x).undo = s.undo := rfl
@[simp] theorem State.setStore_rings (s : State) (n : Nat) (x : Store) : (s.setStore n x).rings = s.rings := rfl
@[simp] theorem State.setStore_cad (s : State) (n : Nat) (x : Store) : (s.setStore n x).cad = s.cad := rfl
@[simp] theorem State.setStore_blocks (s : State) (n : Nat) (x : Store) : (s.setStore n x).blocks = s.blocks := rfl
@[simp] theorem State.setStore_bell (s : State) (n : Nat) (x : Store) : (s.setStore n x).bell = s.bell := rfl
@[simp] theorem State.setStore_wear (s : State) (n : Nat) (x : Store) : (s.setStore n x).wear = s.wear := rfl
@[simp] theorem State.setStore_fenced (s : State) (n : Nat) (x : Store) : (s.setStore n x).fenced = s.fenced := rfl
@[simp] theorem State.setStore_bad (s : State) (n : Nat) (x : Store) : (s.setStore n x).bad = s.bad := rfl
@[simp] theorem State.setStore_ports (s : State) (n : Nat) (x : Store) : (s.setStore n x).ports = s.ports := rfl
@[simp] theorem State.setStore_lanes (s : State) (n : Nat) (x : Store) : (s.setStore n x).lanes = s.lanes := rfl
@[simp] theorem State.setStore_pipes (s : State) (n : Nat) (x : Store) : (s.setStore n x).pipes = s.pipes := rfl
@[simp] theorem State.setStore_ctl (s : State) (n : Nat) (x : Store) : (s.setStore n x).ctl = s.ctl := rfl
@[simp] theorem State.setStore_tables (s : State) (n : Nat) (x : Store) : (s.setStore n x).tables = s.tables := rfl
@[simp] theorem State.setStore_far (s : State) (n : Nat) (x : Store) : (s.setStore n x).far = s.far := rfl
@[simp] theorem State.setStore_tandem (s : State) (n : Nat) (x : Store) : (s.setStore n x).tandem = s.tandem := rfl
@[simp] theorem State.setStore_peloton (s : State) (n : Nat) (x : Store) : (s.setStore n x).peloton = s.peloton := rfl
@[simp] theorem State.setStore_sw_frames (s : State) (n : Nat) (x : Store) : (s.setStore n x).sw.frames = s.sw.frames := rfl
@[simp] theorem State.setStore_sw_nextFrame (s : State) (n : Nat) (x : Store) : (s.setStore n x).sw.nextFrame = s.sw.nextFrame := rfl
@[simp] theorem State.setStore_sw_packets (s : State) (n : Nat) (x : Store) : (s.setStore n x).sw.packets = s.sw.packets := rfl
@[simp] theorem State.setStore_sw_nextPacket (s : State) (n : Nat) (x : Store) : (s.setStore n x).sw.nextPacket = s.sw.nextPacket := rfl
@[simp] theorem State.setStore_sw_queues (s : State) (n : Nat) (x : Store) : (s.setStore n x).sw.queues = s.sw.queues := rfl
@[simp] theorem State.setStore_sw_voqs (s : State) (n : Nat) (x : Store) : (s.setStore n x).sw.voqs = s.sw.voqs := rfl
@[simp] theorem State.setStore_sw_mcastVoqs (s : State) (n : Nat) (x : Store) : (s.setStore n x).sw.mcastVoqs = s.sw.mcastVoqs := rfl
@[simp] theorem State.setStore_sw_ecn (s : State) (n : Nat) (x : Store) : (s.setStore n x).sw.ecn = s.sw.ecn := rfl
@[simp] theorem State.setStore_sw_groups (s : State) (n : Nat) (x : Store) : (s.setStore n x).sw.groups = s.sw.groups := rfl
@[simp] theorem State.setStore_sw_intakes (s : State) (n : Nat) (x : Store) : (s.setStore n x).sw.intakes = s.sw.intakes := rfl
@[simp] theorem State.setStore_sw_trueUps (s : State) (n : Nat) (x : Store) : (s.setStore n x).sw.trueUps = s.sw.trueUps := rfl
@[simp] theorem State.setStore_sw_spillOn (s : State) (n : Nat) (x : Store) : (s.setStore n x).sw.spillOn = s.sw.spillOn := rfl
@[simp] theorem State.setStore_sw_refill (s : State) (n : Nat) (x : Store) : (s.setStore n x).sw.refill = s.sw.refill := rfl
@[simp] theorem State.setStore_sw_nodes (s : State) (n : Nat) (x : Store) : (s.setStore n x).sw.nodes = s.sw.nodes := rfl
@[simp] theorem State.setStore_sw_policers (s : State) (n : Nat) (x : Store) : (s.setStore n x).sw.policers = s.sw.policers := rfl
@[simp] theorem State.setStore_sw_ready (s : State) (n : Nat) (x : Store) : (s.setStore n x).sw.ready = s.sw.ready := rfl
@[simp] theorem State.setStore_sw_counters (s : State) (n : Nat) (x : Store) : (s.setStore n x).sw.counters = s.sw.counters := rfl
@[simp] theorem State.setStore_sw_schedCnt (s : State) (n : Nat) (x : Store) : (s.setStore n x).sw.schedCnt = s.sw.schedCnt := rfl
@[simp] theorem State.setStore_sw_watches (s : State) (n : Nat) (x : Store) : (s.setStore n x).sw.watches = s.sw.watches := rfl
@[simp] theorem State.setStore_sw_rotation (s : State) (n : Nat) (x : Store) : (s.setStore n x).sw.rotation = s.sw.rotation := rfl
@[simp] theorem State.setStore_sw_audit (s : State) (n : Nat) (x : Store) : (s.setStore n x).sw.audit = s.sw.audit := rfl
@[simp] theorem State.setStore_sw_hostQueue (s : State) (n : Nat) (x : Store) : (s.setStore n x).sw.hostQueue = s.sw.hostQueue := rfl
@[simp] theorem State.setStore_store (s : State) (n : Nat) (x : Store) : (s.setStore n x).store n = x := tget_tset_self ..
theorem State.setStore_store_ne (s : State) (n : Nat) (x : Store) {m : Nat} (h : m ≠ n) : (s.setStore n x).store m = s.store m :=
  tget_tset_ne _ _ _ h

/-! ### setFrame -/

@[simp] theorem State.setFrame_pending (s : State) (n : Nat) (x : Option Frame) : (s.setFrame n x).pending = s.pending := rfl
@[simp] theorem State.setFrame_freeIx (s : State) (n : Nat) (x : Option Frame) : (s.setFrame n x).freeIx = s.freeIx := rfl
@[simp] theorem State.setFrame_balls (s : State) (n : Nat) (x : Option Frame) : (s.setFrame n x).balls = s.balls := rfl
@[simp] theorem State.setFrame_boot (s : State) (n : Nat) (x : Option Frame) : (s.setFrame n x).boot = s.boot := rfl
@[simp] theorem State.setFrame_fuses (s : State) (n : Nat) (x : Option Frame) : (s.setFrame n x).fuses = s.fuses := rfl
@[simp] theorem State.setFrame_flash (s : State) (n : Nat) (x : Option Frame) : (s.setFrame n x).flash = s.flash := rfl
@[simp] theorem State.setFrame_fw (s : State) (n : Nat) (x : Option Frame) : (s.setFrame n x).fw = s.fw := rfl
@[simp] theorem State.setFrame_claims (s : State) (n : Nat) (x : Option Frame) : (s.setFrame n x).claims = s.claims := rfl
@[simp] theorem State.setFrame_mboxes (s : State) (n : Nat) (x : Option Frame) : (s.setFrame n x).mboxes = s.mboxes := rfl
@[simp] theorem State.setFrame_gears (s : State) (n : Nat) (x : Option Frame) : (s.setFrame n x).gears = s.gears := rfl
@[simp] theorem State.setFrame_swap (s : State) (n : Nat) (x : Option Frame) : (s.setFrame n x).swap = s.swap := rfl
@[simp] theorem State.setFrame_fences (s : State) (n : Nat) (x : Option Frame) : (s.setFrame n x).fences = s.fences := rfl
@[simp] theorem State.setFrame_hostStamp (s : State) (n : Nat) (x : Option Frame) : (s.setFrame n x).hostStamp = s.hostStamp := rfl
@[simp] theorem State.setFrame_host (s : State) (n : Nat) (x : Option Frame) : (s.setFrame n x).host = s.host := rfl
@[simp] theorem State.setFrame_slices (s : State) (n : Nat) (x : Option Frame) : (s.setFrame n x).slices = s.slices := rfl
@[simp] theorem State.setFrame_undo (s : State) (n : Nat) (x : Option Frame) : (s.setFrame n x).undo = s.undo := rfl
@[simp] theorem State.setFrame_rings (s : State) (n : Nat) (x : Option Frame) : (s.setFrame n x).rings = s.rings := rfl
@[simp] theorem State.setFrame_cad (s : State) (n : Nat) (x : Option Frame) : (s.setFrame n x).cad = s.cad := rfl
@[simp] theorem State.setFrame_blocks (s : State) (n : Nat) (x : Option Frame) : (s.setFrame n x).blocks = s.blocks := rfl
@[simp] theorem State.setFrame_bell (s : State) (n : Nat) (x : Option Frame) : (s.setFrame n x).bell = s.bell := rfl
@[simp] theorem State.setFrame_wear (s : State) (n : Nat) (x : Option Frame) : (s.setFrame n x).wear = s.wear := rfl
@[simp] theorem State.setFrame_fenced (s : State) (n : Nat) (x : Option Frame) : (s.setFrame n x).fenced = s.fenced := rfl
@[simp] theorem State.setFrame_bad (s : State) (n : Nat) (x : Option Frame) : (s.setFrame n x).bad = s.bad := rfl
@[simp] theorem State.setFrame_ports (s : State) (n : Nat) (x : Option Frame) : (s.setFrame n x).ports = s.ports := rfl
@[simp] theorem State.setFrame_lanes (s : State) (n : Nat) (x : Option Frame) : (s.setFrame n x).lanes = s.lanes := rfl
@[simp] theorem State.setFrame_pipes (s : State) (n : Nat) (x : Option Frame) : (s.setFrame n x).pipes = s.pipes := rfl
@[simp] theorem State.setFrame_ctl (s : State) (n : Nat) (x : Option Frame) : (s.setFrame n x).ctl = s.ctl := rfl
@[simp] theorem State.setFrame_tables (s : State) (n : Nat) (x : Option Frame) : (s.setFrame n x).tables = s.tables := rfl
@[simp] theorem State.setFrame_far (s : State) (n : Nat) (x : Option Frame) : (s.setFrame n x).far = s.far := rfl
@[simp] theorem State.setFrame_tandem (s : State) (n : Nat) (x : Option Frame) : (s.setFrame n x).tandem = s.tandem := rfl
@[simp] theorem State.setFrame_peloton (s : State) (n : Nat) (x : Option Frame) : (s.setFrame n x).peloton = s.peloton := rfl
@[simp] theorem State.setFrame_sw_stores (s : State) (n : Nat) (x : Option Frame) : (s.setFrame n x).sw.stores = s.sw.stores := rfl
@[simp] theorem State.setFrame_sw_nextFrame (s : State) (n : Nat) (x : Option Frame) : (s.setFrame n x).sw.nextFrame = s.sw.nextFrame := rfl
@[simp] theorem State.setFrame_sw_packets (s : State) (n : Nat) (x : Option Frame) : (s.setFrame n x).sw.packets = s.sw.packets := rfl
@[simp] theorem State.setFrame_sw_nextPacket (s : State) (n : Nat) (x : Option Frame) : (s.setFrame n x).sw.nextPacket = s.sw.nextPacket := rfl
@[simp] theorem State.setFrame_sw_queues (s : State) (n : Nat) (x : Option Frame) : (s.setFrame n x).sw.queues = s.sw.queues := rfl
@[simp] theorem State.setFrame_sw_voqs (s : State) (n : Nat) (x : Option Frame) : (s.setFrame n x).sw.voqs = s.sw.voqs := rfl
@[simp] theorem State.setFrame_sw_mcastVoqs (s : State) (n : Nat) (x : Option Frame) : (s.setFrame n x).sw.mcastVoqs = s.sw.mcastVoqs := rfl
@[simp] theorem State.setFrame_sw_ecn (s : State) (n : Nat) (x : Option Frame) : (s.setFrame n x).sw.ecn = s.sw.ecn := rfl
@[simp] theorem State.setFrame_sw_groups (s : State) (n : Nat) (x : Option Frame) : (s.setFrame n x).sw.groups = s.sw.groups := rfl
@[simp] theorem State.setFrame_sw_intakes (s : State) (n : Nat) (x : Option Frame) : (s.setFrame n x).sw.intakes = s.sw.intakes := rfl
@[simp] theorem State.setFrame_sw_trueUps (s : State) (n : Nat) (x : Option Frame) : (s.setFrame n x).sw.trueUps = s.sw.trueUps := rfl
@[simp] theorem State.setFrame_sw_spillOn (s : State) (n : Nat) (x : Option Frame) : (s.setFrame n x).sw.spillOn = s.sw.spillOn := rfl
@[simp] theorem State.setFrame_sw_refill (s : State) (n : Nat) (x : Option Frame) : (s.setFrame n x).sw.refill = s.sw.refill := rfl
@[simp] theorem State.setFrame_sw_nodes (s : State) (n : Nat) (x : Option Frame) : (s.setFrame n x).sw.nodes = s.sw.nodes := rfl
@[simp] theorem State.setFrame_sw_policers (s : State) (n : Nat) (x : Option Frame) : (s.setFrame n x).sw.policers = s.sw.policers := rfl
@[simp] theorem State.setFrame_sw_ready (s : State) (n : Nat) (x : Option Frame) : (s.setFrame n x).sw.ready = s.sw.ready := rfl
@[simp] theorem State.setFrame_sw_counters (s : State) (n : Nat) (x : Option Frame) : (s.setFrame n x).sw.counters = s.sw.counters := rfl
@[simp] theorem State.setFrame_sw_schedCnt (s : State) (n : Nat) (x : Option Frame) : (s.setFrame n x).sw.schedCnt = s.sw.schedCnt := rfl
@[simp] theorem State.setFrame_sw_watches (s : State) (n : Nat) (x : Option Frame) : (s.setFrame n x).sw.watches = s.sw.watches := rfl
@[simp] theorem State.setFrame_sw_rotation (s : State) (n : Nat) (x : Option Frame) : (s.setFrame n x).sw.rotation = s.sw.rotation := rfl
@[simp] theorem State.setFrame_sw_audit (s : State) (n : Nat) (x : Option Frame) : (s.setFrame n x).sw.audit = s.sw.audit := rfl
@[simp] theorem State.setFrame_sw_hostQueue (s : State) (n : Nat) (x : Option Frame) : (s.setFrame n x).sw.hostQueue = s.sw.hostQueue := rfl
@[simp] theorem State.setFrame_frame (s : State) (n : Nat) (x : Option Frame) : (s.setFrame n x).frame n = x := tget_tset_self ..
theorem State.setFrame_frame_ne (s : State) (n : Nat) (x : Option Frame) {m : Nat} (h : m ≠ n) : (s.setFrame n x).frame m = s.frame m :=
  tget_tset_ne _ _ _ h

/-! ### setPacket -/

@[simp] theorem State.setPacket_pending (s : State) (n : Nat) (x : Option Packet) : (s.setPacket n x).pending = s.pending := rfl
@[simp] theorem State.setPacket_freeIx (s : State) (n : Nat) (x : Option Packet) : (s.setPacket n x).freeIx = s.freeIx := rfl
@[simp] theorem State.setPacket_balls (s : State) (n : Nat) (x : Option Packet) : (s.setPacket n x).balls = s.balls := rfl
@[simp] theorem State.setPacket_boot (s : State) (n : Nat) (x : Option Packet) : (s.setPacket n x).boot = s.boot := rfl
@[simp] theorem State.setPacket_fuses (s : State) (n : Nat) (x : Option Packet) : (s.setPacket n x).fuses = s.fuses := rfl
@[simp] theorem State.setPacket_flash (s : State) (n : Nat) (x : Option Packet) : (s.setPacket n x).flash = s.flash := rfl
@[simp] theorem State.setPacket_fw (s : State) (n : Nat) (x : Option Packet) : (s.setPacket n x).fw = s.fw := rfl
@[simp] theorem State.setPacket_claims (s : State) (n : Nat) (x : Option Packet) : (s.setPacket n x).claims = s.claims := rfl
@[simp] theorem State.setPacket_mboxes (s : State) (n : Nat) (x : Option Packet) : (s.setPacket n x).mboxes = s.mboxes := rfl
@[simp] theorem State.setPacket_gears (s : State) (n : Nat) (x : Option Packet) : (s.setPacket n x).gears = s.gears := rfl
@[simp] theorem State.setPacket_swap (s : State) (n : Nat) (x : Option Packet) : (s.setPacket n x).swap = s.swap := rfl
@[simp] theorem State.setPacket_fences (s : State) (n : Nat) (x : Option Packet) : (s.setPacket n x).fences = s.fences := rfl
@[simp] theorem State.setPacket_hostStamp (s : State) (n : Nat) (x : Option Packet) : (s.setPacket n x).hostStamp = s.hostStamp := rfl
@[simp] theorem State.setPacket_host (s : State) (n : Nat) (x : Option Packet) : (s.setPacket n x).host = s.host := rfl
@[simp] theorem State.setPacket_slices (s : State) (n : Nat) (x : Option Packet) : (s.setPacket n x).slices = s.slices := rfl
@[simp] theorem State.setPacket_undo (s : State) (n : Nat) (x : Option Packet) : (s.setPacket n x).undo = s.undo := rfl
@[simp] theorem State.setPacket_rings (s : State) (n : Nat) (x : Option Packet) : (s.setPacket n x).rings = s.rings := rfl
@[simp] theorem State.setPacket_cad (s : State) (n : Nat) (x : Option Packet) : (s.setPacket n x).cad = s.cad := rfl
@[simp] theorem State.setPacket_blocks (s : State) (n : Nat) (x : Option Packet) : (s.setPacket n x).blocks = s.blocks := rfl
@[simp] theorem State.setPacket_bell (s : State) (n : Nat) (x : Option Packet) : (s.setPacket n x).bell = s.bell := rfl
@[simp] theorem State.setPacket_wear (s : State) (n : Nat) (x : Option Packet) : (s.setPacket n x).wear = s.wear := rfl
@[simp] theorem State.setPacket_fenced (s : State) (n : Nat) (x : Option Packet) : (s.setPacket n x).fenced = s.fenced := rfl
@[simp] theorem State.setPacket_bad (s : State) (n : Nat) (x : Option Packet) : (s.setPacket n x).bad = s.bad := rfl
@[simp] theorem State.setPacket_ports (s : State) (n : Nat) (x : Option Packet) : (s.setPacket n x).ports = s.ports := rfl
@[simp] theorem State.setPacket_lanes (s : State) (n : Nat) (x : Option Packet) : (s.setPacket n x).lanes = s.lanes := rfl
@[simp] theorem State.setPacket_pipes (s : State) (n : Nat) (x : Option Packet) : (s.setPacket n x).pipes = s.pipes := rfl
@[simp] theorem State.setPacket_ctl (s : State) (n : Nat) (x : Option Packet) : (s.setPacket n x).ctl = s.ctl := rfl
@[simp] theorem State.setPacket_tables (s : State) (n : Nat) (x : Option Packet) : (s.setPacket n x).tables = s.tables := rfl
@[simp] theorem State.setPacket_far (s : State) (n : Nat) (x : Option Packet) : (s.setPacket n x).far = s.far := rfl
@[simp] theorem State.setPacket_tandem (s : State) (n : Nat) (x : Option Packet) : (s.setPacket n x).tandem = s.tandem := rfl
@[simp] theorem State.setPacket_peloton (s : State) (n : Nat) (x : Option Packet) : (s.setPacket n x).peloton = s.peloton := rfl
@[simp] theorem State.setPacket_sw_stores (s : State) (n : Nat) (x : Option Packet) : (s.setPacket n x).sw.stores = s.sw.stores := rfl
@[simp] theorem State.setPacket_sw_frames (s : State) (n : Nat) (x : Option Packet) : (s.setPacket n x).sw.frames = s.sw.frames := rfl
@[simp] theorem State.setPacket_sw_nextFrame (s : State) (n : Nat) (x : Option Packet) : (s.setPacket n x).sw.nextFrame = s.sw.nextFrame := rfl
@[simp] theorem State.setPacket_sw_nextPacket (s : State) (n : Nat) (x : Option Packet) : (s.setPacket n x).sw.nextPacket = s.sw.nextPacket := rfl
@[simp] theorem State.setPacket_sw_queues (s : State) (n : Nat) (x : Option Packet) : (s.setPacket n x).sw.queues = s.sw.queues := rfl
@[simp] theorem State.setPacket_sw_voqs (s : State) (n : Nat) (x : Option Packet) : (s.setPacket n x).sw.voqs = s.sw.voqs := rfl
@[simp] theorem State.setPacket_sw_mcastVoqs (s : State) (n : Nat) (x : Option Packet) : (s.setPacket n x).sw.mcastVoqs = s.sw.mcastVoqs := rfl
@[simp] theorem State.setPacket_sw_ecn (s : State) (n : Nat) (x : Option Packet) : (s.setPacket n x).sw.ecn = s.sw.ecn := rfl
@[simp] theorem State.setPacket_sw_groups (s : State) (n : Nat) (x : Option Packet) : (s.setPacket n x).sw.groups = s.sw.groups := rfl
@[simp] theorem State.setPacket_sw_intakes (s : State) (n : Nat) (x : Option Packet) : (s.setPacket n x).sw.intakes = s.sw.intakes := rfl
@[simp] theorem State.setPacket_sw_trueUps (s : State) (n : Nat) (x : Option Packet) : (s.setPacket n x).sw.trueUps = s.sw.trueUps := rfl
@[simp] theorem State.setPacket_sw_spillOn (s : State) (n : Nat) (x : Option Packet) : (s.setPacket n x).sw.spillOn = s.sw.spillOn := rfl
@[simp] theorem State.setPacket_sw_refill (s : State) (n : Nat) (x : Option Packet) : (s.setPacket n x).sw.refill = s.sw.refill := rfl
@[simp] theorem State.setPacket_sw_nodes (s : State) (n : Nat) (x : Option Packet) : (s.setPacket n x).sw.nodes = s.sw.nodes := rfl
@[simp] theorem State.setPacket_sw_policers (s : State) (n : Nat) (x : Option Packet) : (s.setPacket n x).sw.policers = s.sw.policers := rfl
@[simp] theorem State.setPacket_sw_ready (s : State) (n : Nat) (x : Option Packet) : (s.setPacket n x).sw.ready = s.sw.ready := rfl
@[simp] theorem State.setPacket_sw_counters (s : State) (n : Nat) (x : Option Packet) : (s.setPacket n x).sw.counters = s.sw.counters := rfl
@[simp] theorem State.setPacket_sw_schedCnt (s : State) (n : Nat) (x : Option Packet) : (s.setPacket n x).sw.schedCnt = s.sw.schedCnt := rfl
@[simp] theorem State.setPacket_sw_watches (s : State) (n : Nat) (x : Option Packet) : (s.setPacket n x).sw.watches = s.sw.watches := rfl
@[simp] theorem State.setPacket_sw_rotation (s : State) (n : Nat) (x : Option Packet) : (s.setPacket n x).sw.rotation = s.sw.rotation := rfl
@[simp] theorem State.setPacket_sw_audit (s : State) (n : Nat) (x : Option Packet) : (s.setPacket n x).sw.audit = s.sw.audit := rfl
@[simp] theorem State.setPacket_sw_hostQueue (s : State) (n : Nat) (x : Option Packet) : (s.setPacket n x).sw.hostQueue = s.sw.hostQueue := rfl
@[simp] theorem State.setPacket_packet (s : State) (n : Nat) (x : Option Packet) : (s.setPacket n x).packet n = x := tget_tset_self ..
theorem State.setPacket_packet_ne (s : State) (n : Nat) (x : Option Packet) {m : Nat} (h : m ≠ n) : (s.setPacket n x).packet m = s.packet m :=
  tget_tset_ne _ _ _ h

/-! ### setNode -/

@[simp] theorem State.setNode_pending (s : State) (n : Nat) (x : Option Node) : (s.setNode n x).pending = s.pending := rfl
@[simp] theorem State.setNode_freeIx (s : State) (n : Nat) (x : Option Node) : (s.setNode n x).freeIx = s.freeIx := rfl
@[simp] theorem State.setNode_balls (s : State) (n : Nat) (x : Option Node) : (s.setNode n x).balls = s.balls := rfl
@[simp] theorem State.setNode_boot (s : State) (n : Nat) (x : Option Node) : (s.setNode n x).boot = s.boot := rfl
@[simp] theorem State.setNode_fuses (s : State) (n : Nat) (x : Option Node) : (s.setNode n x).fuses = s.fuses := rfl
@[simp] theorem State.setNode_flash (s : State) (n : Nat) (x : Option Node) : (s.setNode n x).flash = s.flash := rfl
@[simp] theorem State.setNode_fw (s : State) (n : Nat) (x : Option Node) : (s.setNode n x).fw = s.fw := rfl
@[simp] theorem State.setNode_claims (s : State) (n : Nat) (x : Option Node) : (s.setNode n x).claims = s.claims := rfl
@[simp] theorem State.setNode_mboxes (s : State) (n : Nat) (x : Option Node) : (s.setNode n x).mboxes = s.mboxes := rfl
@[simp] theorem State.setNode_gears (s : State) (n : Nat) (x : Option Node) : (s.setNode n x).gears = s.gears := rfl
@[simp] theorem State.setNode_swap (s : State) (n : Nat) (x : Option Node) : (s.setNode n x).swap = s.swap := rfl
@[simp] theorem State.setNode_fences (s : State) (n : Nat) (x : Option Node) : (s.setNode n x).fences = s.fences := rfl
@[simp] theorem State.setNode_hostStamp (s : State) (n : Nat) (x : Option Node) : (s.setNode n x).hostStamp = s.hostStamp := rfl
@[simp] theorem State.setNode_host (s : State) (n : Nat) (x : Option Node) : (s.setNode n x).host = s.host := rfl
@[simp] theorem State.setNode_slices (s : State) (n : Nat) (x : Option Node) : (s.setNode n x).slices = s.slices := rfl
@[simp] theorem State.setNode_undo (s : State) (n : Nat) (x : Option Node) : (s.setNode n x).undo = s.undo := rfl
@[simp] theorem State.setNode_rings (s : State) (n : Nat) (x : Option Node) : (s.setNode n x).rings = s.rings := rfl
@[simp] theorem State.setNode_cad (s : State) (n : Nat) (x : Option Node) : (s.setNode n x).cad = s.cad := rfl
@[simp] theorem State.setNode_blocks (s : State) (n : Nat) (x : Option Node) : (s.setNode n x).blocks = s.blocks := rfl
@[simp] theorem State.setNode_bell (s : State) (n : Nat) (x : Option Node) : (s.setNode n x).bell = s.bell := rfl
@[simp] theorem State.setNode_wear (s : State) (n : Nat) (x : Option Node) : (s.setNode n x).wear = s.wear := rfl
@[simp] theorem State.setNode_fenced (s : State) (n : Nat) (x : Option Node) : (s.setNode n x).fenced = s.fenced := rfl
@[simp] theorem State.setNode_bad (s : State) (n : Nat) (x : Option Node) : (s.setNode n x).bad = s.bad := rfl
@[simp] theorem State.setNode_ports (s : State) (n : Nat) (x : Option Node) : (s.setNode n x).ports = s.ports := rfl
@[simp] theorem State.setNode_lanes (s : State) (n : Nat) (x : Option Node) : (s.setNode n x).lanes = s.lanes := rfl
@[simp] theorem State.setNode_pipes (s : State) (n : Nat) (x : Option Node) : (s.setNode n x).pipes = s.pipes := rfl
@[simp] theorem State.setNode_ctl (s : State) (n : Nat) (x : Option Node) : (s.setNode n x).ctl = s.ctl := rfl
@[simp] theorem State.setNode_tables (s : State) (n : Nat) (x : Option Node) : (s.setNode n x).tables = s.tables := rfl
@[simp] theorem State.setNode_far (s : State) (n : Nat) (x : Option Node) : (s.setNode n x).far = s.far := rfl
@[simp] theorem State.setNode_tandem (s : State) (n : Nat) (x : Option Node) : (s.setNode n x).tandem = s.tandem := rfl
@[simp] theorem State.setNode_peloton (s : State) (n : Nat) (x : Option Node) : (s.setNode n x).peloton = s.peloton := rfl
@[simp] theorem State.setNode_sw_stores (s : State) (n : Nat) (x : Option Node) : (s.setNode n x).sw.stores = s.sw.stores := rfl
@[simp] theorem State.setNode_sw_frames (s : State) (n : Nat) (x : Option Node) : (s.setNode n x).sw.frames = s.sw.frames := rfl
@[simp] theorem State.setNode_sw_nextFrame (s : State) (n : Nat) (x : Option Node) : (s.setNode n x).sw.nextFrame = s.sw.nextFrame := rfl
@[simp] theorem State.setNode_sw_packets (s : State) (n : Nat) (x : Option Node) : (s.setNode n x).sw.packets = s.sw.packets := rfl
@[simp] theorem State.setNode_sw_nextPacket (s : State) (n : Nat) (x : Option Node) : (s.setNode n x).sw.nextPacket = s.sw.nextPacket := rfl
@[simp] theorem State.setNode_sw_queues (s : State) (n : Nat) (x : Option Node) : (s.setNode n x).sw.queues = s.sw.queues := rfl
@[simp] theorem State.setNode_sw_voqs (s : State) (n : Nat) (x : Option Node) : (s.setNode n x).sw.voqs = s.sw.voqs := rfl
@[simp] theorem State.setNode_sw_mcastVoqs (s : State) (n : Nat) (x : Option Node) : (s.setNode n x).sw.mcastVoqs = s.sw.mcastVoqs := rfl
@[simp] theorem State.setNode_sw_ecn (s : State) (n : Nat) (x : Option Node) : (s.setNode n x).sw.ecn = s.sw.ecn := rfl
@[simp] theorem State.setNode_sw_groups (s : State) (n : Nat) (x : Option Node) : (s.setNode n x).sw.groups = s.sw.groups := rfl
@[simp] theorem State.setNode_sw_intakes (s : State) (n : Nat) (x : Option Node) : (s.setNode n x).sw.intakes = s.sw.intakes := rfl
@[simp] theorem State.setNode_sw_trueUps (s : State) (n : Nat) (x : Option Node) : (s.setNode n x).sw.trueUps = s.sw.trueUps := rfl
@[simp] theorem State.setNode_sw_spillOn (s : State) (n : Nat) (x : Option Node) : (s.setNode n x).sw.spillOn = s.sw.spillOn := rfl
@[simp] theorem State.setNode_sw_refill (s : State) (n : Nat) (x : Option Node) : (s.setNode n x).sw.refill = s.sw.refill := rfl
@[simp] theorem State.setNode_sw_policers (s : State) (n : Nat) (x : Option Node) : (s.setNode n x).sw.policers = s.sw.policers := rfl
@[simp] theorem State.setNode_sw_ready (s : State) (n : Nat) (x : Option Node) : (s.setNode n x).sw.ready = s.sw.ready := rfl
@[simp] theorem State.setNode_sw_counters (s : State) (n : Nat) (x : Option Node) : (s.setNode n x).sw.counters = s.sw.counters := rfl
@[simp] theorem State.setNode_sw_schedCnt (s : State) (n : Nat) (x : Option Node) : (s.setNode n x).sw.schedCnt = s.sw.schedCnt := rfl
@[simp] theorem State.setNode_sw_watches (s : State) (n : Nat) (x : Option Node) : (s.setNode n x).sw.watches = s.sw.watches := rfl
@[simp] theorem State.setNode_sw_rotation (s : State) (n : Nat) (x : Option Node) : (s.setNode n x).sw.rotation = s.sw.rotation := rfl
@[simp] theorem State.setNode_sw_audit (s : State) (n : Nat) (x : Option Node) : (s.setNode n x).sw.audit = s.sw.audit := rfl
@[simp] theorem State.setNode_sw_hostQueue (s : State) (n : Nat) (x : Option Node) : (s.setNode n x).sw.hostQueue = s.sw.hostQueue := rfl
@[simp] theorem State.setNode_node (s : State) (n : Nat) (x : Option Node) : (s.setNode n x).node n = x := tget_tset_self ..
theorem State.setNode_node_ne (s : State) (n : Nat) (x : Option Node) {m : Nat} (h : m ≠ n) : (s.setNode n x).node m = s.node m :=
  tget_tset_ne _ _ _ h

/-! ### setChannel -/

@[simp] theorem State.setChannel_pending (s : State) (n : Nat) (x : Channel) : (s.setChannel n x).pending = s.pending := rfl
@[simp] theorem State.setChannel_freeIx (s : State) (n : Nat) (x : Channel) : (s.setChannel n x).freeIx = s.freeIx := rfl
@[simp] theorem State.setChannel_balls (s : State) (n : Nat) (x : Channel) : (s.setChannel n x).balls = s.balls := rfl
@[simp] theorem State.setChannel_boot (s : State) (n : Nat) (x : Channel) : (s.setChannel n x).boot = s.boot := rfl
@[simp] theorem State.setChannel_fuses (s : State) (n : Nat) (x : Channel) : (s.setChannel n x).fuses = s.fuses := rfl
@[simp] theorem State.setChannel_flash (s : State) (n : Nat) (x : Channel) : (s.setChannel n x).flash = s.flash := rfl
@[simp] theorem State.setChannel_fw (s : State) (n : Nat) (x : Channel) : (s.setChannel n x).fw = s.fw := rfl
@[simp] theorem State.setChannel_claims (s : State) (n : Nat) (x : Channel) : (s.setChannel n x).claims = s.claims := rfl
@[simp] theorem State.setChannel_mboxes (s : State) (n : Nat) (x : Channel) : (s.setChannel n x).mboxes = s.mboxes := rfl
@[simp] theorem State.setChannel_gears (s : State) (n : Nat) (x : Channel) : (s.setChannel n x).gears = s.gears := rfl
@[simp] theorem State.setChannel_swap (s : State) (n : Nat) (x : Channel) : (s.setChannel n x).swap = s.swap := rfl
@[simp] theorem State.setChannel_fences (s : State) (n : Nat) (x : Channel) : (s.setChannel n x).fences = s.fences := rfl
@[simp] theorem State.setChannel_hostStamp (s : State) (n : Nat) (x : Channel) : (s.setChannel n x).hostStamp = s.hostStamp := rfl
@[simp] theorem State.setChannel_host (s : State) (n : Nat) (x : Channel) : (s.setChannel n x).host = s.host := rfl
@[simp] theorem State.setChannel_slices (s : State) (n : Nat) (x : Channel) : (s.setChannel n x).slices = s.slices := rfl
@[simp] theorem State.setChannel_undo (s : State) (n : Nat) (x : Channel) : (s.setChannel n x).undo = s.undo := rfl
@[simp] theorem State.setChannel_rings (s : State) (n : Nat) (x : Channel) : (s.setChannel n x).rings = s.rings := rfl
@[simp] theorem State.setChannel_cad (s : State) (n : Nat) (x : Channel) : (s.setChannel n x).cad = s.cad := rfl
@[simp] theorem State.setChannel_blocks (s : State) (n : Nat) (x : Channel) : (s.setChannel n x).blocks = s.blocks := rfl
@[simp] theorem State.setChannel_bell (s : State) (n : Nat) (x : Channel) : (s.setChannel n x).bell = s.bell := rfl
@[simp] theorem State.setChannel_wear (s : State) (n : Nat) (x : Channel) : (s.setChannel n x).wear = s.wear := rfl
@[simp] theorem State.setChannel_fenced (s : State) (n : Nat) (x : Channel) : (s.setChannel n x).fenced = s.fenced := rfl
@[simp] theorem State.setChannel_bad (s : State) (n : Nat) (x : Channel) : (s.setChannel n x).bad = s.bad := rfl
@[simp] theorem State.setChannel_ports (s : State) (n : Nat) (x : Channel) : (s.setChannel n x).ports = s.ports := rfl
@[simp] theorem State.setChannel_lanes (s : State) (n : Nat) (x : Channel) : (s.setChannel n x).lanes = s.lanes := rfl
@[simp] theorem State.setChannel_pipes (s : State) (n : Nat) (x : Channel) : (s.setChannel n x).pipes = s.pipes := rfl
@[simp] theorem State.setChannel_ctl (s : State) (n : Nat) (x : Channel) : (s.setChannel n x).ctl = s.ctl := rfl
@[simp] theorem State.setChannel_tables (s : State) (n : Nat) (x : Channel) : (s.setChannel n x).tables = s.tables := rfl
@[simp] theorem State.setChannel_sw (s : State) (n : Nat) (x : Channel) : (s.setChannel n x).sw = s.sw := rfl
@[simp] theorem State.setChannel_tandem (s : State) (n : Nat) (x : Channel) : (s.setChannel n x).tandem = s.tandem := rfl
@[simp] theorem State.setChannel_peloton (s : State) (n : Nat) (x : Channel) : (s.setChannel n x).peloton = s.peloton := rfl
@[simp] theorem State.setChannel_far_idleNs (s : State) (n : Nat) (x : Channel) : (s.setChannel n x).far.idleNs = s.far.idleNs := rfl
@[simp] theorem State.setChannel_far_panicNs (s : State) (n : Nat) (x : Channel) : (s.setChannel n x).far.panicNs = s.far.panicNs := rfl
@[simp] theorem State.setChannel_far_retryS (s : State) (n : Nat) (x : Channel) : (s.setChannel n x).far.retryS = s.far.retryS := rfl
@[simp] theorem State.setChannel_far_speed (s : State) (n : Nat) (x : Channel) : (s.setChannel n x).far.speed = s.far.speed := rfl
@[simp] theorem State.setChannel_far_lowEn (s : State) (n : Nat) (x : Channel) : (s.setChannel n x).far.lowEn = s.far.lowEn := rfl
@[simp] theorem State.setChannel_far_lowEnter (s : State) (n : Nat) (x : Channel) : (s.setChannel n x).far.lowEnter = s.far.lowEnter := rfl
@[simp] theorem State.setChannel_far_lowExit (s : State) (n : Nat) (x : Channel) : (s.setChannel n x).far.lowExit = s.far.lowExit := rfl
@[simp] theorem State.setChannel_far_lowTraffic (s : State) (n : Nat) (x : Channel) : (s.setChannel n x).far.lowTraffic = s.far.lowTraffic := rfl
@[simp] theorem State.setChannel_far_use (s : State) (n : Nat) (x : Channel) : (s.setChannel n x).far.use = s.far.use := rfl
@[simp] theorem State.setChannel_far_capture (s : State) (n : Nat) (x : Channel) : (s.setChannel n x).far.capture = s.far.capture := rfl
@[simp] theorem State.setChannel_far_wanted (s : State) (n : Nat) (x : Channel) : (s.setChannel n x).far.wanted = s.far.wanted := rfl
@[simp] theorem State.setChannel_far_region (s : State) (n : Nat) (x : Channel) : (s.setChannel n x).far.region = s.far.region := rfl
@[simp] theorem State.setChannel_far_captureBlocks (s : State) (n : Nat) (x : Channel) : (s.setChannel n x).far.captureBlocks = s.far.captureBlocks := rfl
@[simp] theorem State.setChannel_far_captureSeq (s : State) (n : Nat) (x : Channel) : (s.setChannel n x).far.captureSeq = s.far.captureSeq := rfl
@[simp] theorem State.setChannel_far_captured (s : State) (n : Nat) (x : Channel) : (s.setChannel n x).far.captured = s.far.captured := rfl
@[simp] theorem State.setChannel_far_captureDrops (s : State) (n : Nat) (x : Channel) : (s.setChannel n x).far.captureDrops = s.far.captureDrops := rfl
@[simp] theorem State.setChannel_far_replayQueue (s : State) (n : Nat) (x : Channel) : (s.setChannel n x).far.replayQueue = s.far.replayQueue := rfl
@[simp] theorem State.setChannel_far_replayLeft (s : State) (n : Nat) (x : Channel) : (s.setChannel n x).far.replayLeft = s.far.replayLeft := rfl
@[simp] theorem State.setChannel_far_blocks (s : State) (n : Nat) (x : Channel) : (s.setChannel n x).far.blocks = s.far.blocks := rfl
@[simp] theorem State.setChannel_far_flushed (s : State) (n : Nat) (x : Channel) : (s.setChannel n x).far.flushed = s.far.flushed := rfl
@[simp] theorem State.setChannel_far_lastStart (s : State) (n : Nat) (x : Channel) : (s.setChannel n x).far.lastStart = s.far.lastStart := rfl
@[simp] theorem State.setChannel_far_trainMb (s : State) (n : Nat) (x : Channel) : (s.setChannel n x).far.trainMb = s.far.trainMb := rfl
@[simp] theorem State.setChannel_far_trainMask (s : State) (n : Nat) (x : Channel) : (s.setChannel n x).far.trainMask = s.far.trainMask := rfl
@[simp] theorem State.setChannel_far_trainWas (s : State) (n : Nat) (x : Channel) : (s.setChannel n x).far.trainWas = s.far.trainWas := rfl
@[simp] theorem State.setChannel_channel (s : State) (n : Nat) (x : Channel) : (s.setChannel n x).channel n = x := tget_tset_self ..
theorem State.setChannel_channel_ne (s : State) (n : Nat) (x : Channel) {m : Nat} (h : m ≠ n) : (s.setChannel n x).channel m = s.channel m :=
  tget_tset_ne _ _ _ h

/-! ### setLine -/

@[simp] theorem State.setLine_pending (s : State) (n : Nat) (x : LineChannel) : (s.setLine n x).pending = s.pending := rfl
@[simp] theorem State.setLine_freeIx (s : State) (n : Nat) (x : LineChannel) : (s.setLine n x).freeIx = s.freeIx := rfl
@[simp] theorem State.setLine_balls (s : State) (n : Nat) (x : LineChannel) : (s.setLine n x).balls = s.balls := rfl
@[simp] theorem State.setLine_boot (s : State) (n : Nat) (x : LineChannel) : (s.setLine n x).boot = s.boot := rfl
@[simp] theorem State.setLine_fuses (s : State) (n : Nat) (x : LineChannel) : (s.setLine n x).fuses = s.fuses := rfl
@[simp] theorem State.setLine_flash (s : State) (n : Nat) (x : LineChannel) : (s.setLine n x).flash = s.flash := rfl
@[simp] theorem State.setLine_fw (s : State) (n : Nat) (x : LineChannel) : (s.setLine n x).fw = s.fw := rfl
@[simp] theorem State.setLine_claims (s : State) (n : Nat) (x : LineChannel) : (s.setLine n x).claims = s.claims := rfl
@[simp] theorem State.setLine_mboxes (s : State) (n : Nat) (x : LineChannel) : (s.setLine n x).mboxes = s.mboxes := rfl
@[simp] theorem State.setLine_gears (s : State) (n : Nat) (x : LineChannel) : (s.setLine n x).gears = s.gears := rfl
@[simp] theorem State.setLine_swap (s : State) (n : Nat) (x : LineChannel) : (s.setLine n x).swap = s.swap := rfl
@[simp] theorem State.setLine_fences (s : State) (n : Nat) (x : LineChannel) : (s.setLine n x).fences = s.fences := rfl
@[simp] theorem State.setLine_hostStamp (s : State) (n : Nat) (x : LineChannel) : (s.setLine n x).hostStamp = s.hostStamp := rfl
@[simp] theorem State.setLine_host (s : State) (n : Nat) (x : LineChannel) : (s.setLine n x).host = s.host := rfl
@[simp] theorem State.setLine_slices (s : State) (n : Nat) (x : LineChannel) : (s.setLine n x).slices = s.slices := rfl
@[simp] theorem State.setLine_undo (s : State) (n : Nat) (x : LineChannel) : (s.setLine n x).undo = s.undo := rfl
@[simp] theorem State.setLine_rings (s : State) (n : Nat) (x : LineChannel) : (s.setLine n x).rings = s.rings := rfl
@[simp] theorem State.setLine_blocks (s : State) (n : Nat) (x : LineChannel) : (s.setLine n x).blocks = s.blocks := rfl
@[simp] theorem State.setLine_bell (s : State) (n : Nat) (x : LineChannel) : (s.setLine n x).bell = s.bell := rfl
@[simp] theorem State.setLine_wear (s : State) (n : Nat) (x : LineChannel) : (s.setLine n x).wear = s.wear := rfl
@[simp] theorem State.setLine_fenced (s : State) (n : Nat) (x : LineChannel) : (s.setLine n x).fenced = s.fenced := rfl
@[simp] theorem State.setLine_bad (s : State) (n : Nat) (x : LineChannel) : (s.setLine n x).bad = s.bad := rfl
@[simp] theorem State.setLine_ports (s : State) (n : Nat) (x : LineChannel) : (s.setLine n x).ports = s.ports := rfl
@[simp] theorem State.setLine_lanes (s : State) (n : Nat) (x : LineChannel) : (s.setLine n x).lanes = s.lanes := rfl
@[simp] theorem State.setLine_pipes (s : State) (n : Nat) (x : LineChannel) : (s.setLine n x).pipes = s.pipes := rfl
@[simp] theorem State.setLine_ctl (s : State) (n : Nat) (x : LineChannel) : (s.setLine n x).ctl = s.ctl := rfl
@[simp] theorem State.setLine_tables (s : State) (n : Nat) (x : LineChannel) : (s.setLine n x).tables = s.tables := rfl
@[simp] theorem State.setLine_sw (s : State) (n : Nat) (x : LineChannel) : (s.setLine n x).sw = s.sw := rfl
@[simp] theorem State.setLine_far (s : State) (n : Nat) (x : LineChannel) : (s.setLine n x).far = s.far := rfl
@[simp] theorem State.setLine_tandem (s : State) (n : Nat) (x : LineChannel) : (s.setLine n x).tandem = s.tandem := rfl
@[simp] theorem State.setLine_peloton (s : State) (n : Nat) (x : LineChannel) : (s.setLine n x).peloton = s.peloton := rfl
@[simp] theorem State.setLine_cad_freeNs (s : State) (n : Nat) (x : LineChannel) : (s.setLine n x).cad.freeNs = s.cad.freeNs := rfl
@[simp] theorem State.setLine_cad_ptp (s : State) (n : Nat) (x : LineChannel) : (s.setLine n x).cad.ptp = s.cad.ptp := rfl
@[simp] theorem State.setLine_cad_stepCount (s : State) (n : Nat) (x : LineChannel) : (s.setLine n x).cad.stepCount = s.cad.stepCount := rfl
@[simp] theorem State.setLine_cad_freq (s : State) (n : Nat) (x : LineChannel) : (s.setLine n x).cad.freq = s.cad.freq := rfl
@[simp] theorem State.setLine_cad_slew (s : State) (n : Nat) (x : LineChannel) : (s.setLine n x).cad.slew = s.cad.slew := rfl
@[simp] theorem State.setLine_cad_stepPending (s : State) (n : Nat) (x : LineChannel) : (s.setLine n x).cad.stepPending = s.cad.stepPending := rfl
@[simp] theorem State.setLine_cad_stepBy (s : State) (n : Nat) (x : LineChannel) : (s.setLine n x).cad.stepBy = s.cad.stepBy := rfl
@[simp] theorem State.setLine_cad_stepMb (s : State) (n : Nat) (x : LineChannel) : (s.setLine n x).cad.stepMb = s.cad.stepMb := rfl
@[simp] theorem State.setLine_cad_stepResult (s : State) (n : Nat) (x : LineChannel) : (s.setLine n x).cad.stepResult = s.cad.stepResult := rfl
@[simp] theorem State.setLine_cad_timers (s : State) (n : Nat) (x : LineChannel) : (s.setLine n x).cad.timers = s.cad.timers := rfl
@[simp] theorem State.setLine_cad_pps (s : State) (n : Nat) (x : LineChannel) : (s.setLine n x).cad.pps = s.cad.pps := rfl
@[simp] theorem State.setLine_cad_synce (s : State) (n : Nat) (x : LineChannel) : (s.setLine n x).cad.synce = s.cad.synce := rfl
@[simp] theorem State.setLine_cad_gpios (s : State) (n : Nat) (x : LineChannel) : (s.setLine n x).cad.gpios = s.cad.gpios := rfl
@[simp] theorem State.setLine_cad_probes (s : State) (n : Nat) (x : LineChannel) : (s.setLine n x).cad.probes = s.cad.probes := rfl
@[simp] theorem State.setLine_cad_modules (s : State) (n : Nat) (x : LineChannel) : (s.setLine n x).cad.modules = s.cad.modules := rfl
@[simp] theorem State.setLine_cad_counters (s : State) (n : Nat) (x : LineChannel) : (s.setLine n x).cad.counters = s.cad.counters := rfl
@[simp] theorem State.setLine_line (s : State) (n : Nat) (x : LineChannel) : (s.setLine n x).line n = x := tget_tset_self ..
theorem State.setLine_line_ne (s : State) (n : Nat) (x : LineChannel) {m : Nat} (h : m ≠ n) : (s.setLine n x).line m = s.line m :=
  tget_tset_ne _ _ _ h

/-! ### setLearn -/

@[simp] theorem State.setLearn_pending (s : State) (n : Nat) (x : LearnCfg) : (s.setLearn n x).pending = s.pending := rfl
@[simp] theorem State.setLearn_freeIx (s : State) (n : Nat) (x : LearnCfg) : (s.setLearn n x).freeIx = s.freeIx := rfl
@[simp] theorem State.setLearn_balls (s : State) (n : Nat) (x : LearnCfg) : (s.setLearn n x).balls = s.balls := rfl
@[simp] theorem State.setLearn_boot (s : State) (n : Nat) (x : LearnCfg) : (s.setLearn n x).boot = s.boot := rfl
@[simp] theorem State.setLearn_fuses (s : State) (n : Nat) (x : LearnCfg) : (s.setLearn n x).fuses = s.fuses := rfl
@[simp] theorem State.setLearn_flash (s : State) (n : Nat) (x : LearnCfg) : (s.setLearn n x).flash = s.flash := rfl
@[simp] theorem State.setLearn_fw (s : State) (n : Nat) (x : LearnCfg) : (s.setLearn n x).fw = s.fw := rfl
@[simp] theorem State.setLearn_claims (s : State) (n : Nat) (x : LearnCfg) : (s.setLearn n x).claims = s.claims := rfl
@[simp] theorem State.setLearn_mboxes (s : State) (n : Nat) (x : LearnCfg) : (s.setLearn n x).mboxes = s.mboxes := rfl
@[simp] theorem State.setLearn_gears (s : State) (n : Nat) (x : LearnCfg) : (s.setLearn n x).gears = s.gears := rfl
@[simp] theorem State.setLearn_swap (s : State) (n : Nat) (x : LearnCfg) : (s.setLearn n x).swap = s.swap := rfl
@[simp] theorem State.setLearn_fences (s : State) (n : Nat) (x : LearnCfg) : (s.setLearn n x).fences = s.fences := rfl
@[simp] theorem State.setLearn_hostStamp (s : State) (n : Nat) (x : LearnCfg) : (s.setLearn n x).hostStamp = s.hostStamp := rfl
@[simp] theorem State.setLearn_host (s : State) (n : Nat) (x : LearnCfg) : (s.setLearn n x).host = s.host := rfl
@[simp] theorem State.setLearn_slices (s : State) (n : Nat) (x : LearnCfg) : (s.setLearn n x).slices = s.slices := rfl
@[simp] theorem State.setLearn_undo (s : State) (n : Nat) (x : LearnCfg) : (s.setLearn n x).undo = s.undo := rfl
@[simp] theorem State.setLearn_rings (s : State) (n : Nat) (x : LearnCfg) : (s.setLearn n x).rings = s.rings := rfl
@[simp] theorem State.setLearn_cad (s : State) (n : Nat) (x : LearnCfg) : (s.setLearn n x).cad = s.cad := rfl
@[simp] theorem State.setLearn_blocks (s : State) (n : Nat) (x : LearnCfg) : (s.setLearn n x).blocks = s.blocks := rfl
@[simp] theorem State.setLearn_bell (s : State) (n : Nat) (x : LearnCfg) : (s.setLearn n x).bell = s.bell := rfl
@[simp] theorem State.setLearn_wear (s : State) (n : Nat) (x : LearnCfg) : (s.setLearn n x).wear = s.wear := rfl
@[simp] theorem State.setLearn_fenced (s : State) (n : Nat) (x : LearnCfg) : (s.setLearn n x).fenced = s.fenced := rfl
@[simp] theorem State.setLearn_bad (s : State) (n : Nat) (x : LearnCfg) : (s.setLearn n x).bad = s.bad := rfl
@[simp] theorem State.setLearn_ports (s : State) (n : Nat) (x : LearnCfg) : (s.setLearn n x).ports = s.ports := rfl
@[simp] theorem State.setLearn_lanes (s : State) (n : Nat) (x : LearnCfg) : (s.setLearn n x).lanes = s.lanes := rfl
@[simp] theorem State.setLearn_pipes (s : State) (n : Nat) (x : LearnCfg) : (s.setLearn n x).pipes = s.pipes := rfl
@[simp] theorem State.setLearn_ctl (s : State) (n : Nat) (x : LearnCfg) : (s.setLearn n x).ctl = s.ctl := rfl
@[simp] theorem State.setLearn_sw (s : State) (n : Nat) (x : LearnCfg) : (s.setLearn n x).sw = s.sw := rfl
@[simp] theorem State.setLearn_far (s : State) (n : Nat) (x : LearnCfg) : (s.setLearn n x).far = s.far := rfl
@[simp] theorem State.setLearn_tandem (s : State) (n : Nat) (x : LearnCfg) : (s.setLearn n x).tandem = s.tandem := rfl
@[simp] theorem State.setLearn_peloton (s : State) (n : Nat) (x : LearnCfg) : (s.setLearn n x).peloton = s.peloton := rfl
@[simp] theorem State.setLearn_tables_descs (s : State) (n : Nat) (x : LearnCfg) : (s.setLearn n x).tables.descs = s.tables.descs := rfl
@[simp] theorem State.setLearn_tables_entries (s : State) (n : Nat) (x : LearnCfg) : (s.setLearn n x).tables.entries = s.tables.entries := rfl
@[simp] theorem State.setLearn_tables_gens (s : State) (n : Nat) (x : LearnCfg) : (s.setLearn n x).tables.gens = s.tables.gens := rfl
@[simp] theorem State.setLearn_tables_routes (s : State) (n : Nat) (x : LearnCfg) : (s.setLearn n x).tables.routes = s.tables.routes := rfl
@[simp] theorem State.setLearn_tables_results (s : State) (n : Nat) (x : LearnCfg) : (s.setLearn n x).tables.results = s.tables.results := rfl
@[simp] theorem State.setLearn_tables_pairs (s : State) (n : Nat) (x : LearnCfg) : (s.setLearn n x).tables.pairs = s.tables.pairs := rfl
@[simp] theorem State.setLearn_tables_te (s : State) (n : Nat) (x : LearnCfg) : (s.setLearn n x).tables.te = s.tables.te := rfl
@[simp] theorem State.setLearn_learnCfg (s : State) (n : Nat) (x : LearnCfg) : (s.setLearn n x).learnCfg n = x := tget_tset_self ..
theorem State.setLearn_learnCfg_ne (s : State) (n : Nat) (x : LearnCfg) {m : Nat} (h : m ≠ n) : (s.setLearn n x).learnCfg m = s.learnCfg m :=
  tget_tset_ne _ _ _ h

/-! ### setGpio -/

@[simp] theorem State.setGpio_pending (s : State) (n : Nat) (x : Gpio) : (s.setGpio n x).pending = s.pending := rfl
@[simp] theorem State.setGpio_freeIx (s : State) (n : Nat) (x : Gpio) : (s.setGpio n x).freeIx = s.freeIx := rfl
@[simp] theorem State.setGpio_balls (s : State) (n : Nat) (x : Gpio) : (s.setGpio n x).balls = s.balls := rfl
@[simp] theorem State.setGpio_boot (s : State) (n : Nat) (x : Gpio) : (s.setGpio n x).boot = s.boot := rfl
@[simp] theorem State.setGpio_fuses (s : State) (n : Nat) (x : Gpio) : (s.setGpio n x).fuses = s.fuses := rfl
@[simp] theorem State.setGpio_flash (s : State) (n : Nat) (x : Gpio) : (s.setGpio n x).flash = s.flash := rfl
@[simp] theorem State.setGpio_fw (s : State) (n : Nat) (x : Gpio) : (s.setGpio n x).fw = s.fw := rfl
@[simp] theorem State.setGpio_claims (s : State) (n : Nat) (x : Gpio) : (s.setGpio n x).claims = s.claims := rfl
@[simp] theorem State.setGpio_mboxes (s : State) (n : Nat) (x : Gpio) : (s.setGpio n x).mboxes = s.mboxes := rfl
@[simp] theorem State.setGpio_gears (s : State) (n : Nat) (x : Gpio) : (s.setGpio n x).gears = s.gears := rfl
@[simp] theorem State.setGpio_swap (s : State) (n : Nat) (x : Gpio) : (s.setGpio n x).swap = s.swap := rfl
@[simp] theorem State.setGpio_fences (s : State) (n : Nat) (x : Gpio) : (s.setGpio n x).fences = s.fences := rfl
@[simp] theorem State.setGpio_hostStamp (s : State) (n : Nat) (x : Gpio) : (s.setGpio n x).hostStamp = s.hostStamp := rfl
@[simp] theorem State.setGpio_host (s : State) (n : Nat) (x : Gpio) : (s.setGpio n x).host = s.host := rfl
@[simp] theorem State.setGpio_slices (s : State) (n : Nat) (x : Gpio) : (s.setGpio n x).slices = s.slices := rfl
@[simp] theorem State.setGpio_undo (s : State) (n : Nat) (x : Gpio) : (s.setGpio n x).undo = s.undo := rfl
@[simp] theorem State.setGpio_rings (s : State) (n : Nat) (x : Gpio) : (s.setGpio n x).rings = s.rings := rfl
@[simp] theorem State.setGpio_blocks (s : State) (n : Nat) (x : Gpio) : (s.setGpio n x).blocks = s.blocks := rfl
@[simp] theorem State.setGpio_bell (s : State) (n : Nat) (x : Gpio) : (s.setGpio n x).bell = s.bell := rfl
@[simp] theorem State.setGpio_wear (s : State) (n : Nat) (x : Gpio) : (s.setGpio n x).wear = s.wear := rfl
@[simp] theorem State.setGpio_fenced (s : State) (n : Nat) (x : Gpio) : (s.setGpio n x).fenced = s.fenced := rfl
@[simp] theorem State.setGpio_bad (s : State) (n : Nat) (x : Gpio) : (s.setGpio n x).bad = s.bad := rfl
@[simp] theorem State.setGpio_ports (s : State) (n : Nat) (x : Gpio) : (s.setGpio n x).ports = s.ports := rfl
@[simp] theorem State.setGpio_lanes (s : State) (n : Nat) (x : Gpio) : (s.setGpio n x).lanes = s.lanes := rfl
@[simp] theorem State.setGpio_pipes (s : State) (n : Nat) (x : Gpio) : (s.setGpio n x).pipes = s.pipes := rfl
@[simp] theorem State.setGpio_ctl (s : State) (n : Nat) (x : Gpio) : (s.setGpio n x).ctl = s.ctl := rfl
@[simp] theorem State.setGpio_tables (s : State) (n : Nat) (x : Gpio) : (s.setGpio n x).tables = s.tables := rfl
@[simp] theorem State.setGpio_sw (s : State) (n : Nat) (x : Gpio) : (s.setGpio n x).sw = s.sw := rfl
@[simp] theorem State.setGpio_far (s : State) (n : Nat) (x : Gpio) : (s.setGpio n x).far = s.far := rfl
@[simp] theorem State.setGpio_tandem (s : State) (n : Nat) (x : Gpio) : (s.setGpio n x).tandem = s.tandem := rfl
@[simp] theorem State.setGpio_peloton (s : State) (n : Nat) (x : Gpio) : (s.setGpio n x).peloton = s.peloton := rfl
@[simp] theorem State.setGpio_cad_freeNs (s : State) (n : Nat) (x : Gpio) : (s.setGpio n x).cad.freeNs = s.cad.freeNs := rfl
@[simp] theorem State.setGpio_cad_ptp (s : State) (n : Nat) (x : Gpio) : (s.setGpio n x).cad.ptp = s.cad.ptp := rfl
@[simp] theorem State.setGpio_cad_stepCount (s : State) (n : Nat) (x : Gpio) : (s.setGpio n x).cad.stepCount = s.cad.stepCount := rfl
@[simp] theorem State.setGpio_cad_freq (s : State) (n : Nat) (x : Gpio) : (s.setGpio n x).cad.freq = s.cad.freq := rfl
@[simp] theorem State.setGpio_cad_slew (s : State) (n : Nat) (x : Gpio) : (s.setGpio n x).cad.slew = s.cad.slew := rfl
@[simp] theorem State.setGpio_cad_stepPending (s : State) (n : Nat) (x : Gpio) : (s.setGpio n x).cad.stepPending = s.cad.stepPending := rfl
@[simp] theorem State.setGpio_cad_stepBy (s : State) (n : Nat) (x : Gpio) : (s.setGpio n x).cad.stepBy = s.cad.stepBy := rfl
@[simp] theorem State.setGpio_cad_stepMb (s : State) (n : Nat) (x : Gpio) : (s.setGpio n x).cad.stepMb = s.cad.stepMb := rfl
@[simp] theorem State.setGpio_cad_stepResult (s : State) (n : Nat) (x : Gpio) : (s.setGpio n x).cad.stepResult = s.cad.stepResult := rfl
@[simp] theorem State.setGpio_cad_timers (s : State) (n : Nat) (x : Gpio) : (s.setGpio n x).cad.timers = s.cad.timers := rfl
@[simp] theorem State.setGpio_cad_pps (s : State) (n : Nat) (x : Gpio) : (s.setGpio n x).cad.pps = s.cad.pps := rfl
@[simp] theorem State.setGpio_cad_synce (s : State) (n : Nat) (x : Gpio) : (s.setGpio n x).cad.synce = s.cad.synce := rfl
@[simp] theorem State.setGpio_cad_probes (s : State) (n : Nat) (x : Gpio) : (s.setGpio n x).cad.probes = s.cad.probes := rfl
@[simp] theorem State.setGpio_cad_lines (s : State) (n : Nat) (x : Gpio) : (s.setGpio n x).cad.lines = s.cad.lines := rfl
@[simp] theorem State.setGpio_cad_modules (s : State) (n : Nat) (x : Gpio) : (s.setGpio n x).cad.modules = s.cad.modules := rfl
@[simp] theorem State.setGpio_cad_counters (s : State) (n : Nat) (x : Gpio) : (s.setGpio n x).cad.counters = s.cad.counters := rfl
@[simp] theorem State.setGpio_gpio (s : State) (n : Nat) (x : Gpio) : (s.setGpio n x).gpio n = x := tget_tset_self ..
theorem State.setGpio_gpio_ne (s : State) (n : Nat) (x : Gpio) {m : Nat} (h : m ≠ n) : (s.setGpio n x).gpio m = s.gpio m :=
  tget_tset_ne _ _ _ h

/-! ### setLink -/

@[simp] theorem State.setLink_pending (s : State) (n : Nat) (x : FabricLink) : (s.setLink n x).pending = s.pending := rfl
@[simp] theorem State.setLink_freeIx (s : State) (n : Nat) (x : FabricLink) : (s.setLink n x).freeIx = s.freeIx := rfl
@[simp] theorem State.setLink_balls (s : State) (n : Nat) (x : FabricLink) : (s.setLink n x).balls = s.balls := rfl
@[simp] theorem State.setLink_boot (s : State) (n : Nat) (x : FabricLink) : (s.setLink n x).boot = s.boot := rfl
@[simp] theorem State.setLink_fuses (s : State) (n : Nat) (x : FabricLink) : (s.setLink n x).fuses = s.fuses := rfl
@[simp] theorem State.setLink_flash (s : State) (n : Nat) (x : FabricLink) : (s.setLink n x).flash = s.flash := rfl
@[simp] theorem State.setLink_fw (s : State) (n : Nat) (x : FabricLink) : (s.setLink n x).fw = s.fw := rfl
@[simp] theorem State.setLink_claims (s : State) (n : Nat) (x : FabricLink) : (s.setLink n x).claims = s.claims := rfl
@[simp] theorem State.setLink_mboxes (s : State) (n : Nat) (x : FabricLink) : (s.setLink n x).mboxes = s.mboxes := rfl
@[simp] theorem State.setLink_gears (s : State) (n : Nat) (x : FabricLink) : (s.setLink n x).gears = s.gears := rfl
@[simp] theorem State.setLink_swap (s : State) (n : Nat) (x : FabricLink) : (s.setLink n x).swap = s.swap := rfl
@[simp] theorem State.setLink_fences (s : State) (n : Nat) (x : FabricLink) : (s.setLink n x).fences = s.fences := rfl
@[simp] theorem State.setLink_hostStamp (s : State) (n : Nat) (x : FabricLink) : (s.setLink n x).hostStamp = s.hostStamp := rfl
@[simp] theorem State.setLink_host (s : State) (n : Nat) (x : FabricLink) : (s.setLink n x).host = s.host := rfl
@[simp] theorem State.setLink_slices (s : State) (n : Nat) (x : FabricLink) : (s.setLink n x).slices = s.slices := rfl
@[simp] theorem State.setLink_undo (s : State) (n : Nat) (x : FabricLink) : (s.setLink n x).undo = s.undo := rfl
@[simp] theorem State.setLink_rings (s : State) (n : Nat) (x : FabricLink) : (s.setLink n x).rings = s.rings := rfl
@[simp] theorem State.setLink_cad (s : State) (n : Nat) (x : FabricLink) : (s.setLink n x).cad = s.cad := rfl
@[simp] theorem State.setLink_blocks (s : State) (n : Nat) (x : FabricLink) : (s.setLink n x).blocks = s.blocks := rfl
@[simp] theorem State.setLink_bell (s : State) (n : Nat) (x : FabricLink) : (s.setLink n x).bell = s.bell := rfl
@[simp] theorem State.setLink_wear (s : State) (n : Nat) (x : FabricLink) : (s.setLink n x).wear = s.wear := rfl
@[simp] theorem State.setLink_fenced (s : State) (n : Nat) (x : FabricLink) : (s.setLink n x).fenced = s.fenced := rfl
@[simp] theorem State.setLink_bad (s : State) (n : Nat) (x : FabricLink) : (s.setLink n x).bad = s.bad := rfl
@[simp] theorem State.setLink_ports (s : State) (n : Nat) (x : FabricLink) : (s.setLink n x).ports = s.ports := rfl
@[simp] theorem State.setLink_lanes (s : State) (n : Nat) (x : FabricLink) : (s.setLink n x).lanes = s.lanes := rfl
@[simp] theorem State.setLink_pipes (s : State) (n : Nat) (x : FabricLink) : (s.setLink n x).pipes = s.pipes := rfl
@[simp] theorem State.setLink_ctl (s : State) (n : Nat) (x : FabricLink) : (s.setLink n x).ctl = s.ctl := rfl
@[simp] theorem State.setLink_tables (s : State) (n : Nat) (x : FabricLink) : (s.setLink n x).tables = s.tables := rfl
@[simp] theorem State.setLink_sw (s : State) (n : Nat) (x : FabricLink) : (s.setLink n x).sw = s.sw := rfl
@[simp] theorem State.setLink_far (s : State) (n : Nat) (x : FabricLink) : (s.setLink n x).far = s.far := rfl
@[simp] theorem State.setLink_tandem (s : State) (n : Nat) (x : FabricLink) : (s.setLink n x).tandem = s.tandem := rfl
@[simp] theorem State.setLink_peloton_joined (s : State) (n : Nat) (x : FabricLink) : (s.setLink n x).peloton.joined = s.peloton.joined := rfl
@[simp] theorem State.setLink_peloton_paired (s : State) (n : Nat) (x : FabricLink) : (s.setLink n x).peloton.paired = s.peloton.paired := rfl
@[simp] theorem State.setLink_peloton_spareUsed (s : State) (n : Nat) (x : FabricLink) : (s.setLink n x).peloton.spareUsed = s.peloton.spareUsed := rfl
@[simp] theorem State.setLink_link (s : State) (n : Nat) (x : FabricLink) : (s.setLink n x).link n = x := tget_tset_self ..
theorem State.setLink_link_ne (s : State) (n : Nat) (x : FabricLink) {m : Nat} (h : m ≠ n) : (s.setLink n x).link m = s.link m :=
  tget_tset_ne _ _ _ h

/-! ### setFence -/

@[simp] theorem State.setFence_pending (s : State) (n : Nat) (x : Option PendingFence) : (s.setFence n x).pending = s.pending := rfl
@[simp] theorem State.setFence_freeIx (s : State) (n : Nat) (x : Option PendingFence) : (s.setFence n x).freeIx = s.freeIx := rfl
@[simp] theorem State.setFence_balls (s : State) (n : Nat) (x : Option PendingFence) : (s.setFence n x).balls = s.balls := rfl
@[simp] theorem State.setFence_boot (s : State) (n : Nat) (x : Option PendingFence) : (s.setFence n x).boot = s.boot := rfl
@[simp] theorem State.setFence_fuses (s : State) (n : Nat) (x : Option PendingFence) : (s.setFence n x).fuses = s.fuses := rfl
@[simp] theorem State.setFence_flash (s : State) (n : Nat) (x : Option PendingFence) : (s.setFence n x).flash = s.flash := rfl
@[simp] theorem State.setFence_fw (s : State) (n : Nat) (x : Option PendingFence) : (s.setFence n x).fw = s.fw := rfl
@[simp] theorem State.setFence_claims (s : State) (n : Nat) (x : Option PendingFence) : (s.setFence n x).claims = s.claims := rfl
@[simp] theorem State.setFence_mboxes (s : State) (n : Nat) (x : Option PendingFence) : (s.setFence n x).mboxes = s.mboxes := rfl
@[simp] theorem State.setFence_gears (s : State) (n : Nat) (x : Option PendingFence) : (s.setFence n x).gears = s.gears := rfl
@[simp] theorem State.setFence_swap (s : State) (n : Nat) (x : Option PendingFence) : (s.setFence n x).swap = s.swap := rfl
@[simp] theorem State.setFence_hostStamp (s : State) (n : Nat) (x : Option PendingFence) : (s.setFence n x).hostStamp = s.hostStamp := rfl
@[simp] theorem State.setFence_host (s : State) (n : Nat) (x : Option PendingFence) : (s.setFence n x).host = s.host := rfl
@[simp] theorem State.setFence_slices (s : State) (n : Nat) (x : Option PendingFence) : (s.setFence n x).slices = s.slices := rfl
@[simp] theorem State.setFence_undo (s : State) (n : Nat) (x : Option PendingFence) : (s.setFence n x).undo = s.undo := rfl
@[simp] theorem State.setFence_rings (s : State) (n : Nat) (x : Option PendingFence) : (s.setFence n x).rings = s.rings := rfl
@[simp] theorem State.setFence_cad (s : State) (n : Nat) (x : Option PendingFence) : (s.setFence n x).cad = s.cad := rfl
@[simp] theorem State.setFence_blocks (s : State) (n : Nat) (x : Option PendingFence) : (s.setFence n x).blocks = s.blocks := rfl
@[simp] theorem State.setFence_bell (s : State) (n : Nat) (x : Option PendingFence) : (s.setFence n x).bell = s.bell := rfl
@[simp] theorem State.setFence_wear (s : State) (n : Nat) (x : Option PendingFence) : (s.setFence n x).wear = s.wear := rfl
@[simp] theorem State.setFence_fenced (s : State) (n : Nat) (x : Option PendingFence) : (s.setFence n x).fenced = s.fenced := rfl
@[simp] theorem State.setFence_bad (s : State) (n : Nat) (x : Option PendingFence) : (s.setFence n x).bad = s.bad := rfl
@[simp] theorem State.setFence_ports (s : State) (n : Nat) (x : Option PendingFence) : (s.setFence n x).ports = s.ports := rfl
@[simp] theorem State.setFence_lanes (s : State) (n : Nat) (x : Option PendingFence) : (s.setFence n x).lanes = s.lanes := rfl
@[simp] theorem State.setFence_pipes (s : State) (n : Nat) (x : Option PendingFence) : (s.setFence n x).pipes = s.pipes := rfl
@[simp] theorem State.setFence_ctl (s : State) (n : Nat) (x : Option PendingFence) : (s.setFence n x).ctl = s.ctl := rfl
@[simp] theorem State.setFence_tables (s : State) (n : Nat) (x : Option PendingFence) : (s.setFence n x).tables = s.tables := rfl
@[simp] theorem State.setFence_sw (s : State) (n : Nat) (x : Option PendingFence) : (s.setFence n x).sw = s.sw := rfl
@[simp] theorem State.setFence_far (s : State) (n : Nat) (x : Option PendingFence) : (s.setFence n x).far = s.far := rfl
@[simp] theorem State.setFence_tandem (s : State) (n : Nat) (x : Option PendingFence) : (s.setFence n x).tandem = s.tandem := rfl
@[simp] theorem State.setFence_peloton (s : State) (n : Nat) (x : Option PendingFence) : (s.setFence n x).peloton = s.peloton := rfl
@[simp] theorem State.setFence_fenceOf (s : State) (n : Nat) (x : Option PendingFence) : (s.setFence n x).fenceOf n = x := tget_tset_self ..
theorem State.setFence_fenceOf_ne (s : State) (n : Nat) (x : Option PendingFence) {m : Nat} (h : m ≠ n) : (s.setFence n x).fenceOf m = s.fenceOf m :=
  tget_tset_ne _ _ _ h

/-! ### setVector -/

@[simp] theorem State.setVector_pending (s : State) (n : Nat) (x : Vector) : (s.setVector n x).pending = s.pending := rfl
@[simp] theorem State.setVector_freeIx (s : State) (n : Nat) (x : Vector) : (s.setVector n x).freeIx = s.freeIx := rfl
@[simp] theorem State.setVector_balls (s : State) (n : Nat) (x : Vector) : (s.setVector n x).balls = s.balls := rfl
@[simp] theorem State.setVector_boot (s : State) (n : Nat) (x : Vector) : (s.setVector n x).boot = s.boot := rfl
@[simp] theorem State.setVector_fuses (s : State) (n : Nat) (x : Vector) : (s.setVector n x).fuses = s.fuses := rfl
@[simp] theorem State.setVector_flash (s : State) (n : Nat) (x : Vector) : (s.setVector n x).flash = s.flash := rfl
@[simp] theorem State.setVector_fw (s : State) (n : Nat) (x : Vector) : (s.setVector n x).fw = s.fw := rfl
@[simp] theorem State.setVector_claims (s : State) (n : Nat) (x : Vector) : (s.setVector n x).claims = s.claims := rfl
@[simp] theorem State.setVector_mboxes (s : State) (n : Nat) (x : Vector) : (s.setVector n x).mboxes = s.mboxes := rfl
@[simp] theorem State.setVector_gears (s : State) (n : Nat) (x : Vector) : (s.setVector n x).gears = s.gears := rfl
@[simp] theorem State.setVector_swap (s : State) (n : Nat) (x : Vector) : (s.setVector n x).swap = s.swap := rfl
@[simp] theorem State.setVector_fences (s : State) (n : Nat) (x : Vector) : (s.setVector n x).fences = s.fences := rfl
@[simp] theorem State.setVector_hostStamp (s : State) (n : Nat) (x : Vector) : (s.setVector n x).hostStamp = s.hostStamp := rfl
@[simp] theorem State.setVector_slices (s : State) (n : Nat) (x : Vector) : (s.setVector n x).slices = s.slices := rfl
@[simp] theorem State.setVector_undo (s : State) (n : Nat) (x : Vector) : (s.setVector n x).undo = s.undo := rfl
@[simp] theorem State.setVector_rings (s : State) (n : Nat) (x : Vector) : (s.setVector n x).rings = s.rings := rfl
@[simp] theorem State.setVector_cad (s : State) (n : Nat) (x : Vector) : (s.setVector n x).cad = s.cad := rfl
@[simp] theorem State.setVector_blocks (s : State) (n : Nat) (x : Vector) : (s.setVector n x).blocks = s.blocks := rfl
@[simp] theorem State.setVector_bell (s : State) (n : Nat) (x : Vector) : (s.setVector n x).bell = s.bell := rfl
@[simp] theorem State.setVector_wear (s : State) (n : Nat) (x : Vector) : (s.setVector n x).wear = s.wear := rfl
@[simp] theorem State.setVector_fenced (s : State) (n : Nat) (x : Vector) : (s.setVector n x).fenced = s.fenced := rfl
@[simp] theorem State.setVector_bad (s : State) (n : Nat) (x : Vector) : (s.setVector n x).bad = s.bad := rfl
@[simp] theorem State.setVector_ports (s : State) (n : Nat) (x : Vector) : (s.setVector n x).ports = s.ports := rfl
@[simp] theorem State.setVector_lanes (s : State) (n : Nat) (x : Vector) : (s.setVector n x).lanes = s.lanes := rfl
@[simp] theorem State.setVector_pipes (s : State) (n : Nat) (x : Vector) : (s.setVector n x).pipes = s.pipes := rfl
@[simp] theorem State.setVector_ctl (s : State) (n : Nat) (x : Vector) : (s.setVector n x).ctl = s.ctl := rfl
@[simp] theorem State.setVector_tables (s : State) (n : Nat) (x : Vector) : (s.setVector n x).tables = s.tables := rfl
@[simp] theorem State.setVector_sw (s : State) (n : Nat) (x : Vector) : (s.setVector n x).sw = s.sw := rfl
@[simp] theorem State.setVector_far (s : State) (n : Nat) (x : Vector) : (s.setVector n x).far = s.far := rfl
@[simp] theorem State.setVector_tandem (s : State) (n : Nat) (x : Vector) : (s.setVector n x).tandem = s.tandem := rfl
@[simp] theorem State.setVector_peloton (s : State) (n : Nat) (x : Vector) : (s.setVector n x).peloton = s.peloton := rfl
@[simp] theorem State.setVector_host_mem (s : State) (n : Nat) (x : Vector) : (s.setVector n x).host.mem = s.host.mem := rfl
@[simp] theorem State.setVector_host_spaces (s : State) (n : Nat) (x : Vector) : (s.setVector n x).host.spaces = s.host.spaces := rfl
@[simp] theorem State.setVector_host_linkUp (s : State) (n : Nat) (x : Vector) : (s.setVector n x).host.linkUp = s.host.linkUp := rfl
@[simp] theorem State.setVector_host_training (s : State) (n : Nat) (x : Vector) : (s.setVector n x).host.training = s.host.training := rfl
@[simp] theorem State.setVector_host_speed (s : State) (n : Nat) (x : Vector) : (s.setVector n x).host.speed = s.host.speed := rfl
@[simp] theorem State.setVector_host_width (s : State) (n : Nat) (x : Vector) : (s.setVector n x).host.width = s.host.width := rfl
@[simp] theorem State.setVector_host_d3hot (s : State) (n : Nat) (x : Vector) : (s.setVector n x).host.d3hot = s.host.d3hot := rfl
@[simp] theorem State.setVector_host_perstN (s : State) (n : Nat) (x : Vector) : (s.setVector n x).host.perstN = s.host.perstN := rfl
@[simp] theorem State.setVector_host_refclk (s : State) (n : Nat) (x : Vector) : (s.setVector n x).host.refclk = s.host.refclk := rfl
@[simp] theorem State.setVector_host_maps (s : State) (n : Nat) (x : Vector) : (s.setVector n x).host.maps = s.host.maps := rfl
@[simp] theorem State.setVector_host_rings (s : State) (n : Nat) (x : Vector) : (s.setVector n x).host.rings = s.host.rings := rfl
@[simp] theorem State.setVector_host_samples (s : State) (n : Nat) (x : Vector) : (s.setVector n x).host.samples = s.host.samples := rfl
@[simp] theorem State.setVector_host_txTurn (s : State) (n : Nat) (x : Vector) : (s.setVector n x).host.txTurn = s.host.txTurn := rfl

/-! ### setTe -/

@[simp] theorem State.setTe_pending (s : State) (x : TableEngine) : (s.setTe x).pending = s.pending := rfl
@[simp] theorem State.setTe_freeIx (s : State) (x : TableEngine) : (s.setTe x).freeIx = s.freeIx := rfl
@[simp] theorem State.setTe_balls (s : State) (x : TableEngine) : (s.setTe x).balls = s.balls := rfl
@[simp] theorem State.setTe_boot (s : State) (x : TableEngine) : (s.setTe x).boot = s.boot := rfl
@[simp] theorem State.setTe_fuses (s : State) (x : TableEngine) : (s.setTe x).fuses = s.fuses := rfl
@[simp] theorem State.setTe_flash (s : State) (x : TableEngine) : (s.setTe x).flash = s.flash := rfl
@[simp] theorem State.setTe_fw (s : State) (x : TableEngine) : (s.setTe x).fw = s.fw := rfl
@[simp] theorem State.setTe_claims (s : State) (x : TableEngine) : (s.setTe x).claims = s.claims := rfl
@[simp] theorem State.setTe_mboxes (s : State) (x : TableEngine) : (s.setTe x).mboxes = s.mboxes := rfl
@[simp] theorem State.setTe_gears (s : State) (x : TableEngine) : (s.setTe x).gears = s.gears := rfl
@[simp] theorem State.setTe_swap (s : State) (x : TableEngine) : (s.setTe x).swap = s.swap := rfl
@[simp] theorem State.setTe_fences (s : State) (x : TableEngine) : (s.setTe x).fences = s.fences := rfl
@[simp] theorem State.setTe_hostStamp (s : State) (x : TableEngine) : (s.setTe x).hostStamp = s.hostStamp := rfl
@[simp] theorem State.setTe_host (s : State) (x : TableEngine) : (s.setTe x).host = s.host := rfl
@[simp] theorem State.setTe_slices (s : State) (x : TableEngine) : (s.setTe x).slices = s.slices := rfl
@[simp] theorem State.setTe_undo (s : State) (x : TableEngine) : (s.setTe x).undo = s.undo := rfl
@[simp] theorem State.setTe_rings (s : State) (x : TableEngine) : (s.setTe x).rings = s.rings := rfl
@[simp] theorem State.setTe_cad (s : State) (x : TableEngine) : (s.setTe x).cad = s.cad := rfl
@[simp] theorem State.setTe_blocks (s : State) (x : TableEngine) : (s.setTe x).blocks = s.blocks := rfl
@[simp] theorem State.setTe_bell (s : State) (x : TableEngine) : (s.setTe x).bell = s.bell := rfl
@[simp] theorem State.setTe_wear (s : State) (x : TableEngine) : (s.setTe x).wear = s.wear := rfl
@[simp] theorem State.setTe_fenced (s : State) (x : TableEngine) : (s.setTe x).fenced = s.fenced := rfl
@[simp] theorem State.setTe_bad (s : State) (x : TableEngine) : (s.setTe x).bad = s.bad := rfl
@[simp] theorem State.setTe_ports (s : State) (x : TableEngine) : (s.setTe x).ports = s.ports := rfl
@[simp] theorem State.setTe_lanes (s : State) (x : TableEngine) : (s.setTe x).lanes = s.lanes := rfl
@[simp] theorem State.setTe_pipes (s : State) (x : TableEngine) : (s.setTe x).pipes = s.pipes := rfl
@[simp] theorem State.setTe_ctl (s : State) (x : TableEngine) : (s.setTe x).ctl = s.ctl := rfl
@[simp] theorem State.setTe_sw (s : State) (x : TableEngine) : (s.setTe x).sw = s.sw := rfl
@[simp] theorem State.setTe_far (s : State) (x : TableEngine) : (s.setTe x).far = s.far := rfl
@[simp] theorem State.setTe_tandem (s : State) (x : TableEngine) : (s.setTe x).tandem = s.tandem := rfl
@[simp] theorem State.setTe_peloton (s : State) (x : TableEngine) : (s.setTe x).peloton = s.peloton := rfl
@[simp] theorem State.setTe_tables_descs (s : State) (x : TableEngine) : (s.setTe x).tables.descs = s.tables.descs := rfl
@[simp] theorem State.setTe_tables_entries (s : State) (x : TableEngine) : (s.setTe x).tables.entries = s.tables.entries := rfl
@[simp] theorem State.setTe_tables_gens (s : State) (x : TableEngine) : (s.setTe x).tables.gens = s.tables.gens := rfl
@[simp] theorem State.setTe_tables_learn (s : State) (x : TableEngine) : (s.setTe x).tables.learn = s.tables.learn := rfl
@[simp] theorem State.setTe_tables_routes (s : State) (x : TableEngine) : (s.setTe x).tables.routes = s.tables.routes := rfl
@[simp] theorem State.setTe_tables_results (s : State) (x : TableEngine) : (s.setTe x).tables.results = s.tables.results := rfl
@[simp] theorem State.setTe_tables_pairs (s : State) (x : TableEngine) : (s.setTe x).tables.pairs = s.tables.pairs := rfl
@[simp] theorem State.setTe_te (s : State) (x : TableEngine) : (s.setTe x).te = x := rfl

/-! ### setFenced -/

@[simp] theorem State.setFenced_pending (s : State) (kind index : Nat) (b : Bool) : (s.setFenced kind index b).pending = s.pending := rfl
@[simp] theorem State.setFenced_freeIx (s : State) (kind index : Nat) (b : Bool) : (s.setFenced kind index b).freeIx = s.freeIx := rfl
@[simp] theorem State.setFenced_balls (s : State) (kind index : Nat) (b : Bool) : (s.setFenced kind index b).balls = s.balls := rfl
@[simp] theorem State.setFenced_boot (s : State) (kind index : Nat) (b : Bool) : (s.setFenced kind index b).boot = s.boot := rfl
@[simp] theorem State.setFenced_fuses (s : State) (kind index : Nat) (b : Bool) : (s.setFenced kind index b).fuses = s.fuses := rfl
@[simp] theorem State.setFenced_flash (s : State) (kind index : Nat) (b : Bool) : (s.setFenced kind index b).flash = s.flash := rfl
@[simp] theorem State.setFenced_fw (s : State) (kind index : Nat) (b : Bool) : (s.setFenced kind index b).fw = s.fw := rfl
@[simp] theorem State.setFenced_claims (s : State) (kind index : Nat) (b : Bool) : (s.setFenced kind index b).claims = s.claims := rfl
@[simp] theorem State.setFenced_mboxes (s : State) (kind index : Nat) (b : Bool) : (s.setFenced kind index b).mboxes = s.mboxes := rfl
@[simp] theorem State.setFenced_gears (s : State) (kind index : Nat) (b : Bool) : (s.setFenced kind index b).gears = s.gears := rfl
@[simp] theorem State.setFenced_swap (s : State) (kind index : Nat) (b : Bool) : (s.setFenced kind index b).swap = s.swap := rfl
@[simp] theorem State.setFenced_fences (s : State) (kind index : Nat) (b : Bool) : (s.setFenced kind index b).fences = s.fences := rfl
@[simp] theorem State.setFenced_hostStamp (s : State) (kind index : Nat) (b : Bool) : (s.setFenced kind index b).hostStamp = s.hostStamp := rfl
@[simp] theorem State.setFenced_host (s : State) (kind index : Nat) (b : Bool) : (s.setFenced kind index b).host = s.host := rfl
@[simp] theorem State.setFenced_slices (s : State) (kind index : Nat) (b : Bool) : (s.setFenced kind index b).slices = s.slices := rfl
@[simp] theorem State.setFenced_undo (s : State) (kind index : Nat) (b : Bool) : (s.setFenced kind index b).undo = s.undo := rfl
@[simp] theorem State.setFenced_rings (s : State) (kind index : Nat) (b : Bool) : (s.setFenced kind index b).rings = s.rings := rfl
@[simp] theorem State.setFenced_cad (s : State) (kind index : Nat) (b : Bool) : (s.setFenced kind index b).cad = s.cad := rfl
@[simp] theorem State.setFenced_blocks (s : State) (kind index : Nat) (b : Bool) : (s.setFenced kind index b).blocks = s.blocks := rfl
@[simp] theorem State.setFenced_bell (s : State) (kind index : Nat) (b : Bool) : (s.setFenced kind index b).bell = s.bell := rfl
@[simp] theorem State.setFenced_wear (s : State) (kind index : Nat) (b : Bool) : (s.setFenced kind index b).wear = s.wear := rfl
@[simp] theorem State.setFenced_bad (s : State) (kind index : Nat) (b : Bool) : (s.setFenced kind index b).bad = s.bad := rfl
@[simp] theorem State.setFenced_ports (s : State) (kind index : Nat) (b : Bool) : (s.setFenced kind index b).ports = s.ports := rfl
@[simp] theorem State.setFenced_lanes (s : State) (kind index : Nat) (b : Bool) : (s.setFenced kind index b).lanes = s.lanes := rfl
@[simp] theorem State.setFenced_pipes (s : State) (kind index : Nat) (b : Bool) : (s.setFenced kind index b).pipes = s.pipes := rfl
@[simp] theorem State.setFenced_ctl (s : State) (kind index : Nat) (b : Bool) : (s.setFenced kind index b).ctl = s.ctl := rfl
@[simp] theorem State.setFenced_tables (s : State) (kind index : Nat) (b : Bool) : (s.setFenced kind index b).tables = s.tables := rfl
@[simp] theorem State.setFenced_sw (s : State) (kind index : Nat) (b : Bool) : (s.setFenced kind index b).sw = s.sw := rfl
@[simp] theorem State.setFenced_far (s : State) (kind index : Nat) (b : Bool) : (s.setFenced kind index b).far = s.far := rfl
@[simp] theorem State.setFenced_tandem (s : State) (kind index : Nat) (b : Bool) : (s.setFenced kind index b).tandem = s.tandem := rfl
@[simp] theorem State.setFenced_peloton (s : State) (kind index : Nat) (b : Bool) : (s.setFenced kind index b).peloton = s.peloton := rfl
@[simp] theorem State.setFenced_isFenced (s : State) (kind index : Nat) (b : Bool) :
    (s.setFenced kind index b).isFenced kind index = b := tget_tset_self ..

/-! ### setClaim -/

@[simp] theorem State.setClaim_pending (s : State) (cls index op object : Nat) : (s.setClaim cls index op object).pending = s.pending := rfl
@[simp] theorem State.setClaim_freeIx (s : State) (cls index op object : Nat) : (s.setClaim cls index op object).freeIx = s.freeIx := rfl
@[simp] theorem State.setClaim_balls (s : State) (cls index op object : Nat) : (s.setClaim cls index op object).balls = s.balls := rfl
@[simp] theorem State.setClaim_boot (s : State) (cls index op object : Nat) : (s.setClaim cls index op object).boot = s.boot := rfl
@[simp] theorem State.setClaim_fuses (s : State) (cls index op object : Nat) : (s.setClaim cls index op object).fuses = s.fuses := rfl
@[simp] theorem State.setClaim_flash (s : State) (cls index op object : Nat) : (s.setClaim cls index op object).flash = s.flash := rfl
@[simp] theorem State.setClaim_fw (s : State) (cls index op object : Nat) : (s.setClaim cls index op object).fw = s.fw := rfl
@[simp] theorem State.setClaim_mboxes (s : State) (cls index op object : Nat) : (s.setClaim cls index op object).mboxes = s.mboxes := rfl
@[simp] theorem State.setClaim_gears (s : State) (cls index op object : Nat) : (s.setClaim cls index op object).gears = s.gears := rfl
@[simp] theorem State.setClaim_swap (s : State) (cls index op object : Nat) : (s.setClaim cls index op object).swap = s.swap := rfl
@[simp] theorem State.setClaim_fences (s : State) (cls index op object : Nat) : (s.setClaim cls index op object).fences = s.fences := rfl
@[simp] theorem State.setClaim_hostStamp (s : State) (cls index op object : Nat) : (s.setClaim cls index op object).hostStamp = s.hostStamp := rfl
@[simp] theorem State.setClaim_host (s : State) (cls index op object : Nat) : (s.setClaim cls index op object).host = s.host := rfl
@[simp] theorem State.setClaim_slices (s : State) (cls index op object : Nat) : (s.setClaim cls index op object).slices = s.slices := rfl
@[simp] theorem State.setClaim_undo (s : State) (cls index op object : Nat) : (s.setClaim cls index op object).undo = s.undo := rfl
@[simp] theorem State.setClaim_rings (s : State) (cls index op object : Nat) : (s.setClaim cls index op object).rings = s.rings := rfl
@[simp] theorem State.setClaim_cad (s : State) (cls index op object : Nat) : (s.setClaim cls index op object).cad = s.cad := rfl
@[simp] theorem State.setClaim_blocks (s : State) (cls index op object : Nat) : (s.setClaim cls index op object).blocks = s.blocks := rfl
@[simp] theorem State.setClaim_bell (s : State) (cls index op object : Nat) : (s.setClaim cls index op object).bell = s.bell := rfl
@[simp] theorem State.setClaim_wear (s : State) (cls index op object : Nat) : (s.setClaim cls index op object).wear = s.wear := rfl
@[simp] theorem State.setClaim_fenced (s : State) (cls index op object : Nat) : (s.setClaim cls index op object).fenced = s.fenced := rfl
@[simp] theorem State.setClaim_bad (s : State) (cls index op object : Nat) : (s.setClaim cls index op object).bad = s.bad := rfl
@[simp] theorem State.setClaim_ports (s : State) (cls index op object : Nat) : (s.setClaim cls index op object).ports = s.ports := rfl
@[simp] theorem State.setClaim_lanes (s : State) (cls index op object : Nat) : (s.setClaim cls index op object).lanes = s.lanes := rfl
@[simp] theorem State.setClaim_pipes (s : State) (cls index op object : Nat) : (s.setClaim cls index op object).pipes = s.pipes := rfl
@[simp] theorem State.setClaim_ctl (s : State) (cls index op object : Nat) : (s.setClaim cls index op object).ctl = s.ctl := rfl
@[simp] theorem State.setClaim_tables (s : State) (cls index op object : Nat) : (s.setClaim cls index op object).tables = s.tables := rfl
@[simp] theorem State.setClaim_sw (s : State) (cls index op object : Nat) : (s.setClaim cls index op object).sw = s.sw := rfl
@[simp] theorem State.setClaim_far (s : State) (cls index op object : Nat) : (s.setClaim cls index op object).far = s.far := rfl
@[simp] theorem State.setClaim_tandem (s : State) (cls index op object : Nat) : (s.setClaim cls index op object).tandem = s.tandem := rfl
@[simp] theorem State.setClaim_peloton (s : State) (cls index op object : Nat) : (s.setClaim cls index op object).peloton = s.peloton := rfl

/-! ### release -/

@[simp] theorem State.release_pending (s : State) (cls index : Nat) : (s.release cls index).pending = s.pending := rfl
@[simp] theorem State.release_freeIx (s : State) (cls index : Nat) : (s.release cls index).freeIx = s.freeIx := rfl
@[simp] theorem State.release_balls (s : State) (cls index : Nat) : (s.release cls index).balls = s.balls := rfl
@[simp] theorem State.release_boot (s : State) (cls index : Nat) : (s.release cls index).boot = s.boot := rfl
@[simp] theorem State.release_fuses (s : State) (cls index : Nat) : (s.release cls index).fuses = s.fuses := rfl
@[simp] theorem State.release_flash (s : State) (cls index : Nat) : (s.release cls index).flash = s.flash := rfl
@[simp] theorem State.release_fw (s : State) (cls index : Nat) : (s.release cls index).fw = s.fw := rfl
@[simp] theorem State.release_mboxes (s : State) (cls index : Nat) : (s.release cls index).mboxes = s.mboxes := rfl
@[simp] theorem State.release_gears (s : State) (cls index : Nat) : (s.release cls index).gears = s.gears := rfl
@[simp] theorem State.release_swap (s : State) (cls index : Nat) : (s.release cls index).swap = s.swap := rfl
@[simp] theorem State.release_fences (s : State) (cls index : Nat) : (s.release cls index).fences = s.fences := rfl
@[simp] theorem State.release_hostStamp (s : State) (cls index : Nat) : (s.release cls index).hostStamp = s.hostStamp := rfl
@[simp] theorem State.release_host (s : State) (cls index : Nat) : (s.release cls index).host = s.host := rfl
@[simp] theorem State.release_slices (s : State) (cls index : Nat) : (s.release cls index).slices = s.slices := rfl
@[simp] theorem State.release_undo (s : State) (cls index : Nat) : (s.release cls index).undo = s.undo := rfl
@[simp] theorem State.release_rings (s : State) (cls index : Nat) : (s.release cls index).rings = s.rings := rfl
@[simp] theorem State.release_cad (s : State) (cls index : Nat) : (s.release cls index).cad = s.cad := rfl
@[simp] theorem State.release_blocks (s : State) (cls index : Nat) : (s.release cls index).blocks = s.blocks := rfl
@[simp] theorem State.release_bell (s : State) (cls index : Nat) : (s.release cls index).bell = s.bell := rfl
@[simp] theorem State.release_wear (s : State) (cls index : Nat) : (s.release cls index).wear = s.wear := rfl
@[simp] theorem State.release_fenced (s : State) (cls index : Nat) : (s.release cls index).fenced = s.fenced := rfl
@[simp] theorem State.release_bad (s : State) (cls index : Nat) : (s.release cls index).bad = s.bad := rfl
@[simp] theorem State.release_ports (s : State) (cls index : Nat) : (s.release cls index).ports = s.ports := rfl
@[simp] theorem State.release_lanes (s : State) (cls index : Nat) : (s.release cls index).lanes = s.lanes := rfl
@[simp] theorem State.release_pipes (s : State) (cls index : Nat) : (s.release cls index).pipes = s.pipes := rfl
@[simp] theorem State.release_ctl (s : State) (cls index : Nat) : (s.release cls index).ctl = s.ctl := rfl
@[simp] theorem State.release_tables (s : State) (cls index : Nat) : (s.release cls index).tables = s.tables := rfl
@[simp] theorem State.release_sw (s : State) (cls index : Nat) : (s.release cls index).sw = s.sw := rfl
@[simp] theorem State.release_far (s : State) (cls index : Nat) : (s.release cls index).far = s.far := rfl
@[simp] theorem State.release_tandem (s : State) (cls index : Nat) : (s.release cls index).tandem = s.tandem := rfl
@[simp] theorem State.release_peloton (s : State) (cls index : Nat) : (s.release cls index).peloton = s.peloton := rfl

/-! ### dmaWrite -/

@[simp] theorem State.dmaWrite_pending (s : State) (a : Nat) (b : Bytes) : (s.dmaWrite a b).pending = s.pending := by unfold State.dmaWrite; split <;> rfl
@[simp] theorem State.dmaWrite_freeIx (s : State) (a : Nat) (b : Bytes) : (s.dmaWrite a b).freeIx = s.freeIx := by unfold State.dmaWrite; split <;> rfl
@[simp] theorem State.dmaWrite_balls (s : State) (a : Nat) (b : Bytes) : (s.dmaWrite a b).balls = s.balls := by unfold State.dmaWrite; split <;> rfl
@[simp] theorem State.dmaWrite_boot (s : State) (a : Nat) (b : Bytes) : (s.dmaWrite a b).boot = s.boot := by unfold State.dmaWrite; split <;> rfl
@[simp] theorem State.dmaWrite_fuses (s : State) (a : Nat) (b : Bytes) : (s.dmaWrite a b).fuses = s.fuses := by unfold State.dmaWrite; split <;> rfl
@[simp] theorem State.dmaWrite_flash (s : State) (a : Nat) (b : Bytes) : (s.dmaWrite a b).flash = s.flash := by unfold State.dmaWrite; split <;> rfl
@[simp] theorem State.dmaWrite_fw (s : State) (a : Nat) (b : Bytes) : (s.dmaWrite a b).fw = s.fw := by unfold State.dmaWrite; split <;> rfl
@[simp] theorem State.dmaWrite_claims (s : State) (a : Nat) (b : Bytes) : (s.dmaWrite a b).claims = s.claims := by unfold State.dmaWrite; split <;> rfl
@[simp] theorem State.dmaWrite_mboxes (s : State) (a : Nat) (b : Bytes) : (s.dmaWrite a b).mboxes = s.mboxes := by unfold State.dmaWrite; split <;> rfl
@[simp] theorem State.dmaWrite_gears (s : State) (a : Nat) (b : Bytes) : (s.dmaWrite a b).gears = s.gears := by unfold State.dmaWrite; split <;> rfl
@[simp] theorem State.dmaWrite_swap (s : State) (a : Nat) (b : Bytes) : (s.dmaWrite a b).swap = s.swap := by unfold State.dmaWrite; split <;> rfl
@[simp] theorem State.dmaWrite_fences (s : State) (a : Nat) (b : Bytes) : (s.dmaWrite a b).fences = s.fences := by unfold State.dmaWrite; split <;> rfl
@[simp] theorem State.dmaWrite_hostStamp (s : State) (a : Nat) (b : Bytes) : (s.dmaWrite a b).hostStamp = s.hostStamp := by unfold State.dmaWrite; split <;> rfl
@[simp] theorem State.dmaWrite_slices (s : State) (a : Nat) (b : Bytes) : (s.dmaWrite a b).slices = s.slices := by unfold State.dmaWrite; split <;> rfl
@[simp] theorem State.dmaWrite_undo (s : State) (a : Nat) (b : Bytes) : (s.dmaWrite a b).undo = s.undo := by unfold State.dmaWrite; split <;> rfl
@[simp] theorem State.dmaWrite_rings (s : State) (a : Nat) (b : Bytes) : (s.dmaWrite a b).rings = s.rings := by unfold State.dmaWrite; split <;> rfl
@[simp] theorem State.dmaWrite_cad (s : State) (a : Nat) (b : Bytes) : (s.dmaWrite a b).cad = s.cad := by unfold State.dmaWrite; split <;> rfl
@[simp] theorem State.dmaWrite_blocks (s : State) (a : Nat) (b : Bytes) : (s.dmaWrite a b).blocks = s.blocks := by unfold State.dmaWrite; split <;> rfl
@[simp] theorem State.dmaWrite_bell (s : State) (a : Nat) (b : Bytes) : (s.dmaWrite a b).bell = s.bell := by unfold State.dmaWrite; split <;> rfl
@[simp] theorem State.dmaWrite_wear (s : State) (a : Nat) (b : Bytes) : (s.dmaWrite a b).wear = s.wear := by unfold State.dmaWrite; split <;> rfl
@[simp] theorem State.dmaWrite_fenced (s : State) (a : Nat) (b : Bytes) : (s.dmaWrite a b).fenced = s.fenced := by unfold State.dmaWrite; split <;> rfl
@[simp] theorem State.dmaWrite_bad (s : State) (a : Nat) (b : Bytes) : (s.dmaWrite a b).bad = s.bad := by unfold State.dmaWrite; split <;> rfl
@[simp] theorem State.dmaWrite_ports (s : State) (a : Nat) (b : Bytes) : (s.dmaWrite a b).ports = s.ports := by unfold State.dmaWrite; split <;> rfl
@[simp] theorem State.dmaWrite_lanes (s : State) (a : Nat) (b : Bytes) : (s.dmaWrite a b).lanes = s.lanes := by unfold State.dmaWrite; split <;> rfl
@[simp] theorem State.dmaWrite_pipes (s : State) (a : Nat) (b : Bytes) : (s.dmaWrite a b).pipes = s.pipes := by unfold State.dmaWrite; split <;> rfl
@[simp] theorem State.dmaWrite_ctl (s : State) (a : Nat) (b : Bytes) : (s.dmaWrite a b).ctl = s.ctl := by unfold State.dmaWrite; split <;> rfl
@[simp] theorem State.dmaWrite_tables (s : State) (a : Nat) (b : Bytes) : (s.dmaWrite a b).tables = s.tables := by unfold State.dmaWrite; split <;> rfl
@[simp] theorem State.dmaWrite_sw (s : State) (a : Nat) (b : Bytes) : (s.dmaWrite a b).sw = s.sw := by unfold State.dmaWrite; split <;> rfl
@[simp] theorem State.dmaWrite_far (s : State) (a : Nat) (b : Bytes) : (s.dmaWrite a b).far = s.far := by unfold State.dmaWrite; split <;> rfl
@[simp] theorem State.dmaWrite_tandem (s : State) (a : Nat) (b : Bytes) : (s.dmaWrite a b).tandem = s.tandem := by unfold State.dmaWrite; split <;> rfl
@[simp] theorem State.dmaWrite_peloton (s : State) (a : Nat) (b : Bytes) : (s.dmaWrite a b).peloton = s.peloton := by unfold State.dmaWrite; split <;> rfl
@[simp] theorem State.dmaWrite_host_spaces (s : State) (a : Nat) (b : Bytes) : (s.dmaWrite a b).host.spaces = s.host.spaces := by unfold State.dmaWrite; split <;> rfl
@[simp] theorem State.dmaWrite_host_linkUp (s : State) (a : Nat) (b : Bytes) : (s.dmaWrite a b).host.linkUp = s.host.linkUp := by unfold State.dmaWrite; split <;> rfl
@[simp] theorem State.dmaWrite_host_training (s : State) (a : Nat) (b : Bytes) : (s.dmaWrite a b).host.training = s.host.training := by unfold State.dmaWrite; split <;> rfl
@[simp] theorem State.dmaWrite_host_speed (s : State) (a : Nat) (b : Bytes) : (s.dmaWrite a b).host.speed = s.host.speed := by unfold State.dmaWrite; split <;> rfl
@[simp] theorem State.dmaWrite_host_width (s : State) (a : Nat) (b : Bytes) : (s.dmaWrite a b).host.width = s.host.width := by unfold State.dmaWrite; split <;> rfl
@[simp] theorem State.dmaWrite_host_d3hot (s : State) (a : Nat) (b : Bytes) : (s.dmaWrite a b).host.d3hot = s.host.d3hot := by unfold State.dmaWrite; split <;> rfl
@[simp] theorem State.dmaWrite_host_perstN (s : State) (a : Nat) (b : Bytes) : (s.dmaWrite a b).host.perstN = s.host.perstN := by unfold State.dmaWrite; split <;> rfl
@[simp] theorem State.dmaWrite_host_refclk (s : State) (a : Nat) (b : Bytes) : (s.dmaWrite a b).host.refclk = s.host.refclk := by unfold State.dmaWrite; split <;> rfl
@[simp] theorem State.dmaWrite_host_vectors (s : State) (a : Nat) (b : Bytes) : (s.dmaWrite a b).host.vectors = s.host.vectors := by unfold State.dmaWrite; split <;> rfl
@[simp] theorem State.dmaWrite_host_maps (s : State) (a : Nat) (b : Bytes) : (s.dmaWrite a b).host.maps = s.host.maps := by unfold State.dmaWrite; split <;> rfl
@[simp] theorem State.dmaWrite_host_rings (s : State) (a : Nat) (b : Bytes) : (s.dmaWrite a b).host.rings = s.host.rings := by unfold State.dmaWrite; split <;> rfl
@[simp] theorem State.dmaWrite_host_samples (s : State) (a : Nat) (b : Bytes) : (s.dmaWrite a b).host.samples = s.host.samples := by unfold State.dmaWrite; split <;> rfl
@[simp] theorem State.dmaWrite_host_txTurn (s : State) (a : Nat) (b : Bytes) : (s.dmaWrite a b).host.txTurn = s.host.txTurn := by unfold State.dmaWrite; split <;> rfl

/-! ### dmaFor -/

@[simp] theorem State.dmaFor_pending (s : State) (slc a : Nat) (b : Bytes) : (s.dmaFor slc a b).pending = s.pending := by unfold State.dmaFor State.dmaWrite; split <;> split <;> rfl
@[simp] theorem State.dmaFor_freeIx (s : State) (slc a : Nat) (b : Bytes) : (s.dmaFor slc a b).freeIx = s.freeIx := by unfold State.dmaFor State.dmaWrite; split <;> split <;> rfl
@[simp] theorem State.dmaFor_balls (s : State) (slc a : Nat) (b : Bytes) : (s.dmaFor slc a b).balls = s.balls := by unfold State.dmaFor State.dmaWrite; split <;> split <;> rfl
@[simp] theorem State.dmaFor_boot (s : State) (slc a : Nat) (b : Bytes) : (s.dmaFor slc a b).boot = s.boot := by unfold State.dmaFor State.dmaWrite; split <;> split <;> rfl
@[simp] theorem State.dmaFor_fuses (s : State) (slc a : Nat) (b : Bytes) : (s.dmaFor slc a b).fuses = s.fuses := by unfold State.dmaFor State.dmaWrite; split <;> split <;> rfl
@[simp] theorem State.dmaFor_flash (s : State) (slc a : Nat) (b : Bytes) : (s.dmaFor slc a b).flash = s.flash := by unfold State.dmaFor State.dmaWrite; split <;> split <;> rfl
@[simp] theorem State.dmaFor_fw (s : State) (slc a : Nat) (b : Bytes) : (s.dmaFor slc a b).fw = s.fw := by unfold State.dmaFor State.dmaWrite; split <;> split <;> rfl
@[simp] theorem State.dmaFor_claims (s : State) (slc a : Nat) (b : Bytes) : (s.dmaFor slc a b).claims = s.claims := by unfold State.dmaFor State.dmaWrite; split <;> split <;> rfl
@[simp] theorem State.dmaFor_mboxes (s : State) (slc a : Nat) (b : Bytes) : (s.dmaFor slc a b).mboxes = s.mboxes := by unfold State.dmaFor State.dmaWrite; split <;> split <;> rfl
@[simp] theorem State.dmaFor_gears (s : State) (slc a : Nat) (b : Bytes) : (s.dmaFor slc a b).gears = s.gears := by unfold State.dmaFor State.dmaWrite; split <;> split <;> rfl
@[simp] theorem State.dmaFor_swap (s : State) (slc a : Nat) (b : Bytes) : (s.dmaFor slc a b).swap = s.swap := by unfold State.dmaFor State.dmaWrite; split <;> split <;> rfl
@[simp] theorem State.dmaFor_fences (s : State) (slc a : Nat) (b : Bytes) : (s.dmaFor slc a b).fences = s.fences := by unfold State.dmaFor State.dmaWrite; split <;> split <;> rfl
@[simp] theorem State.dmaFor_hostStamp (s : State) (slc a : Nat) (b : Bytes) : (s.dmaFor slc a b).hostStamp = s.hostStamp := by unfold State.dmaFor State.dmaWrite; split <;> split <;> rfl
@[simp] theorem State.dmaFor_slices (s : State) (slc a : Nat) (b : Bytes) : (s.dmaFor slc a b).slices = s.slices := by unfold State.dmaFor State.dmaWrite; split <;> split <;> rfl
@[simp] theorem State.dmaFor_undo (s : State) (slc a : Nat) (b : Bytes) : (s.dmaFor slc a b).undo = s.undo := by unfold State.dmaFor State.dmaWrite; split <;> split <;> rfl
@[simp] theorem State.dmaFor_rings (s : State) (slc a : Nat) (b : Bytes) : (s.dmaFor slc a b).rings = s.rings := by unfold State.dmaFor State.dmaWrite; split <;> split <;> rfl
@[simp] theorem State.dmaFor_cad (s : State) (slc a : Nat) (b : Bytes) : (s.dmaFor slc a b).cad = s.cad := by unfold State.dmaFor State.dmaWrite; split <;> split <;> rfl
@[simp] theorem State.dmaFor_blocks (s : State) (slc a : Nat) (b : Bytes) : (s.dmaFor slc a b).blocks = s.blocks := by unfold State.dmaFor State.dmaWrite; split <;> split <;> rfl
@[simp] theorem State.dmaFor_bell (s : State) (slc a : Nat) (b : Bytes) : (s.dmaFor slc a b).bell = s.bell := by unfold State.dmaFor State.dmaWrite; split <;> split <;> rfl
@[simp] theorem State.dmaFor_wear (s : State) (slc a : Nat) (b : Bytes) : (s.dmaFor slc a b).wear = s.wear := by unfold State.dmaFor State.dmaWrite; split <;> split <;> rfl
@[simp] theorem State.dmaFor_fenced (s : State) (slc a : Nat) (b : Bytes) : (s.dmaFor slc a b).fenced = s.fenced := by unfold State.dmaFor State.dmaWrite; split <;> split <;> rfl
@[simp] theorem State.dmaFor_bad (s : State) (slc a : Nat) (b : Bytes) : (s.dmaFor slc a b).bad = s.bad := by unfold State.dmaFor State.dmaWrite; split <;> split <;> rfl
@[simp] theorem State.dmaFor_ports (s : State) (slc a : Nat) (b : Bytes) : (s.dmaFor slc a b).ports = s.ports := by unfold State.dmaFor State.dmaWrite; split <;> split <;> rfl
@[simp] theorem State.dmaFor_lanes (s : State) (slc a : Nat) (b : Bytes) : (s.dmaFor slc a b).lanes = s.lanes := by unfold State.dmaFor State.dmaWrite; split <;> split <;> rfl
@[simp] theorem State.dmaFor_pipes (s : State) (slc a : Nat) (b : Bytes) : (s.dmaFor slc a b).pipes = s.pipes := by unfold State.dmaFor State.dmaWrite; split <;> split <;> rfl
@[simp] theorem State.dmaFor_ctl (s : State) (slc a : Nat) (b : Bytes) : (s.dmaFor slc a b).ctl = s.ctl := by unfold State.dmaFor State.dmaWrite; split <;> split <;> rfl
@[simp] theorem State.dmaFor_tables (s : State) (slc a : Nat) (b : Bytes) : (s.dmaFor slc a b).tables = s.tables := by unfold State.dmaFor State.dmaWrite; split <;> split <;> rfl
@[simp] theorem State.dmaFor_sw (s : State) (slc a : Nat) (b : Bytes) : (s.dmaFor slc a b).sw = s.sw := by unfold State.dmaFor State.dmaWrite; split <;> split <;> rfl
@[simp] theorem State.dmaFor_far (s : State) (slc a : Nat) (b : Bytes) : (s.dmaFor slc a b).far = s.far := by unfold State.dmaFor State.dmaWrite; split <;> split <;> rfl
@[simp] theorem State.dmaFor_tandem (s : State) (slc a : Nat) (b : Bytes) : (s.dmaFor slc a b).tandem = s.tandem := by unfold State.dmaFor State.dmaWrite; split <;> split <;> rfl
@[simp] theorem State.dmaFor_peloton (s : State) (slc a : Nat) (b : Bytes) : (s.dmaFor slc a b).peloton = s.peloton := by unfold State.dmaFor State.dmaWrite; split <;> split <;> rfl

/-! ### shadowWrite -/

/-- A shadow write changes host memory and nothing else. -/
theorem State.shadowWrite_mem (s : State) (i : Nat) (e : Option EmEntry) :
    ∃ m, s.shadowWrite i e = { s with host := { s.host with mem := m } } := by
  have h (c : Prop) [Decidable c] (a : Nat) (b : Bytes) :
      ∃ m, (if c then s else s.dmaWrite a b) = { s with host := { s.host with mem := m } } := by
    unfold State.dmaWrite
    split
    · exact ⟨s.host.mem, rfl⟩
    · split
      · exact ⟨_, rfl⟩
      · exact ⟨s.host.mem, rfl⟩
  unfold State.shadowWrite
  split
  · exact ⟨s.host.mem, rfl⟩
  · exact h ..

@[simp] theorem State.shadowWrite_pending (s : State) (i : Nat) (e : Option EmEntry) : (s.shadowWrite i e).pending = s.pending := by obtain ⟨_, h⟩ := s.shadowWrite_mem i e; rw [h]
@[simp] theorem State.shadowWrite_freeIx (s : State) (i : Nat) (e : Option EmEntry) : (s.shadowWrite i e).freeIx = s.freeIx := by obtain ⟨_, h⟩ := s.shadowWrite_mem i e; rw [h]
@[simp] theorem State.shadowWrite_balls (s : State) (i : Nat) (e : Option EmEntry) : (s.shadowWrite i e).balls = s.balls := by obtain ⟨_, h⟩ := s.shadowWrite_mem i e; rw [h]
@[simp] theorem State.shadowWrite_boot (s : State) (i : Nat) (e : Option EmEntry) : (s.shadowWrite i e).boot = s.boot := by obtain ⟨_, h⟩ := s.shadowWrite_mem i e; rw [h]
@[simp] theorem State.shadowWrite_fuses (s : State) (i : Nat) (e : Option EmEntry) : (s.shadowWrite i e).fuses = s.fuses := by obtain ⟨_, h⟩ := s.shadowWrite_mem i e; rw [h]
@[simp] theorem State.shadowWrite_flash (s : State) (i : Nat) (e : Option EmEntry) : (s.shadowWrite i e).flash = s.flash := by obtain ⟨_, h⟩ := s.shadowWrite_mem i e; rw [h]
@[simp] theorem State.shadowWrite_fw (s : State) (i : Nat) (e : Option EmEntry) : (s.shadowWrite i e).fw = s.fw := by obtain ⟨_, h⟩ := s.shadowWrite_mem i e; rw [h]
@[simp] theorem State.shadowWrite_claims (s : State) (i : Nat) (e : Option EmEntry) : (s.shadowWrite i e).claims = s.claims := by obtain ⟨_, h⟩ := s.shadowWrite_mem i e; rw [h]
@[simp] theorem State.shadowWrite_mboxes (s : State) (i : Nat) (e : Option EmEntry) : (s.shadowWrite i e).mboxes = s.mboxes := by obtain ⟨_, h⟩ := s.shadowWrite_mem i e; rw [h]
@[simp] theorem State.shadowWrite_gears (s : State) (i : Nat) (e : Option EmEntry) : (s.shadowWrite i e).gears = s.gears := by obtain ⟨_, h⟩ := s.shadowWrite_mem i e; rw [h]
@[simp] theorem State.shadowWrite_swap (s : State) (i : Nat) (e : Option EmEntry) : (s.shadowWrite i e).swap = s.swap := by obtain ⟨_, h⟩ := s.shadowWrite_mem i e; rw [h]
@[simp] theorem State.shadowWrite_fences (s : State) (i : Nat) (e : Option EmEntry) : (s.shadowWrite i e).fences = s.fences := by obtain ⟨_, h⟩ := s.shadowWrite_mem i e; rw [h]
@[simp] theorem State.shadowWrite_hostStamp (s : State) (i : Nat) (e : Option EmEntry) : (s.shadowWrite i e).hostStamp = s.hostStamp := by obtain ⟨_, h⟩ := s.shadowWrite_mem i e; rw [h]
@[simp] theorem State.shadowWrite_slices (s : State) (i : Nat) (e : Option EmEntry) : (s.shadowWrite i e).slices = s.slices := by obtain ⟨_, h⟩ := s.shadowWrite_mem i e; rw [h]
@[simp] theorem State.shadowWrite_undo (s : State) (i : Nat) (e : Option EmEntry) : (s.shadowWrite i e).undo = s.undo := by obtain ⟨_, h⟩ := s.shadowWrite_mem i e; rw [h]
@[simp] theorem State.shadowWrite_rings (s : State) (i : Nat) (e : Option EmEntry) : (s.shadowWrite i e).rings = s.rings := by obtain ⟨_, h⟩ := s.shadowWrite_mem i e; rw [h]
@[simp] theorem State.shadowWrite_cad (s : State) (i : Nat) (e : Option EmEntry) : (s.shadowWrite i e).cad = s.cad := by obtain ⟨_, h⟩ := s.shadowWrite_mem i e; rw [h]
@[simp] theorem State.shadowWrite_blocks (s : State) (i : Nat) (e : Option EmEntry) : (s.shadowWrite i e).blocks = s.blocks := by obtain ⟨_, h⟩ := s.shadowWrite_mem i e; rw [h]
@[simp] theorem State.shadowWrite_bell (s : State) (i : Nat) (e : Option EmEntry) : (s.shadowWrite i e).bell = s.bell := by obtain ⟨_, h⟩ := s.shadowWrite_mem i e; rw [h]
@[simp] theorem State.shadowWrite_wear (s : State) (i : Nat) (e : Option EmEntry) : (s.shadowWrite i e).wear = s.wear := by obtain ⟨_, h⟩ := s.shadowWrite_mem i e; rw [h]
@[simp] theorem State.shadowWrite_fenced (s : State) (i : Nat) (e : Option EmEntry) : (s.shadowWrite i e).fenced = s.fenced := by obtain ⟨_, h⟩ := s.shadowWrite_mem i e; rw [h]
@[simp] theorem State.shadowWrite_bad (s : State) (i : Nat) (e : Option EmEntry) : (s.shadowWrite i e).bad = s.bad := by obtain ⟨_, h⟩ := s.shadowWrite_mem i e; rw [h]
@[simp] theorem State.shadowWrite_ports (s : State) (i : Nat) (e : Option EmEntry) : (s.shadowWrite i e).ports = s.ports := by obtain ⟨_, h⟩ := s.shadowWrite_mem i e; rw [h]
@[simp] theorem State.shadowWrite_lanes (s : State) (i : Nat) (e : Option EmEntry) : (s.shadowWrite i e).lanes = s.lanes := by obtain ⟨_, h⟩ := s.shadowWrite_mem i e; rw [h]
@[simp] theorem State.shadowWrite_pipes (s : State) (i : Nat) (e : Option EmEntry) : (s.shadowWrite i e).pipes = s.pipes := by obtain ⟨_, h⟩ := s.shadowWrite_mem i e; rw [h]
@[simp] theorem State.shadowWrite_ctl (s : State) (i : Nat) (e : Option EmEntry) : (s.shadowWrite i e).ctl = s.ctl := by obtain ⟨_, h⟩ := s.shadowWrite_mem i e; rw [h]
@[simp] theorem State.shadowWrite_tables (s : State) (i : Nat) (e : Option EmEntry) : (s.shadowWrite i e).tables = s.tables := by obtain ⟨_, h⟩ := s.shadowWrite_mem i e; rw [h]
@[simp] theorem State.shadowWrite_sw (s : State) (i : Nat) (e : Option EmEntry) : (s.shadowWrite i e).sw = s.sw := by obtain ⟨_, h⟩ := s.shadowWrite_mem i e; rw [h]
@[simp] theorem State.shadowWrite_far (s : State) (i : Nat) (e : Option EmEntry) : (s.shadowWrite i e).far = s.far := by obtain ⟨_, h⟩ := s.shadowWrite_mem i e; rw [h]
@[simp] theorem State.shadowWrite_tandem (s : State) (i : Nat) (e : Option EmEntry) : (s.shadowWrite i e).tandem = s.tandem := by obtain ⟨_, h⟩ := s.shadowWrite_mem i e; rw [h]
@[simp] theorem State.shadowWrite_peloton (s : State) (i : Nat) (e : Option EmEntry) : (s.shadowWrite i e).peloton = s.peloton := by obtain ⟨_, h⟩ := s.shadowWrite_mem i e; rw [h]

/-! ### setEntry -/

@[simp] theorem State.setEntry_pending (s : State) (i : Nat) (e : Option EmEntry) : (s.setEntry i e).pending = s.pending := State.shadowWrite_pending ..
@[simp] theorem State.setEntry_freeIx (s : State) (i : Nat) (e : Option EmEntry) : (s.setEntry i e).freeIx = s.freeIx := State.shadowWrite_freeIx ..
@[simp] theorem State.setEntry_balls (s : State) (i : Nat) (e : Option EmEntry) : (s.setEntry i e).balls = s.balls := State.shadowWrite_balls ..
@[simp] theorem State.setEntry_boot (s : State) (i : Nat) (e : Option EmEntry) : (s.setEntry i e).boot = s.boot := State.shadowWrite_boot ..
@[simp] theorem State.setEntry_fuses (s : State) (i : Nat) (e : Option EmEntry) : (s.setEntry i e).fuses = s.fuses := State.shadowWrite_fuses ..
@[simp] theorem State.setEntry_flash (s : State) (i : Nat) (e : Option EmEntry) : (s.setEntry i e).flash = s.flash := State.shadowWrite_flash ..
@[simp] theorem State.setEntry_fw (s : State) (i : Nat) (e : Option EmEntry) : (s.setEntry i e).fw = s.fw := State.shadowWrite_fw ..
@[simp] theorem State.setEntry_claims (s : State) (i : Nat) (e : Option EmEntry) : (s.setEntry i e).claims = s.claims := State.shadowWrite_claims ..
@[simp] theorem State.setEntry_mboxes (s : State) (i : Nat) (e : Option EmEntry) : (s.setEntry i e).mboxes = s.mboxes := State.shadowWrite_mboxes ..
@[simp] theorem State.setEntry_gears (s : State) (i : Nat) (e : Option EmEntry) : (s.setEntry i e).gears = s.gears := State.shadowWrite_gears ..
@[simp] theorem State.setEntry_swap (s : State) (i : Nat) (e : Option EmEntry) : (s.setEntry i e).swap = s.swap := State.shadowWrite_swap ..
@[simp] theorem State.setEntry_fences (s : State) (i : Nat) (e : Option EmEntry) : (s.setEntry i e).fences = s.fences := State.shadowWrite_fences ..
@[simp] theorem State.setEntry_hostStamp (s : State) (i : Nat) (e : Option EmEntry) : (s.setEntry i e).hostStamp = s.hostStamp := State.shadowWrite_hostStamp ..
@[simp] theorem State.setEntry_slices (s : State) (i : Nat) (e : Option EmEntry) : (s.setEntry i e).slices = s.slices := State.shadowWrite_slices ..
@[simp] theorem State.setEntry_undo (s : State) (i : Nat) (e : Option EmEntry) : (s.setEntry i e).undo = s.undo := State.shadowWrite_undo ..
@[simp] theorem State.setEntry_rings (s : State) (i : Nat) (e : Option EmEntry) : (s.setEntry i e).rings = s.rings := State.shadowWrite_rings ..
@[simp] theorem State.setEntry_cad (s : State) (i : Nat) (e : Option EmEntry) : (s.setEntry i e).cad = s.cad := State.shadowWrite_cad ..
@[simp] theorem State.setEntry_blocks (s : State) (i : Nat) (e : Option EmEntry) : (s.setEntry i e).blocks = s.blocks := State.shadowWrite_blocks ..
@[simp] theorem State.setEntry_bell (s : State) (i : Nat) (e : Option EmEntry) : (s.setEntry i e).bell = s.bell := State.shadowWrite_bell ..
@[simp] theorem State.setEntry_wear (s : State) (i : Nat) (e : Option EmEntry) : (s.setEntry i e).wear = s.wear := State.shadowWrite_wear ..
@[simp] theorem State.setEntry_fenced (s : State) (i : Nat) (e : Option EmEntry) : (s.setEntry i e).fenced = s.fenced := State.shadowWrite_fenced ..
@[simp] theorem State.setEntry_bad (s : State) (i : Nat) (e : Option EmEntry) : (s.setEntry i e).bad = s.bad := State.shadowWrite_bad ..
@[simp] theorem State.setEntry_ports (s : State) (i : Nat) (e : Option EmEntry) : (s.setEntry i e).ports = s.ports := State.shadowWrite_ports ..
@[simp] theorem State.setEntry_lanes (s : State) (i : Nat) (e : Option EmEntry) : (s.setEntry i e).lanes = s.lanes := State.shadowWrite_lanes ..
@[simp] theorem State.setEntry_pipes (s : State) (i : Nat) (e : Option EmEntry) : (s.setEntry i e).pipes = s.pipes := State.shadowWrite_pipes ..
@[simp] theorem State.setEntry_ctl (s : State) (i : Nat) (e : Option EmEntry) : (s.setEntry i e).ctl = s.ctl := State.shadowWrite_ctl ..
@[simp] theorem State.setEntry_sw (s : State) (i : Nat) (e : Option EmEntry) : (s.setEntry i e).sw = s.sw := State.shadowWrite_sw ..
@[simp] theorem State.setEntry_far (s : State) (i : Nat) (e : Option EmEntry) : (s.setEntry i e).far = s.far := State.shadowWrite_far ..
@[simp] theorem State.setEntry_tandem (s : State) (i : Nat) (e : Option EmEntry) : (s.setEntry i e).tandem = s.tandem := State.shadowWrite_tandem ..
@[simp] theorem State.setEntry_peloton (s : State) (i : Nat) (e : Option EmEntry) : (s.setEntry i e).peloton = s.peloton := State.shadowWrite_peloton ..
@[simp] theorem State.setEntry_tables_descs (s : State) (i : Nat) (e : Option EmEntry) : (s.setEntry i e).tables.descs = s.tables.descs := congrArg (·.descs) (State.shadowWrite_tables s i e)
@[simp] theorem State.setEntry_tables_gens (s : State) (i : Nat) (e : Option EmEntry) : (s.setEntry i e).tables.gens = s.tables.gens := congrArg (·.gens) (State.shadowWrite_tables s i e)
@[simp] theorem State.setEntry_tables_learn (s : State) (i : Nat) (e : Option EmEntry) : (s.setEntry i e).tables.learn = s.tables.learn := congrArg (·.learn) (State.shadowWrite_tables s i e)
@[simp] theorem State.setEntry_tables_routes (s : State) (i : Nat) (e : Option EmEntry) : (s.setEntry i e).tables.routes = s.tables.routes := congrArg (·.routes) (State.shadowWrite_tables s i e)
@[simp] theorem State.setEntry_tables_results (s : State) (i : Nat) (e : Option EmEntry) : (s.setEntry i e).tables.results = s.tables.results := congrArg (·.results) (State.shadowWrite_tables s i e)
@[simp] theorem State.setEntry_tables_pairs (s : State) (i : Nat) (e : Option EmEntry) : (s.setEntry i e).tables.pairs = s.tables.pairs := congrArg (·.pairs) (State.shadowWrite_tables s i e)
@[simp] theorem State.setEntry_tables_te (s : State) (i : Nat) (e : Option EmEntry) : (s.setEntry i e).tables.te = s.tables.te := congrArg (·.te) (State.shadowWrite_tables s i e)

/-! ### setPair -/

@[simp] theorem State.setPair_pending (s : State) (n : Nat) (x : StatPair) : (s.setPair n x).pending = s.pending := rfl
@[simp] theorem State.setPair_freeIx (s : State) (n : Nat) (x : StatPair) : (s.setPair n x).freeIx = s.freeIx := rfl
@[simp] theorem State.setPair_balls (s : State) (n : Nat) (x : StatPair) : (s.setPair n x).balls = s.balls := rfl
@[simp] theorem State.setPair_boot (s : State) (n : Nat) (x : StatPair) : (s.setPair n x).boot = s.boot := rfl
@[simp] theorem State.setPair_fuses (s : State) (n : Nat) (x : StatPair) : (s.setPair n x).fuses = s.fuses := rfl
@[simp] theorem State.setPair_flash (s : State) (n : Nat) (x : StatPair) : (s.setPair n x).flash = s.flash := rfl
@[simp] theorem State.setPair_fw (s : State) (n : Nat) (x : StatPair) : (s.setPair n x).fw = s.fw := rfl
@[simp] theorem State.setPair_claims (s : State) (n : Nat) (x : StatPair) : (s.setPair n x).claims = s.claims := rfl
@[simp] theorem State.setPair_mboxes (s : State) (n : Nat) (x : StatPair) : (s.setPair n x).mboxes = s.mboxes := rfl
@[simp] theorem State.setPair_gears (s : State) (n : Nat) (x : StatPair) : (s.setPair n x).gears = s.gears := rfl
@[simp] theorem State.setPair_swap (s : State) (n : Nat) (x : StatPair) : (s.setPair n x).swap = s.swap := rfl
@[simp] theorem State.setPair_fences (s : State) (n : Nat) (x : StatPair) : (s.setPair n x).fences = s.fences := rfl
@[simp] theorem State.setPair_hostStamp (s : State) (n : Nat) (x : StatPair) : (s.setPair n x).hostStamp = s.hostStamp := rfl
@[simp] theorem State.setPair_host (s : State) (n : Nat) (x : StatPair) : (s.setPair n x).host = s.host := rfl
@[simp] theorem State.setPair_slices (s : State) (n : Nat) (x : StatPair) : (s.setPair n x).slices = s.slices := rfl
@[simp] theorem State.setPair_undo (s : State) (n : Nat) (x : StatPair) : (s.setPair n x).undo = s.undo := rfl
@[simp] theorem State.setPair_rings (s : State) (n : Nat) (x : StatPair) : (s.setPair n x).rings = s.rings := rfl
@[simp] theorem State.setPair_cad (s : State) (n : Nat) (x : StatPair) : (s.setPair n x).cad = s.cad := rfl
@[simp] theorem State.setPair_blocks (s : State) (n : Nat) (x : StatPair) : (s.setPair n x).blocks = s.blocks := rfl
@[simp] theorem State.setPair_bell (s : State) (n : Nat) (x : StatPair) : (s.setPair n x).bell = s.bell := rfl
@[simp] theorem State.setPair_wear (s : State) (n : Nat) (x : StatPair) : (s.setPair n x).wear = s.wear := rfl
@[simp] theorem State.setPair_fenced (s : State) (n : Nat) (x : StatPair) : (s.setPair n x).fenced = s.fenced := rfl
@[simp] theorem State.setPair_bad (s : State) (n : Nat) (x : StatPair) : (s.setPair n x).bad = s.bad := rfl
@[simp] theorem State.setPair_ports (s : State) (n : Nat) (x : StatPair) : (s.setPair n x).ports = s.ports := rfl
@[simp] theorem State.setPair_lanes (s : State) (n : Nat) (x : StatPair) : (s.setPair n x).lanes = s.lanes := rfl
@[simp] theorem State.setPair_pipes (s : State) (n : Nat) (x : StatPair) : (s.setPair n x).pipes = s.pipes := rfl
@[simp] theorem State.setPair_ctl (s : State) (n : Nat) (x : StatPair) : (s.setPair n x).ctl = s.ctl := rfl
@[simp] theorem State.setPair_sw (s : State) (n : Nat) (x : StatPair) : (s.setPair n x).sw = s.sw := rfl
@[simp] theorem State.setPair_far (s : State) (n : Nat) (x : StatPair) : (s.setPair n x).far = s.far := rfl
@[simp] theorem State.setPair_tandem (s : State) (n : Nat) (x : StatPair) : (s.setPair n x).tandem = s.tandem := rfl
@[simp] theorem State.setPair_peloton (s : State) (n : Nat) (x : StatPair) : (s.setPair n x).peloton = s.peloton := rfl
@[simp] theorem State.setPair_tables_descs (s : State) (n : Nat) (x : StatPair) : (s.setPair n x).tables.descs = s.tables.descs := rfl
@[simp] theorem State.setPair_tables_entries (s : State) (n : Nat) (x : StatPair) : (s.setPair n x).tables.entries = s.tables.entries := rfl
@[simp] theorem State.setPair_tables_gens (s : State) (n : Nat) (x : StatPair) : (s.setPair n x).tables.gens = s.tables.gens := rfl
@[simp] theorem State.setPair_tables_learn (s : State) (n : Nat) (x : StatPair) : (s.setPair n x).tables.learn = s.tables.learn := rfl
@[simp] theorem State.setPair_tables_routes (s : State) (n : Nat) (x : StatPair) : (s.setPair n x).tables.routes = s.tables.routes := rfl
@[simp] theorem State.setPair_tables_results (s : State) (n : Nat) (x : StatPair) : (s.setPair n x).tables.results = s.tables.results := rfl
@[simp] theorem State.setPair_tables_te (s : State) (n : Nat) (x : StatPair) : (s.setPair n x).tables.te = s.tables.te := rfl
@[simp] theorem State.setPair_pair (s : State) (n : Nat) (x : StatPair) : (s.setPair n x).pair n = x := tget_tset_self ..
theorem State.setPair_pair_ne (s : State) (n : Nat) (x : StatPair) {m : Nat} (h : m ≠ n) : (s.setPair n x).pair m = s.pair m :=
  tget_tset_ne _ _ _ h

/-! ### setClassQueue -/

@[simp] theorem State.setClassQueue_pending (s : State) (q : Nat) (x : ClassQueue) : (s.setClassQueue q x).pending = s.pending := by unfold State.setClassQueue; split <;> rfl
@[simp] theorem State.setClassQueue_freeIx (s : State) (q : Nat) (x : ClassQueue) : (s.setClassQueue q x).freeIx = s.freeIx := by unfold State.setClassQueue; split <;> rfl
@[simp] theorem State.setClassQueue_balls (s : State) (q : Nat) (x : ClassQueue) : (s.setClassQueue q x).balls = s.balls := by unfold State.setClassQueue; split <;> rfl
@[simp] theorem State.setClassQueue_boot (s : State) (q : Nat) (x : ClassQueue) : (s.setClassQueue q x).boot = s.boot := by unfold State.setClassQueue; split <;> rfl
@[simp] theorem State.setClassQueue_fuses (s : State) (q : Nat) (x : ClassQueue) : (s.setClassQueue q x).fuses = s.fuses := by unfold State.setClassQueue; split <;> rfl
@[simp] theorem State.setClassQueue_flash (s : State) (q : Nat) (x : ClassQueue) : (s.setClassQueue q x).flash = s.flash := by unfold State.setClassQueue; split <;> rfl
@[simp] theorem State.setClassQueue_fw (s : State) (q : Nat) (x : ClassQueue) : (s.setClassQueue q x).fw = s.fw := by unfold State.setClassQueue; split <;> rfl
@[simp] theorem State.setClassQueue_claims (s : State) (q : Nat) (x : ClassQueue) : (s.setClassQueue q x).claims = s.claims := by unfold State.setClassQueue; split <;> rfl
@[simp] theorem State.setClassQueue_mboxes (s : State) (q : Nat) (x : ClassQueue) : (s.setClassQueue q x).mboxes = s.mboxes := by unfold State.setClassQueue; split <;> rfl
@[simp] theorem State.setClassQueue_gears (s : State) (q : Nat) (x : ClassQueue) : (s.setClassQueue q x).gears = s.gears := by unfold State.setClassQueue; split <;> rfl
@[simp] theorem State.setClassQueue_swap (s : State) (q : Nat) (x : ClassQueue) : (s.setClassQueue q x).swap = s.swap := by unfold State.setClassQueue; split <;> rfl
@[simp] theorem State.setClassQueue_fences (s : State) (q : Nat) (x : ClassQueue) : (s.setClassQueue q x).fences = s.fences := by unfold State.setClassQueue; split <;> rfl
@[simp] theorem State.setClassQueue_hostStamp (s : State) (q : Nat) (x : ClassQueue) : (s.setClassQueue q x).hostStamp = s.hostStamp := by unfold State.setClassQueue; split <;> rfl
@[simp] theorem State.setClassQueue_host (s : State) (q : Nat) (x : ClassQueue) : (s.setClassQueue q x).host = s.host := by unfold State.setClassQueue; split <;> rfl
@[simp] theorem State.setClassQueue_slices (s : State) (q : Nat) (x : ClassQueue) : (s.setClassQueue q x).slices = s.slices := by unfold State.setClassQueue; split <;> rfl
@[simp] theorem State.setClassQueue_undo (s : State) (q : Nat) (x : ClassQueue) : (s.setClassQueue q x).undo = s.undo := by unfold State.setClassQueue; split <;> rfl
@[simp] theorem State.setClassQueue_rings (s : State) (q : Nat) (x : ClassQueue) : (s.setClassQueue q x).rings = s.rings := by unfold State.setClassQueue; split <;> rfl
@[simp] theorem State.setClassQueue_cad (s : State) (q : Nat) (x : ClassQueue) : (s.setClassQueue q x).cad = s.cad := by unfold State.setClassQueue; split <;> rfl
@[simp] theorem State.setClassQueue_blocks (s : State) (q : Nat) (x : ClassQueue) : (s.setClassQueue q x).blocks = s.blocks := by unfold State.setClassQueue; split <;> rfl
@[simp] theorem State.setClassQueue_bell (s : State) (q : Nat) (x : ClassQueue) : (s.setClassQueue q x).bell = s.bell := by unfold State.setClassQueue; split <;> rfl
@[simp] theorem State.setClassQueue_wear (s : State) (q : Nat) (x : ClassQueue) : (s.setClassQueue q x).wear = s.wear := by unfold State.setClassQueue; split <;> rfl
@[simp] theorem State.setClassQueue_fenced (s : State) (q : Nat) (x : ClassQueue) : (s.setClassQueue q x).fenced = s.fenced := by unfold State.setClassQueue; split <;> rfl
@[simp] theorem State.setClassQueue_bad (s : State) (q : Nat) (x : ClassQueue) : (s.setClassQueue q x).bad = s.bad := by unfold State.setClassQueue; split <;> rfl
@[simp] theorem State.setClassQueue_ports (s : State) (q : Nat) (x : ClassQueue) : (s.setClassQueue q x).ports = s.ports := by unfold State.setClassQueue; split <;> rfl
@[simp] theorem State.setClassQueue_lanes (s : State) (q : Nat) (x : ClassQueue) : (s.setClassQueue q x).lanes = s.lanes := by unfold State.setClassQueue; split <;> rfl
@[simp] theorem State.setClassQueue_pipes (s : State) (q : Nat) (x : ClassQueue) : (s.setClassQueue q x).pipes = s.pipes := by unfold State.setClassQueue; split <;> rfl
@[simp] theorem State.setClassQueue_ctl (s : State) (q : Nat) (x : ClassQueue) : (s.setClassQueue q x).ctl = s.ctl := by unfold State.setClassQueue; split <;> rfl
@[simp] theorem State.setClassQueue_tables (s : State) (q : Nat) (x : ClassQueue) : (s.setClassQueue q x).tables = s.tables := by unfold State.setClassQueue; split <;> rfl
@[simp] theorem State.setClassQueue_far (s : State) (q : Nat) (x : ClassQueue) : (s.setClassQueue q x).far = s.far := by unfold State.setClassQueue; split <;> rfl
@[simp] theorem State.setClassQueue_tandem (s : State) (q : Nat) (x : ClassQueue) : (s.setClassQueue q x).tandem = s.tandem := by unfold State.setClassQueue; split <;> rfl
@[simp] theorem State.setClassQueue_peloton (s : State) (q : Nat) (x : ClassQueue) : (s.setClassQueue q x).peloton = s.peloton := by unfold State.setClassQueue; split <;> rfl
@[simp] theorem State.setClassQueue_sw_stores (s : State) (q : Nat) (x : ClassQueue) : (s.setClassQueue q x).sw.stores = s.sw.stores := by unfold State.setClassQueue; split <;> rfl
@[simp] theorem State.setClassQueue_sw_frames (s : State) (q : Nat) (x : ClassQueue) : (s.setClassQueue q x).sw.frames = s.sw.frames := by unfold State.setClassQueue; split <;> rfl
@[simp] theorem State.setClassQueue_sw_nextFrame (s : State) (q : Nat) (x : ClassQueue) : (s.setClassQueue q x).sw.nextFrame = s.sw.nextFrame := by unfold State.setClassQueue; split <;> rfl
@[simp] theorem State.setClassQueue_sw_packets (s : State) (q : Nat) (x : ClassQueue) : (s.setClassQueue q x).sw.packets = s.sw.packets := by unfold State.setClassQueue; split <;> rfl
@[simp] theorem State.setClassQueue_sw_nextPacket (s : State) (q : Nat) (x : ClassQueue) : (s.setClassQueue q x).sw.nextPacket = s.sw.nextPacket := by unfold State.setClassQueue; split <;> rfl
@[simp] theorem State.setClassQueue_sw_queues (s : State) (q : Nat) (x : ClassQueue) : (s.setClassQueue q x).sw.queues = s.sw.queues := by unfold State.setClassQueue; split <;> rfl
@[simp] theorem State.setClassQueue_sw_voqs (s : State) (q : Nat) (x : ClassQueue) : (s.setClassQueue q x).sw.voqs = s.sw.voqs := by unfold State.setClassQueue; split <;> rfl
@[simp] theorem State.setClassQueue_sw_mcastVoqs (s : State) (q : Nat) (x : ClassQueue) : (s.setClassQueue q x).sw.mcastVoqs = s.sw.mcastVoqs := by unfold State.setClassQueue; split <;> rfl
@[simp] theorem State.setClassQueue_sw_ecn (s : State) (q : Nat) (x : ClassQueue) : (s.setClassQueue q x).sw.ecn = s.sw.ecn := by unfold State.setClassQueue; split <;> rfl
@[simp] theorem State.setClassQueue_sw_groups (s : State) (q : Nat) (x : ClassQueue) : (s.setClassQueue q x).sw.groups = s.sw.groups := by unfold State.setClassQueue; split <;> rfl
@[simp] theorem State.setClassQueue_sw_intakes (s : State) (q : Nat) (x : ClassQueue) : (s.setClassQueue q x).sw.intakes = s.sw.intakes := by unfold State.setClassQueue; split <;> rfl
@[simp] theorem State.setClassQueue_sw_trueUps (s : State) (q : Nat) (x : ClassQueue) : (s.setClassQueue q x).sw.trueUps = s.sw.trueUps := by unfold State.setClassQueue; split <;> rfl
@[simp] theorem State.setClassQueue_sw_spillOn (s : State) (q : Nat) (x : ClassQueue) : (s.setClassQueue q x).sw.spillOn = s.sw.spillOn := by unfold State.setClassQueue; split <;> rfl
@[simp] theorem State.setClassQueue_sw_refill (s : State) (q : Nat) (x : ClassQueue) : (s.setClassQueue q x).sw.refill = s.sw.refill := by unfold State.setClassQueue; split <;> rfl
@[simp] theorem State.setClassQueue_sw_policers (s : State) (q : Nat) (x : ClassQueue) : (s.setClassQueue q x).sw.policers = s.sw.policers := by unfold State.setClassQueue; split <;> rfl
@[simp] theorem State.setClassQueue_sw_ready (s : State) (q : Nat) (x : ClassQueue) : (s.setClassQueue q x).sw.ready = s.sw.ready := by unfold State.setClassQueue; split <;> rfl
@[simp] theorem State.setClassQueue_sw_counters (s : State) (q : Nat) (x : ClassQueue) : (s.setClassQueue q x).sw.counters = s.sw.counters := by unfold State.setClassQueue; split <;> rfl
@[simp] theorem State.setClassQueue_sw_schedCnt (s : State) (q : Nat) (x : ClassQueue) : (s.setClassQueue q x).sw.schedCnt = s.sw.schedCnt := by unfold State.setClassQueue; split <;> rfl
@[simp] theorem State.setClassQueue_sw_watches (s : State) (q : Nat) (x : ClassQueue) : (s.setClassQueue q x).sw.watches = s.sw.watches := by unfold State.setClassQueue; split <;> rfl
@[simp] theorem State.setClassQueue_sw_rotation (s : State) (q : Nat) (x : ClassQueue) : (s.setClassQueue q x).sw.rotation = s.sw.rotation := by unfold State.setClassQueue; split <;> rfl
@[simp] theorem State.setClassQueue_sw_audit (s : State) (q : Nat) (x : ClassQueue) : (s.setClassQueue q x).sw.audit = s.sw.audit := by unfold State.setClassQueue; split <;> rfl
@[simp] theorem State.setClassQueue_sw_hostQueue (s : State) (q : Nat) (x : ClassQueue) : (s.setClassQueue q x).sw.hostQueue = s.sw.hostQueue := by unfold State.setClassQueue; split <;> rfl

/-! ### setProbe -/

@[simp] theorem State.setProbe_pending (s : State) (n : Nat) (x : Option Probe) : (s.setProbe n x).pending = s.pending := rfl
@[simp] theorem State.setProbe_freeIx (s : State) (n : Nat) (x : Option Probe) : (s.setProbe n x).freeIx = s.freeIx := rfl
@[simp] theorem State.setProbe_balls (s : State) (n : Nat) (x : Option Probe) : (s.setProbe n x).balls = s.balls := rfl
@[simp] theorem State.setProbe_boot (s : State) (n : Nat) (x : Option Probe) : (s.setProbe n x).boot = s.boot := rfl
@[simp] theorem State.setProbe_fuses (s : State) (n : Nat) (x : Option Probe) : (s.setProbe n x).fuses = s.fuses := rfl
@[simp] theorem State.setProbe_flash (s : State) (n : Nat) (x : Option Probe) : (s.setProbe n x).flash = s.flash := rfl
@[simp] theorem State.setProbe_fw (s : State) (n : Nat) (x : Option Probe) : (s.setProbe n x).fw = s.fw := rfl
@[simp] theorem State.setProbe_claims (s : State) (n : Nat) (x : Option Probe) : (s.setProbe n x).claims = s.claims := rfl
@[simp] theorem State.setProbe_mboxes (s : State) (n : Nat) (x : Option Probe) : (s.setProbe n x).mboxes = s.mboxes := rfl
@[simp] theorem State.setProbe_gears (s : State) (n : Nat) (x : Option Probe) : (s.setProbe n x).gears = s.gears := rfl
@[simp] theorem State.setProbe_swap (s : State) (n : Nat) (x : Option Probe) : (s.setProbe n x).swap = s.swap := rfl
@[simp] theorem State.setProbe_fences (s : State) (n : Nat) (x : Option Probe) : (s.setProbe n x).fences = s.fences := rfl
@[simp] theorem State.setProbe_hostStamp (s : State) (n : Nat) (x : Option Probe) : (s.setProbe n x).hostStamp = s.hostStamp := rfl
@[simp] theorem State.setProbe_host (s : State) (n : Nat) (x : Option Probe) : (s.setProbe n x).host = s.host := rfl
@[simp] theorem State.setProbe_slices (s : State) (n : Nat) (x : Option Probe) : (s.setProbe n x).slices = s.slices := rfl
@[simp] theorem State.setProbe_undo (s : State) (n : Nat) (x : Option Probe) : (s.setProbe n x).undo = s.undo := rfl
@[simp] theorem State.setProbe_rings (s : State) (n : Nat) (x : Option Probe) : (s.setProbe n x).rings = s.rings := rfl
@[simp] theorem State.setProbe_blocks (s : State) (n : Nat) (x : Option Probe) : (s.setProbe n x).blocks = s.blocks := rfl
@[simp] theorem State.setProbe_bell (s : State) (n : Nat) (x : Option Probe) : (s.setProbe n x).bell = s.bell := rfl
@[simp] theorem State.setProbe_wear (s : State) (n : Nat) (x : Option Probe) : (s.setProbe n x).wear = s.wear := rfl
@[simp] theorem State.setProbe_fenced (s : State) (n : Nat) (x : Option Probe) : (s.setProbe n x).fenced = s.fenced := rfl
@[simp] theorem State.setProbe_bad (s : State) (n : Nat) (x : Option Probe) : (s.setProbe n x).bad = s.bad := rfl
@[simp] theorem State.setProbe_ports (s : State) (n : Nat) (x : Option Probe) : (s.setProbe n x).ports = s.ports := rfl
@[simp] theorem State.setProbe_lanes (s : State) (n : Nat) (x : Option Probe) : (s.setProbe n x).lanes = s.lanes := rfl
@[simp] theorem State.setProbe_pipes (s : State) (n : Nat) (x : Option Probe) : (s.setProbe n x).pipes = s.pipes := rfl
@[simp] theorem State.setProbe_ctl (s : State) (n : Nat) (x : Option Probe) : (s.setProbe n x).ctl = s.ctl := rfl
@[simp] theorem State.setProbe_tables (s : State) (n : Nat) (x : Option Probe) : (s.setProbe n x).tables = s.tables := rfl
@[simp] theorem State.setProbe_sw (s : State) (n : Nat) (x : Option Probe) : (s.setProbe n x).sw = s.sw := rfl
@[simp] theorem State.setProbe_far (s : State) (n : Nat) (x : Option Probe) : (s.setProbe n x).far = s.far := rfl
@[simp] theorem State.setProbe_tandem (s : State) (n : Nat) (x : Option Probe) : (s.setProbe n x).tandem = s.tandem := rfl
@[simp] theorem State.setProbe_peloton (s : State) (n : Nat) (x : Option Probe) : (s.setProbe n x).peloton = s.peloton := rfl
@[simp] theorem State.setProbe_cad_freeNs (s : State) (n : Nat) (x : Option Probe) : (s.setProbe n x).cad.freeNs = s.cad.freeNs := rfl
@[simp] theorem State.setProbe_cad_ptp (s : State) (n : Nat) (x : Option Probe) : (s.setProbe n x).cad.ptp = s.cad.ptp := rfl
@[simp] theorem State.setProbe_cad_stepCount (s : State) (n : Nat) (x : Option Probe) : (s.setProbe n x).cad.stepCount = s.cad.stepCount := rfl
@[simp] theorem State.setProbe_cad_freq (s : State) (n : Nat) (x : Option Probe) : (s.setProbe n x).cad.freq = s.cad.freq := rfl
@[simp] theorem State.setProbe_cad_slew (s : State) (n : Nat) (x : Option Probe) : (s.setProbe n x).cad.slew = s.cad.slew := rfl
@[simp] theorem State.setProbe_cad_stepPending (s : State) (n : Nat) (x : Option Probe) : (s.setProbe n x).cad.stepPending = s.cad.stepPending := rfl
@[simp] theorem State.setProbe_cad_stepBy (s : State) (n : Nat) (x : Option Probe) : (s.setProbe n x).cad.stepBy = s.cad.stepBy := rfl
@[simp] theorem State.setProbe_cad_stepMb (s : State) (n : Nat) (x : Option Probe) : (s.setProbe n x).cad.stepMb = s.cad.stepMb := rfl
@[simp] theorem State.setProbe_cad_stepResult (s : State) (n : Nat) (x : Option Probe) : (s.setProbe n x).cad.stepResult = s.cad.stepResult := rfl
@[simp] theorem State.setProbe_cad_timers (s : State) (n : Nat) (x : Option Probe) : (s.setProbe n x).cad.timers = s.cad.timers := rfl
@[simp] theorem State.setProbe_cad_pps (s : State) (n : Nat) (x : Option Probe) : (s.setProbe n x).cad.pps = s.cad.pps := rfl
@[simp] theorem State.setProbe_cad_synce (s : State) (n : Nat) (x : Option Probe) : (s.setProbe n x).cad.synce = s.cad.synce := rfl
@[simp] theorem State.setProbe_cad_gpios (s : State) (n : Nat) (x : Option Probe) : (s.setProbe n x).cad.gpios = s.cad.gpios := rfl
@[simp] theorem State.setProbe_cad_lines (s : State) (n : Nat) (x : Option Probe) : (s.setProbe n x).cad.lines = s.cad.lines := rfl
@[simp] theorem State.setProbe_cad_modules (s : State) (n : Nat) (x : Option Probe) : (s.setProbe n x).cad.modules = s.cad.modules := rfl
@[simp] theorem State.setProbe_cad_counters (s : State) (n : Nat) (x : Option Probe) : (s.setProbe n x).cad.counters = s.cad.counters := rfl

/-! ### setTimer -/

@[simp] theorem State.setTimer_pending (s : State) (n : Nat) (x : Option Timer) : (s.setTimer n x).pending = s.pending := rfl
@[simp] theorem State.setTimer_freeIx (s : State) (n : Nat) (x : Option Timer) : (s.setTimer n x).freeIx = s.freeIx := rfl
@[simp] theorem State.setTimer_balls (s : State) (n : Nat) (x : Option Timer) : (s.setTimer n x).balls = s.balls := rfl
@[simp] theorem State.setTimer_boot (s : State) (n : Nat) (x : Option Timer) : (s.setTimer n x).boot = s.boot := rfl
@[simp] theorem State.setTimer_fuses (s : State) (n : Nat) (x : Option Timer) : (s.setTimer n x).fuses = s.fuses := rfl
@[simp] theorem State.setTimer_flash (s : State) (n : Nat) (x : Option Timer) : (s.setTimer n x).flash = s.flash := rfl
@[simp] theorem State.setTimer_fw (s : State) (n : Nat) (x : Option Timer) : (s.setTimer n x).fw = s.fw := rfl
@[simp] theorem State.setTimer_claims (s : State) (n : Nat) (x : Option Timer) : (s.setTimer n x).claims = s.claims := rfl
@[simp] theorem State.setTimer_mboxes (s : State) (n : Nat) (x : Option Timer) : (s.setTimer n x).mboxes = s.mboxes := rfl
@[simp] theorem State.setTimer_gears (s : State) (n : Nat) (x : Option Timer) : (s.setTimer n x).gears = s.gears := rfl
@[simp] theorem State.setTimer_swap (s : State) (n : Nat) (x : Option Timer) : (s.setTimer n x).swap = s.swap := rfl
@[simp] theorem State.setTimer_fences (s : State) (n : Nat) (x : Option Timer) : (s.setTimer n x).fences = s.fences := rfl
@[simp] theorem State.setTimer_hostStamp (s : State) (n : Nat) (x : Option Timer) : (s.setTimer n x).hostStamp = s.hostStamp := rfl
@[simp] theorem State.setTimer_host (s : State) (n : Nat) (x : Option Timer) : (s.setTimer n x).host = s.host := rfl
@[simp] theorem State.setTimer_slices (s : State) (n : Nat) (x : Option Timer) : (s.setTimer n x).slices = s.slices := rfl
@[simp] theorem State.setTimer_undo (s : State) (n : Nat) (x : Option Timer) : (s.setTimer n x).undo = s.undo := rfl
@[simp] theorem State.setTimer_rings (s : State) (n : Nat) (x : Option Timer) : (s.setTimer n x).rings = s.rings := rfl
@[simp] theorem State.setTimer_blocks (s : State) (n : Nat) (x : Option Timer) : (s.setTimer n x).blocks = s.blocks := rfl
@[simp] theorem State.setTimer_bell (s : State) (n : Nat) (x : Option Timer) : (s.setTimer n x).bell = s.bell := rfl
@[simp] theorem State.setTimer_wear (s : State) (n : Nat) (x : Option Timer) : (s.setTimer n x).wear = s.wear := rfl
@[simp] theorem State.setTimer_fenced (s : State) (n : Nat) (x : Option Timer) : (s.setTimer n x).fenced = s.fenced := rfl
@[simp] theorem State.setTimer_bad (s : State) (n : Nat) (x : Option Timer) : (s.setTimer n x).bad = s.bad := rfl
@[simp] theorem State.setTimer_ports (s : State) (n : Nat) (x : Option Timer) : (s.setTimer n x).ports = s.ports := rfl
@[simp] theorem State.setTimer_lanes (s : State) (n : Nat) (x : Option Timer) : (s.setTimer n x).lanes = s.lanes := rfl
@[simp] theorem State.setTimer_pipes (s : State) (n : Nat) (x : Option Timer) : (s.setTimer n x).pipes = s.pipes := rfl
@[simp] theorem State.setTimer_ctl (s : State) (n : Nat) (x : Option Timer) : (s.setTimer n x).ctl = s.ctl := rfl
@[simp] theorem State.setTimer_tables (s : State) (n : Nat) (x : Option Timer) : (s.setTimer n x).tables = s.tables := rfl
@[simp] theorem State.setTimer_sw (s : State) (n : Nat) (x : Option Timer) : (s.setTimer n x).sw = s.sw := rfl
@[simp] theorem State.setTimer_far (s : State) (n : Nat) (x : Option Timer) : (s.setTimer n x).far = s.far := rfl
@[simp] theorem State.setTimer_tandem (s : State) (n : Nat) (x : Option Timer) : (s.setTimer n x).tandem = s.tandem := rfl
@[simp] theorem State.setTimer_peloton (s : State) (n : Nat) (x : Option Timer) : (s.setTimer n x).peloton = s.peloton := rfl
@[simp] theorem State.setTimer_cad_freeNs (s : State) (n : Nat) (x : Option Timer) : (s.setTimer n x).cad.freeNs = s.cad.freeNs := rfl
@[simp] theorem State.setTimer_cad_ptp (s : State) (n : Nat) (x : Option Timer) : (s.setTimer n x).cad.ptp = s.cad.ptp := rfl
@[simp] theorem State.setTimer_cad_stepCount (s : State) (n : Nat) (x : Option Timer) : (s.setTimer n x).cad.stepCount = s.cad.stepCount := rfl
@[simp] theorem State.setTimer_cad_freq (s : State) (n : Nat) (x : Option Timer) : (s.setTimer n x).cad.freq = s.cad.freq := rfl
@[simp] theorem State.setTimer_cad_slew (s : State) (n : Nat) (x : Option Timer) : (s.setTimer n x).cad.slew = s.cad.slew := rfl
@[simp] theorem State.setTimer_cad_stepPending (s : State) (n : Nat) (x : Option Timer) : (s.setTimer n x).cad.stepPending = s.cad.stepPending := rfl
@[simp] theorem State.setTimer_cad_stepBy (s : State) (n : Nat) (x : Option Timer) : (s.setTimer n x).cad.stepBy = s.cad.stepBy := rfl
@[simp] theorem State.setTimer_cad_stepMb (s : State) (n : Nat) (x : Option Timer) : (s.setTimer n x).cad.stepMb = s.cad.stepMb := rfl
@[simp] theorem State.setTimer_cad_stepResult (s : State) (n : Nat) (x : Option Timer) : (s.setTimer n x).cad.stepResult = s.cad.stepResult := rfl
@[simp] theorem State.setTimer_cad_pps (s : State) (n : Nat) (x : Option Timer) : (s.setTimer n x).cad.pps = s.cad.pps := rfl
@[simp] theorem State.setTimer_cad_synce (s : State) (n : Nat) (x : Option Timer) : (s.setTimer n x).cad.synce = s.cad.synce := rfl
@[simp] theorem State.setTimer_cad_gpios (s : State) (n : Nat) (x : Option Timer) : (s.setTimer n x).cad.gpios = s.cad.gpios := rfl
@[simp] theorem State.setTimer_cad_probes (s : State) (n : Nat) (x : Option Timer) : (s.setTimer n x).cad.probes = s.cad.probes := rfl
@[simp] theorem State.setTimer_cad_lines (s : State) (n : Nat) (x : Option Timer) : (s.setTimer n x).cad.lines = s.cad.lines := rfl
@[simp] theorem State.setTimer_cad_modules (s : State) (n : Nat) (x : Option Timer) : (s.setTimer n x).cad.modules = s.cad.modules := rfl
@[simp] theorem State.setTimer_cad_counters (s : State) (n : Nat) (x : Option Timer) : (s.setTimer n x).cad.counters = s.cad.counters := rfl
@[simp] theorem State.setTimer_timer (s : State) (n : Nat) (x : Option Timer) : (s.setTimer n x).timer n = x := tget_tset_self ..
theorem State.setTimer_timer_ne (s : State) (n : Nat) (x : Option Timer) {m : Nat} (h : m ≠ n) : (s.setTimer n x).timer m = s.timer m :=
  tget_tset_ne _ _ _ h

/-! ### setSynce -/

@[simp] theorem State.setSynce_pending (s : State) (n : Nat) (x : SyncE) : (s.setSynce n x).pending = s.pending := rfl
@[simp] theorem State.setSynce_freeIx (s : State) (n : Nat) (x : SyncE) : (s.setSynce n x).freeIx = s.freeIx := rfl
@[simp] theorem State.setSynce_balls (s : State) (n : Nat) (x : SyncE) : (s.setSynce n x).balls = s.balls := rfl
@[simp] theorem State.setSynce_boot (s : State) (n : Nat) (x : SyncE) : (s.setSynce n x).boot = s.boot := rfl
@[simp] theorem State.setSynce_fuses (s : State) (n : Nat) (x : SyncE) : (s.setSynce n x).fuses = s.fuses := rfl
@[simp] theorem State.setSynce_flash (s : State) (n : Nat) (x : SyncE) : (s.setSynce n x).flash = s.flash := rfl
@[simp] theorem State.setSynce_fw (s : State) (n : Nat) (x : SyncE) : (s.setSynce n x).fw = s.fw := rfl
@[simp] theorem State.setSynce_claims (s : State) (n : Nat) (x : SyncE) : (s.setSynce n x).claims = s.claims := rfl
@[simp] theorem State.setSynce_mboxes (s : State) (n : Nat) (x : SyncE) : (s.setSynce n x).mboxes = s.mboxes := rfl
@[simp] theorem State.setSynce_gears (s : State) (n : Nat) (x : SyncE) : (s.setSynce n x).gears = s.gears := rfl
@[simp] theorem State.setSynce_swap (s : State) (n : Nat) (x : SyncE) : (s.setSynce n x).swap = s.swap := rfl
@[simp] theorem State.setSynce_fences (s : State) (n : Nat) (x : SyncE) : (s.setSynce n x).fences = s.fences := rfl
@[simp] theorem State.setSynce_hostStamp (s : State) (n : Nat) (x : SyncE) : (s.setSynce n x).hostStamp = s.hostStamp := rfl
@[simp] theorem State.setSynce_host (s : State) (n : Nat) (x : SyncE) : (s.setSynce n x).host = s.host := rfl
@[simp] theorem State.setSynce_slices (s : State) (n : Nat) (x : SyncE) : (s.setSynce n x).slices = s.slices := rfl
@[simp] theorem State.setSynce_undo (s : State) (n : Nat) (x : SyncE) : (s.setSynce n x).undo = s.undo := rfl
@[simp] theorem State.setSynce_rings (s : State) (n : Nat) (x : SyncE) : (s.setSynce n x).rings = s.rings := rfl
@[simp] theorem State.setSynce_blocks (s : State) (n : Nat) (x : SyncE) : (s.setSynce n x).blocks = s.blocks := rfl
@[simp] theorem State.setSynce_bell (s : State) (n : Nat) (x : SyncE) : (s.setSynce n x).bell = s.bell := rfl
@[simp] theorem State.setSynce_wear (s : State) (n : Nat) (x : SyncE) : (s.setSynce n x).wear = s.wear := rfl
@[simp] theorem State.setSynce_fenced (s : State) (n : Nat) (x : SyncE) : (s.setSynce n x).fenced = s.fenced := rfl
@[simp] theorem State.setSynce_bad (s : State) (n : Nat) (x : SyncE) : (s.setSynce n x).bad = s.bad := rfl
@[simp] theorem State.setSynce_ports (s : State) (n : Nat) (x : SyncE) : (s.setSynce n x).ports = s.ports := rfl
@[simp] theorem State.setSynce_lanes (s : State) (n : Nat) (x : SyncE) : (s.setSynce n x).lanes = s.lanes := rfl
@[simp] theorem State.setSynce_pipes (s : State) (n : Nat) (x : SyncE) : (s.setSynce n x).pipes = s.pipes := rfl
@[simp] theorem State.setSynce_ctl (s : State) (n : Nat) (x : SyncE) : (s.setSynce n x).ctl = s.ctl := rfl
@[simp] theorem State.setSynce_tables (s : State) (n : Nat) (x : SyncE) : (s.setSynce n x).tables = s.tables := rfl
@[simp] theorem State.setSynce_sw (s : State) (n : Nat) (x : SyncE) : (s.setSynce n x).sw = s.sw := rfl
@[simp] theorem State.setSynce_far (s : State) (n : Nat) (x : SyncE) : (s.setSynce n x).far = s.far := rfl
@[simp] theorem State.setSynce_tandem (s : State) (n : Nat) (x : SyncE) : (s.setSynce n x).tandem = s.tandem := rfl
@[simp] theorem State.setSynce_peloton (s : State) (n : Nat) (x : SyncE) : (s.setSynce n x).peloton = s.peloton := rfl
@[simp] theorem State.setSynce_cad_freeNs (s : State) (n : Nat) (x : SyncE) : (s.setSynce n x).cad.freeNs = s.cad.freeNs := rfl
@[simp] theorem State.setSynce_cad_ptp (s : State) (n : Nat) (x : SyncE) : (s.setSynce n x).cad.ptp = s.cad.ptp := rfl
@[simp] theorem State.setSynce_cad_stepCount (s : State) (n : Nat) (x : SyncE) : (s.setSynce n x).cad.stepCount = s.cad.stepCount := rfl
@[simp] theorem State.setSynce_cad_freq (s : State) (n : Nat) (x : SyncE) : (s.setSynce n x).cad.freq = s.cad.freq := rfl
@[simp] theorem State.setSynce_cad_slew (s : State) (n : Nat) (x : SyncE) : (s.setSynce n x).cad.slew = s.cad.slew := rfl
@[simp] theorem State.setSynce_cad_stepPending (s : State) (n : Nat) (x : SyncE) : (s.setSynce n x).cad.stepPending = s.cad.stepPending := rfl
@[simp] theorem State.setSynce_cad_stepBy (s : State) (n : Nat) (x : SyncE) : (s.setSynce n x).cad.stepBy = s.cad.stepBy := rfl
@[simp] theorem State.setSynce_cad_stepMb (s : State) (n : Nat) (x : SyncE) : (s.setSynce n x).cad.stepMb = s.cad.stepMb := rfl
@[simp] theorem State.setSynce_cad_stepResult (s : State) (n : Nat) (x : SyncE) : (s.setSynce n x).cad.stepResult = s.cad.stepResult := rfl
@[simp] theorem State.setSynce_cad_timers (s : State) (n : Nat) (x : SyncE) : (s.setSynce n x).cad.timers = s.cad.timers := rfl
@[simp] theorem State.setSynce_cad_pps (s : State) (n : Nat) (x : SyncE) : (s.setSynce n x).cad.pps = s.cad.pps := rfl
@[simp] theorem State.setSynce_cad_gpios (s : State) (n : Nat) (x : SyncE) : (s.setSynce n x).cad.gpios = s.cad.gpios := rfl
@[simp] theorem State.setSynce_cad_probes (s : State) (n : Nat) (x : SyncE) : (s.setSynce n x).cad.probes = s.cad.probes := rfl
@[simp] theorem State.setSynce_cad_lines (s : State) (n : Nat) (x : SyncE) : (s.setSynce n x).cad.lines = s.cad.lines := rfl
@[simp] theorem State.setSynce_cad_modules (s : State) (n : Nat) (x : SyncE) : (s.setSynce n x).cad.modules = s.cad.modules := rfl
@[simp] theorem State.setSynce_cad_counters (s : State) (n : Nat) (x : SyncE) : (s.setSynce n x).cad.counters = s.cad.counters := rfl
@[simp] theorem State.setSynce_synceOut (s : State) (n : Nat) (x : SyncE) : (s.setSynce n x).synceOut n = x := tget_tset_self ..
theorem State.setSynce_synceOut_ne (s : State) (n : Nat) (x : SyncE) {m : Nat} (h : m ≠ n) : (s.setSynce n x).synceOut m = s.synceOut m :=
  tget_tset_ne _ _ _ h

/-! ### setModuleBus -/

@[simp] theorem State.setModuleBus_pending (s : State) (n : Nat) (x : ModuleBus) : (s.setModuleBus n x).pending = s.pending := rfl
@[simp] theorem State.setModuleBus_freeIx (s : State) (n : Nat) (x : ModuleBus) : (s.setModuleBus n x).freeIx = s.freeIx := rfl
@[simp] theorem State.setModuleBus_balls (s : State) (n : Nat) (x : ModuleBus) : (s.setModuleBus n x).balls = s.balls := rfl
@[simp] theorem State.setModuleBus_boot (s : State) (n : Nat) (x : ModuleBus) : (s.setModuleBus n x).boot = s.boot := rfl
@[simp] theorem State.setModuleBus_fuses (s : State) (n : Nat) (x : ModuleBus) : (s.setModuleBus n x).fuses = s.fuses := rfl
@[simp] theorem State.setModuleBus_flash (s : State) (n : Nat) (x : ModuleBus) : (s.setModuleBus n x).flash = s.flash := rfl
@[simp] theorem State.setModuleBus_fw (s : State) (n : Nat) (x : ModuleBus) : (s.setModuleBus n x).fw = s.fw := rfl
@[simp] theorem State.setModuleBus_claims (s : State) (n : Nat) (x : ModuleBus) : (s.setModuleBus n x).claims = s.claims := rfl
@[simp] theorem State.setModuleBus_mboxes (s : State) (n : Nat) (x : ModuleBus) : (s.setModuleBus n x).mboxes = s.mboxes := rfl
@[simp] theorem State.setModuleBus_gears (s : State) (n : Nat) (x : ModuleBus) : (s.setModuleBus n x).gears = s.gears := rfl
@[simp] theorem State.setModuleBus_swap (s : State) (n : Nat) (x : ModuleBus) : (s.setModuleBus n x).swap = s.swap := rfl
@[simp] theorem State.setModuleBus_fences (s : State) (n : Nat) (x : ModuleBus) : (s.setModuleBus n x).fences = s.fences := rfl
@[simp] theorem State.setModuleBus_hostStamp (s : State) (n : Nat) (x : ModuleBus) : (s.setModuleBus n x).hostStamp = s.hostStamp := rfl
@[simp] theorem State.setModuleBus_host (s : State) (n : Nat) (x : ModuleBus) : (s.setModuleBus n x).host = s.host := rfl
@[simp] theorem State.setModuleBus_slices (s : State) (n : Nat) (x : ModuleBus) : (s.setModuleBus n x).slices = s.slices := rfl
@[simp] theorem State.setModuleBus_undo (s : State) (n : Nat) (x : ModuleBus) : (s.setModuleBus n x).undo = s.undo := rfl
@[simp] theorem State.setModuleBus_rings (s : State) (n : Nat) (x : ModuleBus) : (s.setModuleBus n x).rings = s.rings := rfl
@[simp] theorem State.setModuleBus_blocks (s : State) (n : Nat) (x : ModuleBus) : (s.setModuleBus n x).blocks = s.blocks := rfl
@[simp] theorem State.setModuleBus_bell (s : State) (n : Nat) (x : ModuleBus) : (s.setModuleBus n x).bell = s.bell := rfl
@[simp] theorem State.setModuleBus_wear (s : State) (n : Nat) (x : ModuleBus) : (s.setModuleBus n x).wear = s.wear := rfl
@[simp] theorem State.setModuleBus_fenced (s : State) (n : Nat) (x : ModuleBus) : (s.setModuleBus n x).fenced = s.fenced := rfl
@[simp] theorem State.setModuleBus_bad (s : State) (n : Nat) (x : ModuleBus) : (s.setModuleBus n x).bad = s.bad := rfl
@[simp] theorem State.setModuleBus_ports (s : State) (n : Nat) (x : ModuleBus) : (s.setModuleBus n x).ports = s.ports := rfl
@[simp] theorem State.setModuleBus_lanes (s : State) (n : Nat) (x : ModuleBus) : (s.setModuleBus n x).lanes = s.lanes := rfl
@[simp] theorem State.setModuleBus_pipes (s : State) (n : Nat) (x : ModuleBus) : (s.setModuleBus n x).pipes = s.pipes := rfl
@[simp] theorem State.setModuleBus_ctl (s : State) (n : Nat) (x : ModuleBus) : (s.setModuleBus n x).ctl = s.ctl := rfl
@[simp] theorem State.setModuleBus_tables (s : State) (n : Nat) (x : ModuleBus) : (s.setModuleBus n x).tables = s.tables := rfl
@[simp] theorem State.setModuleBus_sw (s : State) (n : Nat) (x : ModuleBus) : (s.setModuleBus n x).sw = s.sw := rfl
@[simp] theorem State.setModuleBus_far (s : State) (n : Nat) (x : ModuleBus) : (s.setModuleBus n x).far = s.far := rfl
@[simp] theorem State.setModuleBus_tandem (s : State) (n : Nat) (x : ModuleBus) : (s.setModuleBus n x).tandem = s.tandem := rfl
@[simp] theorem State.setModuleBus_peloton (s : State) (n : Nat) (x : ModuleBus) : (s.setModuleBus n x).peloton = s.peloton := rfl
@[simp] theorem State.setModuleBus_cad_freeNs (s : State) (n : Nat) (x : ModuleBus) : (s.setModuleBus n x).cad.freeNs = s.cad.freeNs := rfl
@[simp] theorem State.setModuleBus_cad_ptp (s : State) (n : Nat) (x : ModuleBus) : (s.setModuleBus n x).cad.ptp = s.cad.ptp := rfl
@[simp] theorem State.setModuleBus_cad_stepCount (s : State) (n : Nat) (x : ModuleBus) : (s.setModuleBus n x).cad.stepCount = s.cad.stepCount := rfl
@[simp] theorem State.setModuleBus_cad_freq (s : State) (n : Nat) (x : ModuleBus) : (s.setModuleBus n x).cad.freq = s.cad.freq := rfl
@[simp] theorem State.setModuleBus_cad_slew (s : State) (n : Nat) (x : ModuleBus) : (s.setModuleBus n x).cad.slew = s.cad.slew := rfl
@[simp] theorem State.setModuleBus_cad_stepPending (s : State) (n : Nat) (x : ModuleBus) : (s.setModuleBus n x).cad.stepPending = s.cad.stepPending := rfl
@[simp] theorem State.setModuleBus_cad_stepBy (s : State) (n : Nat) (x : ModuleBus) : (s.setModuleBus n x).cad.stepBy = s.cad.stepBy := rfl
@[simp] theorem State.setModuleBus_cad_stepMb (s : State) (n : Nat) (x : ModuleBus) : (s.setModuleBus n x).cad.stepMb = s.cad.stepMb := rfl
@[simp] theorem State.setModuleBus_cad_stepResult (s : State) (n : Nat) (x : ModuleBus) : (s.setModuleBus n x).cad.stepResult = s.cad.stepResult := rfl
@[simp] theorem State.setModuleBus_cad_timers (s : State) (n : Nat) (x : ModuleBus) : (s.setModuleBus n x).cad.timers = s.cad.timers := rfl
@[simp] theorem State.setModuleBus_cad_pps (s : State) (n : Nat) (x : ModuleBus) : (s.setModuleBus n x).cad.pps = s.cad.pps := rfl
@[simp] theorem State.setModuleBus_cad_synce (s : State) (n : Nat) (x : ModuleBus) : (s.setModuleBus n x).cad.synce = s.cad.synce := rfl
@[simp] theorem State.setModuleBus_cad_gpios (s : State) (n : Nat) (x : ModuleBus) : (s.setModuleBus n x).cad.gpios = s.cad.gpios := rfl
@[simp] theorem State.setModuleBus_cad_probes (s : State) (n : Nat) (x : ModuleBus) : (s.setModuleBus n x).cad.probes = s.cad.probes := rfl
@[simp] theorem State.setModuleBus_cad_lines (s : State) (n : Nat) (x : ModuleBus) : (s.setModuleBus n x).cad.lines = s.cad.lines := rfl
@[simp] theorem State.setModuleBus_cad_counters (s : State) (n : Nat) (x : ModuleBus) : (s.setModuleBus n x).cad.counters = s.cad.counters := rfl

/-! ### setTandem -/

@[simp] theorem State.setTandem_pending (s : State) (t : Tandem) : (s.setTandem t).pending = s.pending := rfl
@[simp] theorem State.setTandem_freeIx (s : State) (t : Tandem) : (s.setTandem t).freeIx = s.freeIx := rfl
@[simp] theorem State.setTandem_balls (s : State) (t : Tandem) : (s.setTandem t).balls = s.balls := rfl
@[simp] theorem State.setTandem_boot (s : State) (t : Tandem) : (s.setTandem t).boot = s.boot := rfl
@[simp] theorem State.setTandem_fuses (s : State) (t : Tandem) : (s.setTandem t).fuses = s.fuses := rfl
@[simp] theorem State.setTandem_flash (s : State) (t : Tandem) : (s.setTandem t).flash = s.flash := rfl
@[simp] theorem State.setTandem_fw (s : State) (t : Tandem) : (s.setTandem t).fw = s.fw := rfl
@[simp] theorem State.setTandem_claims (s : State) (t : Tandem) : (s.setTandem t).claims = s.claims := rfl
@[simp] theorem State.setTandem_mboxes (s : State) (t : Tandem) : (s.setTandem t).mboxes = s.mboxes := rfl
@[simp] theorem State.setTandem_gears (s : State) (t : Tandem) : (s.setTandem t).gears = s.gears := rfl
@[simp] theorem State.setTandem_swap (s : State) (t : Tandem) : (s.setTandem t).swap = s.swap := rfl
@[simp] theorem State.setTandem_fences (s : State) (t : Tandem) : (s.setTandem t).fences = s.fences := rfl
@[simp] theorem State.setTandem_hostStamp (s : State) (t : Tandem) : (s.setTandem t).hostStamp = s.hostStamp := rfl
@[simp] theorem State.setTandem_host (s : State) (t : Tandem) : (s.setTandem t).host = s.host := rfl
@[simp] theorem State.setTandem_slices (s : State) (t : Tandem) : (s.setTandem t).slices = s.slices := rfl
@[simp] theorem State.setTandem_undo (s : State) (t : Tandem) : (s.setTandem t).undo = s.undo := rfl
@[simp] theorem State.setTandem_rings (s : State) (t : Tandem) : (s.setTandem t).rings = s.rings := rfl
@[simp] theorem State.setTandem_cad (s : State) (t : Tandem) : (s.setTandem t).cad = s.cad := rfl
@[simp] theorem State.setTandem_blocks (s : State) (t : Tandem) : (s.setTandem t).blocks = s.blocks := rfl
@[simp] theorem State.setTandem_bell (s : State) (t : Tandem) : (s.setTandem t).bell = s.bell := rfl
@[simp] theorem State.setTandem_wear (s : State) (t : Tandem) : (s.setTandem t).wear = s.wear := rfl
@[simp] theorem State.setTandem_fenced (s : State) (t : Tandem) : (s.setTandem t).fenced = s.fenced := rfl
@[simp] theorem State.setTandem_bad (s : State) (t : Tandem) : (s.setTandem t).bad = s.bad := rfl
@[simp] theorem State.setTandem_ports (s : State) (t : Tandem) : (s.setTandem t).ports = s.ports := rfl
@[simp] theorem State.setTandem_lanes (s : State) (t : Tandem) : (s.setTandem t).lanes = s.lanes := rfl
@[simp] theorem State.setTandem_pipes (s : State) (t : Tandem) : (s.setTandem t).pipes = s.pipes := rfl
@[simp] theorem State.setTandem_ctl (s : State) (t : Tandem) : (s.setTandem t).ctl = s.ctl := rfl
@[simp] theorem State.setTandem_tables (s : State) (t : Tandem) : (s.setTandem t).tables = s.tables := rfl
@[simp] theorem State.setTandem_sw (s : State) (t : Tandem) : (s.setTandem t).sw = s.sw := rfl
@[simp] theorem State.setTandem_far (s : State) (t : Tandem) : (s.setTandem t).far = s.far := rfl
@[simp] theorem State.setTandem_peloton (s : State) (t : Tandem) : (s.setTandem t).peloton = s.peloton := rfl

end Sys2Proof.Machine
end

