-- ==== Sys2Proof/Laws/Flow.lean ====
section
/-! SUPPORT. What the shared operations of every command can change: messages, responses and completions. -/
namespace Sys2Proof.Machine
open Sys2Proof

/-- The state with the parts masked that a reply touches: mailboxes, host memory and vectors, counters of the
blocks, free values, the journal, the rotation of service. Two states of one view agree in everything else. -/
def State.besideReply (s : State) : State :=
  { s with
    mboxes := [], blocks := [], freeIx := 0, host := { s.host with mem := [], spaces := [], vectors := [] },
    fw := { s.fw with journal := [], managerLast := false, lastSlice := 0 }, tandem := { s.tandem with changing := false } }

theorem besideReply_dmaWrite (s : State) (a : Nat) (b : Bytes) : (s.dmaWrite a b).besideReply = s.besideReply := by
  unfold State.dmaWrite
  split <;> rfl

theorem besideReply_dmaFor (s : State) (slc a : Nat) (b : Bytes) : (s.dmaFor slc a b).besideReply = s.besideReply := by
  unfold State.dmaFor
  split
  · exact besideReply_dmaWrite ..
  · split <;> rfl

theorem besideReply_vectorDeliver (s : State) (v : Nat) : (s.vectorDeliver v).besideReply = s.besideReply := by
  unfold State.vectorDeliver
  dsimp only
  split
  · rfl
  · rw [besideReply_dmaWrite]; rfl

theorem besideReply_vectorRaise (s : State) (v : Nat) (tag : Option (Nat × BitVec 16)) :
    (s.vectorRaise v tag).besideReply = s.besideReply := by
  unfold State.vectorRaise
  dsimp only
  split
  · rfl
  · split
    · split
      · rfl
      · exact besideReply_vectorDeliver s v
    · exact besideReply_vectorDeliver s v

theorem besideReply_event (s : State) (k o : Nat) : (s.event k o).besideReply = s.besideReply :=
  forAll_proj State.besideReply _ (fun _ _ => besideReply_vectorRaise ..) _ s

theorem besideReply_responseInt (s : State) (mb : Nat) (e : Entry) : (s.responseInt mb e).besideReply = s.besideReply := by
  unfold State.responseInt
  dsimp only
  split
  · rfl
  · exact besideReply_vectorRaise ..
  · split
    · exact besideReply_vectorRaise ..
    · rfl
  · split
    · rw [besideReply_vectorRaise]; rfl
    · rfl

theorem besideReply_postResponse (s : State) (mb op : Nat) (e : Entry) (st d n : Nat) (r : BitVec 128) :
    (s.postResponse mb op e st d n r).besideReply = s.besideReply := by
  unfold State.postResponse
  dsimp only
  split
  · rfl
  · rw [besideReply_responseInt]
    exact besideReply_dmaFor ..

theorem besideReply_answerUndefined (fuel : Nat) (s : State) (mb : Nat) :
    (s.answerUndefined fuel mb).besideReply = s.besideReply := by
  induction fuel generalizing s with
  | zero => rfl
  | succ k ih =>
    unfold State.answerUndefined
    dsimp only
    split
    · split
      · rw [ih, besideReply_postResponse]; rfl
      · rfl
    · rfl

theorem besideReply_perfEvent (s : State) (b ev n : Nat) : (s.perfEvent b ev n).besideReply = s.besideReply := by
  unfold State.perfEvent
  dsimp only
  split <;> rfl

theorem besideReply_enableCheck (s : State) (mb : Nat) : (s.enableCheck mb).besideReply = s.besideReply := by
  unfold State.enableCheck
  dsimp only
  split
  · rfl
  · split <;> rfl

theorem besideReply_leaveExec (s : State) (mb : Nat) : (s.leaveExec mb).besideReply = s.besideReply := by
  unfold State.leaveExec
  dsimp only
  split
  · rw [besideReply_enableCheck]; rfl
  · rfl

theorem besideReply_missedEnds (s : State) (x : InExec) : (s.missedEnds x).besideReply = s.besideReply := by
  unfold State.missedEnds
  split <;> rfl

theorem besideReply_journalled (s : State) (mb : Nat) (r : OpRow) (x : InExec) (st n : Nat) :
    (s.journalled mb r x st n).besideReply = s.besideReply := by
  unfold State.journalled
  split <;> rfl

/-- A completion changes only what a reply touches. -/
theorem besideReply_complete (s : State) (mb : Nat) (r : OpRow) (st d n : Nat) (res : BitVec 128) :
    (s.complete mb r st d n res).besideReply = s.besideReply := by
  unfold State.complete
  dsimp only
  split
  · rfl
  · split
    · rfl
    · rw [besideReply_answerUndefined, besideReply_journalled, besideReply_missedEnds, besideReply_perfEvent,
        besideReply_leaveExec, besideReply_postResponse]

/-- A command that starts changes only its mailbox. -/
theorem besideReply_started (s : State) (mb op : Nat) (e : Entry) (b : Option Bytes) :
    (s.started mb op e b).besideReply = s.besideReply := rfl

/-- Every row of a mailbox command answers a next state. -/
theorem runCmd_next (r : OpRow) (body : Body) (mb : Fin 129) (e : Entry) (buf : Option Bytes) (s : State) :
    ∃ t, runCmd r body mb e buf s = .next t := by
  unfold runCmd
  split <;> exact ⟨_, rfl⟩

/-- A command that is not the next one of its mailbox changes nothing. -/
theorem runCmd_waits (r : OpRow) (body : Body) (mb : Fin 129) (e : Entry) (buf : Option Bytes) (s : State)
    (h : s.cmdReady mb.val r.op e = false) : runCmd r body mb e buf s = .next s := by
  simp [runCmd, h]

/-- The command that may start runs its effect on the state in which it is in execution. -/
theorem runCmd_ready (r : OpRow) (body : Body) (mb : Fin 129) (e : Entry) (buf : Option Bytes) (s : State)
    (h : s.cmdReady mb.val r.op e = true) : runCmd r body mb e buf s =
      .next ((s.started mb.val r.op e buf).settle mb.val r (body (s.started mb.val r.op e buf) mb.val e buf)) := by
  simp [runCmd, h]

/-- A list of checks passes when each passes. -/
theorem firstSome_none {α : Type} (l : List (Option α)) : firstSome l = none ↔ ∀ c ∈ l, c = none := by
  induction l with
  | nil => simp [firstSome]
  | cons a r ih => cases a <;> simp [firstSome, ih]

theorem failIf_none (b : Bool) (st d : Nat) : failIf b st d = none ↔ b = false := by
  cases b <;> simp [failIf]

theorem minFold_le {α : Type} (key : α → Nat) (l : List α) (m : α) :
    key (l.foldl (fun m x => if key x < key m then x else m) m) ≤ key m := by
  induction l generalizing m with
  | nil => exact Nat.le_refl _
  | cons a r ih =>
    simp only [List.foldl_cons]
    refine Nat.le_trans (ih _) ?_
    split <;> omega

/-- With every range condition false, step 2 fails only for what it checks without them. -/
theorem argCheck_range (e : Entry) (used : List Field) (bad : List (Bool × Nat)) (h : ∀ x ∈ bad, x.1 = false) :
    argCheck e used bad = argCheck e used [] := by
  have hb : bad.filter (fun x => x.1) = [] := by
    rw [List.filter_eq_nil_iff]
    intro x hx
    simp [h x hx]
  simp [argCheck, hb]

theorem entryCheck_range (r : OpRow) (s : State) (mb : Nat) (e : Entry) (used : List Field) (bad : List (Bool × Nat))
    (h : ∀ x ∈ bad, x.1 = false) : entryCheck r s mb e used bad = entryCheck r s mb e used [] := by
  unfold entryCheck stepTwo
  rw [argCheck_range _ _ bad h]

theorem formCheck_range (r : OpRow) (s : State) (mb : Nat) (e : Entry) (used : List Field) (bad : List (Bool × Nat)) (m : Bool)
    (h : ∀ x ∈ bad, x.1 = false) : formCheck r s mb e used bad m = formCheck r s mb e used [] m := by
  unfold formCheck stepTwo
  rw [argCheck_range _ _ bad h]

/-- The manager may name any form: step 3 passes for it. -/
theorem formCheck_manager (r : OpRow) (s : State) (mb : Nat) (e : Entry) (used : List Field) (bad : List (Bool × Nat)) (m : Bool)
    (h : (mb ≠ 0 && m) = false) : formCheck r s mb e used bad m = entryCheck r s mb e used bad := by
  unfold formCheck entryCheck
  rw [h]
  cases stepTwo r mb e used bad <;> rfl

/-! ### Faults, events and records -/

/-- The state with the parts masked that replies, detections, events and log records touch. Two states of one view agree
in everything else: ports, pipes, stores, tables, slices, rings, the Cadence unit, and so on. -/
def State.besideNotes (s : State) : State :=
  { s with
    mboxes := [], blocks := [], freeIx := 0, host := { s.host with mem := [], spaces := [], vectors := [] },
    fw := { s.fw with journal := [], managerLast := false, lastSlice := 0, log := [], logSeq := 0, halted := false, fwReady := false },
    bell := { s.bell with dumpState := .off, dump := none }, tandem := { s.tandem with changing := false } }

/-- What a reply leaves, a note leaves. -/
theorem besideNotes_of_reply {s t : State} (h : s.besideReply = t.besideReply) : s.besideNotes = t.besideNotes := by
  change State.besideNotes s.besideReply = State.besideNotes t.besideReply
  rw [h]

theorem besideNotes_complete (s : State) (mb : Nat) (r : OpRow) (st d n : Nat) (res : BitVec 128) :
    (s.complete mb r st d n res).besideNotes = s.besideNotes := besideNotes_of_reply (besideReply_complete ..)

theorem besideNotes_finish (s : State) (mb : Nat) (r : OpRow) (res : BitVec 128) :
    (s.finish mb r res).besideNotes = s.besideNotes := besideNotes_complete ..

theorem besideNotes_event (s : State) (k o : Nat) : (s.event k o).besideNotes = s.besideNotes :=
  besideNotes_of_reply (besideReply_event ..)

theorem besideNotes_perfEvent (s : State) (b ev n : Nat) : (s.perfEvent b ev n).besideNotes = s.besideNotes :=
  besideNotes_of_reply (besideReply_perfEvent ..)

theorem besideNotes_fwRecord (s : State) (k m st op i d : Nat) : (s.fwRecord k m st op i d).besideNotes = s.besideNotes := by
  unfold State.fwRecord
  split
  · rfl
  · have h : ∀ l n, ({ s with fw := { s.fw with log := l, logSeq := n } } : State).besideNotes = s.besideNotes := fun _ _ => rfl
    exact h _ _

theorem besideNotes_fatalSet (s : State) (b c : Nat) : (s.fatalSet b c).besideNotes = s.besideNotes := by
  unfold State.fatalSet
  dsimp only
  split <;> split <;> rfl

theorem ite_both {α : Type} {c : Prop} [Decidable c] {x y z : α} (hx : x = z) (hy : y = z) : (if c then x else y) = z := by
  split <;> assumption

/-- A detection changes only what notes touch. -/
theorem besideNotes_raise (s : State) (b c d : Nat) (inj : Bool) : (s.raise b c d inj).besideNotes = s.besideNotes := by
  unfold State.raise
  dsimp only
  split
  · rfl
  · have h0 : ∀ (u : State) (p : Prop) [Decidable p] (x y : State), x.besideNotes = u.besideNotes → y.besideNotes = u.besideNotes →
        (if p then x else y).besideNotes = u.besideNotes := by
      intro u p _ x y hx hy
      split <;> assumption
    refine h0 s _ _ _ ((besideNotes_event ..).trans ?_) ?_ <;>
      refine h0 s _ _ _ ((besideNotes_event ..).trans ?_) ?_ <;>
      refine h0 s _ _ _ ((besideNotes_fatalSet ..).trans ?_) ?_ <;>
      refine h0 s _ _ _ ((besideNotes_perfEvent ..).trans ?_) ?_ <;>
      exact h0 s _ _ _ rfl ((besideNotes_perfEvent ..).trans rfl)

theorem besideNotes_setCause (s : State) (b c : Nat) (v : Bool) : (s.setCause b c v).besideNotes = s.besideNotes := rfl

theorem besideNotes_raiseCause (s : State) (b c d : Nat) (inj : Bool) : (s.raiseCause b c d inj).besideNotes = s.besideNotes := by
  unfold State.raiseCause
  split
  · rfl
  · exact besideNotes_raise ..

theorem besideNotes_mboxError (s : State) (mb : Nat) (c : MboxCause) (n : Nat) : (s.mboxError mb c n).besideNotes = s.besideNotes := by
  unfold State.mboxError
  exact (besideNotes_fwRecord ..).trans (besideNotes_raise ..)

/-! ### Mailboxes through detections -/

theorem mboxes_dmaWrite (s : State) (a : Nat) (b : Bytes) : (s.dmaWrite a b).mboxes = s.mboxes := State.dmaWrite_mboxes ..

theorem mboxes_vectorRaise (s : State) (v : Nat) (tag : Option (Nat × BitVec 16)) : (s.vectorRaise v tag).mboxes = s.mboxes := by
  have h (s : State) : (s.vectorDeliver v).mboxes = s.mboxes := by
    unfold State.vectorDeliver
    dsimp only
    split
    · rfl
    · exact mboxes_dmaWrite ..
  unfold State.vectorRaise
  dsimp only
  split
  · rfl
  · split
    · split
      · rfl
      · exact h s
    · exact h s

theorem mboxes_event (s : State) (k o : Nat) : (s.event k o).mboxes = s.mboxes :=
  forAll_proj State.mboxes _ (fun _ _ => mboxes_vectorRaise ..) _ s

theorem mboxes_perfEvent (s : State) (b ev n : Nat) : (s.perfEvent b ev n).mboxes = s.mboxes := by
  unfold State.perfEvent
  dsimp only
  split <;> rfl

theorem mboxes_fatalSet (s : State) (b c : Nat) : (s.fatalSet b c).mboxes = s.mboxes := by
  unfold State.fatalSet
  dsimp only
  split <;> split <;> rfl

theorem mboxes_fwRecord (s : State) (k m st op i d : Nat) : (s.fwRecord k m st op i d).mboxes = s.mboxes := by
  unfold State.fwRecord
  split <;> rfl

/-- A detection leaves every mailbox alone. -/
theorem mboxes_raise (s : State) (b c d : Nat) (inj : Bool) : (s.raise b c d inj).mboxes = s.mboxes := by
  unfold State.raise
  dsimp only
  split
  · rfl
  · have h0 : ∀ (u : State) (p : Prop) [Decidable p] (x y : State), x.mboxes = u.mboxes → y.mboxes = u.mboxes →
        (if p then x else y).mboxes = u.mboxes := by
      intro u p _ x y hx hy
      split <;> assumption
    refine h0 s _ _ _ ((mboxes_event ..).trans ?_) ?_ <;>
      refine h0 s _ _ _ ((mboxes_event ..).trans ?_) ?_ <;>
      refine h0 s _ _ _ ((mboxes_fatalSet ..).trans ?_) ?_ <;>
      refine h0 s _ _ _ ((mboxes_perfEvent ..).trans ?_) ?_ <;>
      exact h0 s _ _ _ rfl ((mboxes_perfEvent ..).trans rfl)

/-- A mailbox that enters ERROR: its state and cause; the others stay. -/
theorem mbox_mboxError (s : State) (mb : Nat) (c : MboxCause) (n : Nat) :
    (s.mboxError mb c n).mbox mb = { s.mbox mb with state := .error, errCause := c } := by
  unfold State.mboxError State.mbox
  rw [mboxes_fwRecord, mboxes_raise]
  exact tget_tset_self ..

/-! ### Reads of on-chip words -/

/-- With no injection armed in a block, a read of its words finds none and changes nothing. -/
theorem State.dataRead_quiet (s : State) (b : Nat) (w : ChipWord) (code : Nat) (h : tget (s.block b).armed none 1 = none) :
    s.dataRead b w code = (false, s) := by
  simp only [State.dataRead, h]

/-- With no injection armed anywhere, none is armed in any block. -/
theorem State.armed_of_readsQuiet (s : State) (b : Nat) (h : s.readsQuiet = true) : tget (s.block b).armed none 1 = none := by
  rcases tget_mem_or s.blocks Block.reset b with hb | hb
  · have := List.all_eq_true.mp h _ hb
    simpa [State.block] using this
  · rw [State.block, hb]; rfl

/-- With no injection armed, the crossbar serves a frame as it stands. -/
theorem State.xbarRead_quiet (s : State) (f : Nat) (x : Frame) (serve : State → Frame → State) (h : s.readsQuiet = true) :
    s.xbarRead f x serve = serve s x := by
  simp [State.xbarRead, h]

/-- With no word of the switch core bad and no injection armed there, a word of it is read and written back unchanged. -/
theorem State.touchWord_quiet (s : State) (w : ChipWord) (h : s.wordsQuiet = true) : s.touchWord w = (false, s) := by
  simp [State.touchWord, h]

end Sys2Proof.Machine
end

