-- ==== Sys2Proof/WellFormed.lean ====
section
/-! DEFINITION. Which commands are well formed: operands that something outside the block can present. -/
namespace Sys2Proof

/-- A unit of Table 14-7 that exists on some part. -/
def UnitRef.wellFormed (u : UnitRef) : Bool :=
  match u.kind with
  | 1 => u.index < 16
  | 2 => u.index < 8
  | 3 => u.index < 8
  | 4 => u.index < 8
  | 5 => u.index < 128
  | 6 => u.index < 24
  | _ => false

/-- An indirect buffer that was read holds whole 64-byte units (Table 2-9). -/
def bufferWellFormed (b : Option Bytes) : Bool :=
  match b with
  | some d => d.length % 64 == 0 && d.length ≤ 16777216
  | none => true

/-- The operands of a command are ones that can be presented to the block. -/
def Instr.wellFormed (i : Instr) : Bool :=
  match i with
  | .deviceInfo _ _ => true
  | .nop _ _ => true
  | .claimQuery _ _ => true
  | .fwLogRead _ _ b => bufferWellFormed b
  | .fence _ _ => true
  | .ruleBankSwap _ _ => true
  | .ruleBankStatus _ _ => true
  | .gearSet _ _ => true
  | .gearStatus _ _ => true
  | .patchStage _ _ b => bufferWellFormed b
  | .patchActivate _ _ => true
  | .patchStatus _ _ => true
  | .patchRevert _ _ => true
  | .fuseRead _ _ => true
  | .rollbackAdvance _ _ _ => true
  | .portConfig _ _ => true
  | .portEnable _ _ => true
  | .portModeSet _ _ => true
  | .portPauseSet _ _ => true
  | .portStatus _ _ => true
  | .portStatsRead _ _ => true
  | .parseGraphLoad _ _ b => bufferWellFormed b
  | .customerStoreLoad _ _ b => bufferWellFormed b
  | .patternSetLoad _ _ b => bufferWellFormed b
  | .patternSetBind _ _ => true
  | .lifelineSet _ _ => true
  | .emInsert _ _ b => bufferWellFormed b
  | .emDelete _ _ b => bufferWellFormed b
  | .emUpdate _ _ => true
  | .emLookup _ _ => true
  | .emReadIndex _ _ => true
  | .lpmAdd _ _ b => bufferWellFormed b
  | .lpmDelete _ _ b => bufferWellFormed b
  | .learnConfig _ _ => true
  | .ageingConfig _ _ => true
  | .parityLogRead _ _ => true
  | .ruleInsert _ _ b => bufferWellFormed b
  | .ruleDelete _ _ b => bufferWellFormed b
  | .ruleRead _ _ => true
  | .actionProgramLoad _ _ b => bufferWellFormed b
  | .isolationMatrixSet _ _ b => bufferWellFormed b
  | .recircConfig _ _ => true
  | .queueThresholdSet _ _ => true
  | .ecnConfig _ _ => true
  | .mcastGroupSet _ _ => true
  | .spillConfig _ _ => true
  | .chainAuditRun _ _ => true
  | .storeStatus _ _ => true
  | .nodeConfig _ _ => true
  | .shaperSet _ _ => true
  | .wfqWeightSet _ _ => true
  | .policerSet _ _ => true
  | .classSchedSet _ _ => true
  | .schedRead _ _ => true
  | .dramTrain _ _ => true
  | .dramStatus _ _ => true
  | .dramRetry _ _ => true
  | .dramCaptureSet _ _ => true
  | .sliceCreate _ _ => true
  | .sliceResize _ _ => true
  | .sliceDestroy _ _ => true
  | .sliceReset _ _ => true
  | .sliceStatus _ _ => true
  | .ringPairSet _ _ => true
  | .vectorMapSet _ _ => true
  | .timeSet _ _ => true
  | .timeAdjust _ _ => true
  | .probeSet _ _ => true
  | .probeRead _ _ => true
  | .counterSnapshot _ _ b => bufferWellFormed b
  | .perfSelect _ _ => true
  | .lineChannelSet _ _ => true
  | .lineChannelStatus _ _ => true
  | .moduleAccess _ _ _ => true
  | .synceOutSet _ _ => true
  | .ppsOutSet _ _ => true
  | .gpioSet _ _ => true
  | .faultStatusRead _ _ => true
  | .unitFence _ _ => true
  | .unitUnfence _ _ _ => true
  | .faultInject _ _ => true
  | .bellConfig _ _ => true
  | .wearRead _ _ => true
  | .tandemConfig _ _ => true
  | .tandemStatus _ _ => true
  | .roleHandover _ _ => true
  | .claimRankSet _ _ => true
  | .pelotonConfig _ _ => true
  | .fabricStatus _ _ => true
  | .digestRead _ _ => true
  | .mboxEnable _ _ => true
  | .mboxDisable _ _ => true
  | .mboxDoorbell _ _ => true
  | .mboxRspHead _ _ => true
  | .mboxCommandFetch _ _ _ => true
  | .commandTimeLimit _ => true
  | .classLimit _ => true
  | .ringTxDoorbell _ _ => true
  | .ringRxDoorbell _ _ => true
  | .errStatusClear _ _ => true
  | .errInjectArm _ _ => true
  | .perfSelConfig _ _ _ => true
  | .perfCounterClear _ _ => true
  | .perfOvfClear _ _ => true
  | .perfCounterSample _ _ => true
  | .chainCountSample _ => true
  | .farCountSample => true
  | .timeSample => true
  | .hostStop _ => true
  | .dumpRearm => true
  | .deviceReset _ _ _ => true
  | .registerWrite _ _ _ _ => true
  | .sysResetAssert => true
  | .resetRelease _ _ => true
  | .fuseLoadComplete fuses => fuses.keyHash.length == 4 && fuses.second.keyHash.length == 4
  | .bootBundleRead _ data other => data.length ≤ 8388608 && other.length ≤ 8388608
  | .memoryInitComplete units _ => units.all UnitRef.wellFormed
  | .serdesCalibrationComplete _ _ => true
  | .defaultConfiguration => true
  | .perst => true
  | .functionLevelReset => true
  | .pcieRefclkLoss => true
  | .pcieLinkUp => true
  | .laneSignalDetect _ _ => true
  | .laneLockChange _ _ _ => true
  | .linkTrainingComplete _ => true
  | .linkFaultChange _ _ _ => true
  | .linkUpHoldExpiry _ => true
  | .linkDownHoldExpiry _ => true
  | .flushComplete _ => true
  | .laneSkewMeasured _ => true
  | .rxFrameStart _ bytes _ => bytes.length ≤ 65536
  | .pipeHeadTaken _ => true
  | .packetPass _ => true
  | .matcherResult _ => true
  | .recircHead _ => true
  | .ingressCellWrite _ => true
  | .rxFrameEnd _ _ _ _ => true
  | .statUpdate => true
  | .xbarGrant _ => true
  | .sinkCreditReturn _ _ => true
  | .mcastReplicate _ _ => true
  | .plainClassSelect _ => true
  | .txFrameStart _ => true
  | .txFrameEnd _ => true
  | .pauseTimerExpiry _ _ => true
  | .pauseWatchdogTrip _ _ => true
  | .pauseWatchdogEnd _ _ => true
  | .xoffRefresh _ _ => true
  | .subscriberAdmission _ => true
  | .spillWriteDone _ => true
  | .refillStart _ => true
  | .refillReadDone _ _ => true
  | .subscriberSelect _ => true
  | .shaperRefill _ _ => true
  | .loanOverdue _ _ => true
  | .chainAuditWalkDone _ => true
  | .hostRxFrame => true
  | .rxDescriptorFetchDone _ descs => descs.length ≤ 4096
  | .txFetch _ => true
  | .txDescriptorsReceived _ descs start => descs.length ≤ 16 && start.length ≤ 44
  | .txBufferReadDone _ data => data.length ≤ 65536
  | .dmaCompletionTimeout _ => true
  | .pcieWriteError _ _ => true
  | .ringStopped _ _ => true
  | .generationDrained _ => true
  | .msixGapExpiry _ => true
  | .fenceIslandAck _ _ => true
  | .drainComplete _ => true
  | .pipeSwitch _ => true
  | .islandTimeStep _ => true
  | .stagedFirmwareReady => true
  | .patchReadyTimeout => true
  | .patchPersistDone _ => true
  | .learnRequest => true
  | .teMicroTrap => true
  | .teLongRoutineStart => true
  | .teLongStep => true
  | .ageingSweepStart => true
  | .scrubPassStart => true
  | .overflowCompactionStart => true
  | .shadowCopyDone => true
  | .parityRepair => true
  | .dramRequest _ _ _ => true
  | .dramPanicRaise _ => true
  | .dramPanicClear _ => true
  | .dramRefreshDue _ _ _ => true
  | .dramWriteBatch _ => true
  | .retrainStart _ => true
  | .dramTrainingDone _ _ => true
  | .dramRetryTimer _ => true
  | .lowTrafficEntry => true
  | .selfRefreshEntry _ => true
  | .selfRefreshWake _ => true
  | .captureRegionReserved => true
  | .captureReplayDone => true
  | .dumpReserved => true
  | .dumpComplete => true
  | .cadenceCycle l => l.length ≤ 16
  | .periodicSnapshotTick _ => true
  | .snapshotDone _ => true
  | .probeWindowEnd _ => true
  | .perfSampleTick => true
  | .slewComplete => true
  | .ppsPulse => true
  | .synceResume _ => true
  | .gpioEdge _ _ => true
  | .lineSensorFrame _ words => match words with | some w => w.length == 16 | none => true
  | .lineAlarmInput _ => true
  | .lineChannelEnable _ => true
  | .inrushEnd _ => true
  | .lineRetryExpiry _ => true
  | .lineRetryRestore _ => true
  | .heartbeat => true
  | .heartbeatExpiry => true
  | .handshakeTimeout _ => true
  | .sysclkMonitor _ _ => true
  | .serdesRefclkMonitor _ _ _ => true
  | .thermalSample temps slow _ => temps.length == 24 && slow.length == 64
  | .wearMargin _ => true
  | .voltageLimit _ => true
  | .claimFrameReceived _ _ => true
  | .claimPathTimeout _ => true
  | .holdoffExpiry => true
  | .bellInTimeout => true
  | .tandemLinkDown => true
  | .tandemLinkUp => true
  | .linkDownIneligible => true
  | .journalRecordReceived _ => true
  | .mirrorMessageReceived _ => true
  | .tandemControlMessage _ => true
  | .joinSnapshotReceived _ => true
  | .stokerAppliedReport _ => true
  | .sealTimer _ => true
  | .sealReceived _ _ _ => true
  | .digestBlockReceived _ => true
  | .partnerBlockTimeout _ => true
  | .refereeCodesReceived _ => true
  | .fabricFrameArrival _ frame => frame.bytes.length ≤ 65536
  | .fabricCreditReturn _ _ _ => true
  | .fabricLinkControlWord _ _ => true
  | .fabricLaneLockLoss _ _ => true
  | .fabricSpareTrained _ => true
  | .lockstepMismatch _ => true
  | .bellInEdge => true
  | .perstRelease => true
  | .pcieRefclkReturn => true
  | .fabricLinkDown _ => true
  | .fabricLinkUp _ _ => true
  | .powerApplied => true
  | .powerRemoved => true

end Sys2Proof
end

