-- ==== Sys2Proof/Tests/Slice0.lean ====
section
/-! SUPPORT. Tests: ill-formed commands, one step of each kind on small states, and for every statement concrete states and
operands that meet the hypotheses of each of its clauses together. -/
namespace Sys2Proof.Tests
open Sys2Proof Sys2Proof.Machine Sys2Proof.Claims
set_option Elab.async false

/-! ### Helpers: small states and operands -/

/-- The arguments of an entry from (offset, bytes, value). -/
def argsOf (l : List (Nat × Nat × Nat)) : BitVec 384 :=
  BitVec.ofNat 384 (l.foldl (fun r f => r + f.2.2 % 2 ^ (8 * f.2.1) * 2 ^ (8 * (f.1 - 16))) 0)

/-- An entry without a buffer, and one with a buffer of some length. -/
def ent (l : List (Nat × Nat × Nat)) : Entry :=
  { flags := 0, rsvd3 := 0, seq := 0, gen := 0, timeLimit := 0, rsvd12 := 0, args := argsOf l }
def entBuf (n : Nat) (l : List (Nat × Nat × Nat)) : Entry := { ent ((24, 4, n) :: l) with flags := 1 }

/-- A device that runs: in service, with its host link up and mailbox 0 running. -/
def up : State :=
  { State.reset with
    balls := { powered := true, sysResetN := true, bootSrc := 0, unitId := 0, spiDriven := false }
    boot := { Boot.reset with phase := .ready }
    host := { HostIf.reset with linkUp := true }
    fw := { Firmware.reset with fwReady := true } }

/-- A mailbox that runs with one fetched command. -/
def running (op : Nat) (e : Entry) : Mailbox :=
  { Mailbox.reset with enable := true, state := .running, fetched := [(BitVec.ofNat 16 op, e)] }

/-- A state with a command at the head of mailbox 0. -/
def withCmd (op : Nat) (e : Entry) (s : State) : State := s.setMbox 0 (running op e)

def pt (width rate : Nat) : PortCfg := { PortCfg.none with width := width, rate := rate, maxFrame := 1518, admin := true }
/-- A port that is up. -/
def prt : Port := { Port.reset with cfg := pt 1 1, link := { PortLink.reset with link := .up }, blocked := false }
/-- A bundle without changes. -/
def bun (id ver : Nat) : Bundle :=
  { id := BitVec.ofNat 64 id, version := ver, keySlot := 1, revokeMask := 1, fwMajor := 1, fwMinor := 0, commandLevel := 1,
    stateFormat := 1, stateFormatMin := 1, parse := SeqPatch.empty, action := SeqPatch.empty, table := SeqPatch.empty }
def m0 : Fin 129 := 0
def m1 : Fin 129 := 1
def m128 : Fin 129 := 128
def e0 : Entry := ent []
/-- A port in use. -/
def withPort (k : Nat) (p : Port) : State := up.setPort k p
def pkt (k len : Nat) : Packet :=
  { port := k, bytes := List.replicate (len - 4) 1, length := len, arrived := 64, frameNo := 1, stamp := 0, rxStamp := 0, tsValid := false,
    pass := 0, started := false, ruleBank := false, patchBank := false, graphBank := false, custBank := false, actBank := false,
    patternSet := 0, slice := 128, plan := 0, recircData := 0, priority := 0, ended := none, state := none, learns := [], frames := [],
    decided := false, unsettled := false, digestStamp := none, digestHash := none, l3bad := false, tsReq := false, tsTag := 0,
    limit := 9216, symbolAt := none, received := [], raised := [] }
def withPkt (k : Nat) (x : Packet) (p : Port) : State :=
  { withPort k p with sw := { Switching.reset with packets := [(0, some x)], nextPacket := 1 } }
def txf : TxFrame :=
  { bytes := [1, 2, 3], cellsIn := 1, freed := 0, complete := true, cls := 0, lifeline := false, slice := 128, ce := false, tsReq := false,
    cut := false, stomp := false, mirror := false, ipOffset := 0, ingressTime := 0, entry := 0, hostRing := none, flowTag := 0,
    queue := none, limit := 100, frameId := 0, stamp := 0, stampOk := true }
/-- The gates open, as a standalone unit with its bell has them. -/
def gated (s : State) : State := { s with tandem := { s.tandem with gatesOpen := true } }
/-- A pending FENCE, and one that waits for events of its owner to be written. -/
def pfv (drain : Bool) (acked : List Nat) (stamps : Tab Nat) (done : Option Nat) (v : List Nat) : PendingFence :=
  { drain := drain, acked := acked, left := [], lastAck := none, stamps := stamps, done := done, empty := false, vectors := v, learns := [],
    snaps := [] }
def pf (drain : Bool) (acked : List Nat) (stamps : Tab Nat) (done : Option Nat) : PendingFence := pfv drain acked stamps done []
/-- A vector with a merged message of the manager. -/
def mergedAt (v : Nat) (s : State) : State :=
  { s with host := { s.host with vectors := [(v, { Vector.reset with merged := some none })] } }
/-- The last pipe is still to switch to a staged patch. -/
def activating : State :=
  { up with fw := { Firmware.reset with fwReady := true, staged := some (bun 9 1), activation := some ⟨0, false, true, false⟩ },
            pipes := [(7, { Pipe.reset with switches := [.patch] })] }

/-- A valid descriptor of a one-slot table with a key of 8 bits, owned by no slice. -/
def desc : EmTable := { desc := BitVec.ofNat 256 (2 ^ 255 + 255 * 2 ^ 245 + 2 ^ 180 + 7 * 2 ^ 140) }
def withTables (f : Tables → Tables) (s : State) : State := { s with tables := f { s.tables with descs := [(0, desc)] } }
def eme (key : Nat) : EmEntry :=
  { table := 0, hit := false, static := false, learned := true, gen := 0, key := BitVec.ofNat 384 key, action := 0, port := 0,
    parityOk := true, twin := none, changed := 0 }
def withTe (f : TableEngine → TableEngine) (s : State) : State := withTables (fun t => { t with te := f t.te }) s
def lr : LearnRequest := { table := 0, key := 5, value := 1, port := 3, move := false }
def ruleE : RuleEntry :=
  { banks := 3, profile := 0, priority := 0, gen := 1, value := 0, mask := 0, program := 0, count := false, stat := 0, arg := 0, parityOk := true }
/-- An action bank with one profile of no key bits and one program of no instructions. -/
def acts : ActionBank := { ActionBank.empty with profiles := [(0, BitVec.ofNat 384 (2 ^ 383 + 255 * 2 ^ 375))], programs := [(0, 0x80000000)], plans := [(0, BitVec.ofNat 256 (2 ^ 255))] }
def withActs (s : State) : State := { s with ctl := { Stores2.reset with actA := acts } }
/-- A batch of one rule item from (offset, bytes, value). -/
def ruleBatch (l : List (Nat × Nat × Nat)) : Bytes :=
  leBytes 64 1 ++ leBytes 256 (l.foldl (fun r f => r + f.2.2 * 2 ^ (8 * f.1)) 0)
def nullGraph : Graph := { Graph.empty with starts := List.replicate 128 0x3FF, recircStart := 0x3FF }
def started (x : Packet) : Packet := { x with started := true }
def frm (k : Nat) : Frame :=
  { store := k / 16, bytes := List.replicate 60 1, cells := [0], refs := 1, slice := 128, cls := 0, colour := 0, lifeline := false,
    ce := false, cut := false, stomp := false, tsReq := false, lossless := false, mirror := false, ipOffset := 0, gen := 0, ingressPort := k,
    destQueue := 0, entry := k / 16, ingressTime := 0, dest := .port k, complete := true, granted := 0, corrupt := false, slowReason := 0,
    rxStamp := 0, tsValid := false, flowTag := 0, permitPorts := BitVec.allOnes 128, permitFabric := 15, account := none, pkt := none,
    hostRing := none, targets := [], replicated := false, loan := none, was := none, l3bad := false }
/-- A long routine at its first step. -/
def lrt (id arg : Nat) (t : List Nat) (target : Option Nat) : LongRoutine :=
  { id := id, step := 0, arg := arg, tables := t, mb := none, target := target, dest := 0, bank := false }

/-- A hierarchy under port 3 with one class queue, in its subscriber mode. -/
def tree (leaf : ClassQueue) : List (Nat × Option Node) :=
  [(3, some Node.reset), (nodeKey 1 0, some { Node.reset with parent := 3, owner := 127 }), (nodeKey 2 0, some Node.reset),
   (nodeKey 3 0, some Node.reset), (nodeKey 4 7, some { Node.reset with queue := leaf })]
def subPort : Port := { prt with cfg := { pt 1 1 with subscriber := true } }
def withSw (f : Switching → Switching) (s : State) : State := { s with sw := f s.sw }
def treeUp (leaf : ClassQueue) : State := withSw (fun w => { w with nodes := tree leaf }) (withPort 3 subPort)
def cell1 : Store := { Store.reset with total := 4096, limit := 4096, free := 4096 }
def intake (x : Frame) : Intake := { frame := x, queues := [(3, 7)], loan := 0, src := 0, done := true }
def farF : FarFrame := { frame := frm 0, blocks := [5], refilling := false }
def spl : Loan := { borrower := .spill, owner := 7, cells := [9], since := 0, reported := false }
def posBucket : Bucket := { rate := 100, size := 1000, tokens := 10, rem := 0, last := 0 }

def withFar (f : FarStore → FarStore) (s : State) : State := { s with far := f s.far }
def chan : Channel := { Channel.reset with state := .inService, total := 1000, free := 1000 }
def withChan (k : Nat) (x : Channel) : State := withFar (fun w => { w with channels := [(k, x)] }) up
def slc : Slice := { Slice.reset with state := .active, gen := 4, ranges := [(16, ⟨256, 4⟩)] }
def withSlice (n : Nat) (x : Slice) (s : State) : State := { s with slices := [(n, x)] }
def withRing (g : Nat) (x : RingPair) (s : State) : State := { s with rings := [(g, x)] }
def rxr : RxRing := { RxRing.reset with state := .running, log2 := 6, bufUnits := 4, tail := 2, posted := [⟨4096, 1⟩, ⟨8192, 2⟩] }
def txr : TxRing := { TxRing.reset with state := .running, log2 := 6, tail := 2 }
def ringOf (t : TxRing) (r : RxRing) : RingPair := { RingPair.reset with tx := t, rx := r }
/-- A transmit descriptor of one buffer of 60 bytes, the last of its frame, to a plain port. -/
def dscOf (kind dest : Nat) : TxDesc :=
  { addr := 4096, cookie := 9, length := 60, last := true, tsReq := false, destKind := kind, dest := dest, reserved := false }
def dscW (dest : Nat) : BitVec 256 := BitVec.ofNat 256 (4096 + 9 * 2 ^ 64 + 60 * 2 ^ 128 + 2 ^ 144 + 2 ^ 152 + dest * 2 ^ 160)
def cell0 : Store := { Store.reset with total := 40960, limit := 40960, free := 40960 }
def hostPort : State := { withSw (fun w => { w with stores := [(0, cell0), (8, cell1)] }) (withPort 3 prt) with ctl := { Stores2.reset with matA := [(128, MatrixRow.all)] } }
def lent (x : Store) : Store :=
  { x with loans := [(3, some ⟨.host, 128, [0], 0, false⟩)], fresh := 1, free := x.free - 1, loaned := 1, nextLoan := 4, links := [(0, { Link.free with state := .loaned, owner := 3 })] }

def withCad (f : Cadence → Cadence) (s : State) : State := { s with cad := f s.cad }
def psnap : PeriodicSnap := { mbox := 0, addr := 4096, first := 0, count := 1, clear := true, half := 32, number := 0, running := none, skipped := false }
def prb : Probe :=
  { mbox := 0, timer := 15, target := .portClass 3 7, delayLimit := 1, lossPpm := 1, window := { ProbeWindow.empty with out := 9 }, last := ProbeWindow.empty,
    lastCycle := 0, windows := 0, totalOut := 0, totalLost := 0 }
def b0 : Bytes := []

def withLine (x : LineChannel) (s : State) : State := withCad (fun c => { c with lines := [(31, x)] }) s
def withBlock (b : Nat) (x : Block) (s : State) : State := s.setBlock b x
def withBus (x : ModuleBus) (s : State) : State := withCad (fun c => { c with modules := [(15, x)] }) s
def cause (b c : Nat) (s : State) : State := s.setBlock b { Block.reset with causes := BitVec.ofNat 48 (2 ^ c), codes := BitVec.ofNat 48 (2 ^ c) }

/-- A claim frame of a claim number, a role and the ELIGIBLE bit. -/
def clm (no role elig : Nat) : BitVec 32 :=
  let hi := 0xA50000 + no * 256 + role * 64 + elig * 8
  BitVec.ofNat 32 (hi * 256 + claimCrc 24 hi 0)
def withTan (t : Tandem) (s : State) : State := { s with tandem := t }
def stk : Tandem := { Tandem.reset with role := .stoker, sync := .synced, linkUp := true, epoch := 5 }
def cpt : Tandem := { Tandem.reset with role := .captain, sync := .none, linkUp := true, epoch := 5 }
def heard (f : BitVec 32) (t : Tandem) : Tandem := { t with link := { last := some f, accepted := some f } }
def rec1 : JournalRecord := { epoch := 5, seq := 1, commands := [] }
def mir1 : MirrorMessage := { epoch := 5, serial := 1, kind := .lost, table := 0, key := 0, arg := 0, program := 0, port := 0 }
def snap0 : JoinSnapshot := { epoch := 7, seq := 9, configSeq := 2, serial := 3, strict := true, commands := [], learned := [] }
def blk (n : Nat) : DigestBlock :=
  { epoch := 5, port := 127, number := n, bundleId := 0, digest := 3, settled := 4, rxErrors := 0, stamp := some 1, unaligned := false }
def cst (n : Nat) : DigestState := { DigestState.empty n 1 with digest := 3, settled := 4, stamp := some (some 1), count := 4 }
def fabUp (f : FabricLink → FabricLink) (s : State) : State :=
  { s with peloton := { Peloton.reset with joined := true, links := [(2, f { FabricLink.reset with state := .up, lanesUp := 0xFF, spares := 1 })] } }
def ffr : FabricFrame :=
  { bytes := List.replicate 60 1, port := 127, cls := 7, colour := 0, slice := 128, queue := 0, lifeline := false, ce := false, tsReq := false,
    ipOffset := 0, flowTag := 0, ingressPort := 0, corrupt := false, stomp := false }

/-- A property of the default and of every listed value holds at every index. -/
theorem tget_all {α : Type} (P : α → Prop) (l : Tab α) (d : α) (hd : P d) (hl : ∀ x ∈ l, P x.2) (k : Nat) : P (tget l d k) := by
  induction l with
  | nil => exact hd
  | cons x r ih =>
    unfold tget
    split
    · exact hl x (List.mem_cons_self ..)
    · exact ih (fun y hy => hl y (List.mem_cons_of_mem x hy))

/-- Zero bytes read as zero. -/
theorem leAt_zeros (n i k : Nat) : leAt (List.replicate n 0) i k = 0 := by
  unfold leAt slice
  rw [List.drop_replicate, List.take_replicate]
  generalize min k (n - i) = m
  induction m with
  | zero => rfl
  | succ m ih =>
    show (0 : Byte).toNat + 256 * leNat (List.replicate m 0) = 0
    rw [ih]; rfl
theorem wordsOf_zeros (w m off size n : Nat) : wordsOf w (List.replicate m 0) off size n = [] := by
  unfold wordsOf
  exact List.filterMap_eq_nil_iff.mpr (fun i _ => by simp only [leAt_zeros]; rfl)

/-! ### The states and operands of the witnesses -/
def s1_1 : State := ({ State.reset with pending := [.powerRemoved, .perst] })
def s1_5 : State := (up.setMbox 0 { Mailbox.reset with cmdBase := 0x1000, rspBase := 0x2000, cmdLog2 := 12 })
def s1_6 : State := (up.setMbox 0 { Mailbox.reset with state := .stopping })
def s1_7 : State := (withCmd 0 e0 up)
def s1_8 : State := (withCmd 0 e0 up)
def s1_10 : State := (withCmd 0 e0 up)
def s1_11 : State := (withCmd 0 e0 up)
def s1_12 : State := (withCmd 0 e0 up)
def s1_15 : State := (withCmd 0 e0 up)
def s1_16 : State := (up.setMbox 0 { Mailbox.reset with state := .error })
def s1_17 : State := (up.setMbox 0 { Mailbox.reset with state := .running, rspTail := 2 })
def s1_18 : State := (up.setMbox 0 { running rowNop.op e0 with cmdTail := 1 })
def s1_19 : State := (up.setMbox 0 { running 0 e0 with cmdTail := 1, fetched := [], rspBase := 0x100 })
def x1_20d : Entry := ({ e0 with seq := 1 })
def s1_20 : State := (up.setMbox 0 { running 0 e0 with cmdTail := 1 })
def s1_21 : State := (up.setMbox 0 { running 0 e0 with cmdTail := 1 })
def x1_22d : InExec := ({opcode := 0x102, entry := e0, buf := none, startNs := 0, missed := false, batch := none})
def s1_22 : State := (begun (withCmd rowNop.op e0 up) rowNop m0 e0)
def x1_23d : InExec := ({opcode := 0x102, entry := e0, buf := none, startNs := 0, missed := false, batch := none})
def s1_23 : State := (begun (withCmd rowNop.op e0 up) rowNop m0 e0)
def x1_24d : InExec := ({opcode := 0x102, entry := e0, buf := none, startNs := 0, missed := false, batch := none})
def s1_24 : State := (begun (withCmd rowNop.op e0 up) rowNop m0 e0)
def s1_26 : State := (withCmd rowNop.op e0 up)
def s1_27 : State := (withCmd rowDeviceInfo.op e0 up)
def e1_28 : Entry := (ent [(16,1,5),(17,1,0)])
def s1_28 : State := (withCmd rowClaimQuery.op e1_28 up)
def e1_29 : Entry := (ent [(16,1,1),(17,1,0)])
def s1_29 : State := ({ withCmd rowClaimQuery.op e1_29 up with claims := [(256, some ⟨3, 9⟩)] })
def e1_30 : Entry := (entBuf 64 [(16,8,4096)])
def s1_30 : State := (withCmd rowFwLogRead.op e1_30 up)
def s1_31 : State := (withCmd rowFence.op e0 up)
def s1_32 : State := (up.setFence 0 (some (pf true [] [] none)))
def n16of33 : Fin 33 := 16
def s1_33 : State := ((begun (withCmd rowFence.op e0 up) rowFence m0 e0).setFence 0 (some (pf true (List.range 32) [] none)))
def n32of33 : Fin 33 := 32
def s1_34 : State := ((begun (withCmd rowFence.op e0 up) rowFence m0 e0).setFence 0 (some (pf false (List.range 32) [] none)))
def s1_35 : State := ((begun (withCmd rowFence.op e0 up) rowFence m0 e0).setFence 0 (some (pf true (List.range 33) [(0, 1)] (some 5))))
def s1_36 : State := (mergedAt 9 ((begun (withCmd rowFence.op e0 up) rowFence m0 e0).setFence 0 (some (pfv true (List.range 33) [(0, 1)] (some 5) [9]))))
def s1_37 : State := ({ withPkt 0 { pkt 0 100 with started := true } prt with fences := [(0, some (pf true (List.range 33) [(0, 1)] (some 5)))] })
def s1_38 : State := (withCmd rowRuleBankSwap.op e0 up)
def s1_39 : State := (up.setPipe 7 { Pipe.reset with switches := [.ruleBank] })
def n7of8 : Fin 8 := 7
def s1_40 : State := (withCmd rowRuleBankStatus.op e0 up)
def e1_41 : Entry := (ent [(16,1,1),(17,1,1)])
def s1_41 : State := (withCmd rowGearSet.op e1_41 up)
def e1_42 : Entry := (ent [(16,1,4),(17,1,3)])
def s1_42 : State := (withCmd rowGearSet.op e1_42 up)
def e1_43 : Entry := (ent [(16,1,1),(17,1,4)])
def s1_43 : State := (withCmd rowGearSet.op e1_43 up)
def e1_44 : Entry := (ent [(16,1,2),(17,1,2)])
def s1_44 : State := (withCmd rowGearSet.op e1_44 up)
def s1_45 : State := (withCmd rowGearStatus.op e0 up)
def e1_46 : Entry := (entBuf 64 [(32,1,1)])
def s1_46 : State := (withCmd rowPatchStage.op e1_46 up)
def b1_46 : Bytes := List.replicate 64 0
def s1_47 : State := ({ begun (withCmd rowPatchStage.op e0 up) rowPatchStage m0 e0 with fw := { Firmware.reset with fwReady := true, persist := some (0, 1, [1]) } })
def s1_48 : State := ({ begun (withCmd rowPatchStage.op e0 up) rowPatchStage m0 e0 with fw := { Firmware.reset with fwReady := true, persist := some (0, 1, [1]) } })
def e1_49 : Entry := (ent [(32,8,9)])
def s1_49 : State := ({ withCmd rowPatchActivate.op e1_49 up with fw := { Firmware.reset with fwReady := true, staged := some (bun 9 1) } })
def s1_50 : State := ({ withCmd rowPatchRevert.op e0 up with fw := { Firmware.reset with fwReady := true, previous := some (bun 9 1) } })
def s1_51 : State := ({ begun (withCmd rowPatchRevert.op e0 up) rowPatchRevert m0 e0 with fw := { Firmware.reset with fwReady := true, activation := some ⟨0, true, false, false⟩ } })
def s1_52 : State := ({ begun (withCmd rowPatchRevert.op e0 up) rowPatchRevert m0 e0 with fw := { Firmware.reset with fwReady := true, activation := some ⟨0, true, false, false⟩ } })
def s1_54 : State := (withCmd rowPatchStatus.op e0 up)
def s1_55 : State := (withCmd rowFuseRead.op e0 up)
def e1_56 : Entry := (ent [(32,1,5)])
def s1_56 : State := (withCmd rowRollbackAdvance.op e1_56 up)
def s1_57 : State := ({ withCmd rowRollbackAdvance.op e0 up with fw := { Firmware.reset with fwReady := true, active := some (bun 9 127) } })
def e1_58 : Entry := (ent [(32,1,127)])
def s1_58 : State := ({ withCmd rowRollbackAdvance.op e1_58 up with fw := { Firmware.reset with fwReady := true, active := some (bun 9 127) } })
def e1_59 : Entry := (ent [(32,1,127)])
def s1_59 : State := ({ withCmd rowRollbackAdvance.op e1_59 up with fw := { Firmware.reset with fwReady := true, active := some (bun 9 127) } })
def e1_60 : Entry := (ent [(32,1,127)])
def s1_60 : State := ({ withCmd rowRollbackAdvance.op e1_60 up with fw := { Firmware.reset with fwReady := true, active := some (bun 9 127) } })
def s1_63 : State := ({ State.reset with balls := ⟨false, false, 0, 0, false⟩ })
def x1_71 : FuseMap := ({ part := .bx6240, romRelease := 0, siliconStep := 0, serial := 5, keyHash := [0,0,0,0], provisioned := 0, revoked := 0, rollback := 0, bundleKey := 0, debugLock := false, second := FuseBits.blank })
def s1_71 : State := ({ up with boot := { Boot.reset with phase := .fuseLoad } })
def s1_72 : State := ({ up with boot := { Boot.reset with phase := .romBoot } })
def s1_73 : State := ({ up with boot := { Boot.reset with phase := .romBoot } })
def n0of2 : Fin 2 := 0
def s1_74 : State := ({ up with boot := { Boot.reset with phase := .romBoot } })
def s1_75 : State := ({ up with boot := { Boot.reset with phase := .romBoot } })
def s1_76 : State := ({ up with boot := { Boot.reset with phase := .firmwareInit, memReady := true }, fw := Firmware.reset })
def e1_77 : Entry := (ent [(16,1,127),(17,1,1),(18,1,1),(20,2,1518)])
def s1_77 : State := (withCmd rowPortConfig.op e1_77 (withPort 127 { prt with cfg := { pt 1 1 with rate := 1 } }))
def e1_78 : Entry := (ent [(16,1,120),(17,1,8),(18,1,7),(20,2,12288)])
def s1_78 : State := (withCmd rowPortConfig.op e1_78 up)
def e1_79 : Entry := (ent [(16,1,127)])
def s1_79 : State := (withCmd rowPortConfig.op e1_79 (withPort 127 { prt with cfg := { pt 1 1 with admin := false } }))
def e1_80 : Entry := (ent [(16,1,127),(17,1,1)])
def s1_80 : State := (withCmd rowPortEnable.op e1_80 (withPort 127 prt))
def e1_81 : Entry := (ent [(16,1,127),(17,1,0)])
def s1_81 : State := (withCmd rowPortEnable.op e1_81 (withPort 127 prt))
def e1_82 : Entry := (ent [(16,1,127),(17,1,1)])
def s1_82 : State := (withCmd rowPortModeSet.op e1_82 (withPort 127 { prt with cfg := { pt 1 1 with admin := false } }))
def e1_83 : Entry := (ent [(16,1,0),(17,1,2),(18,1,1),(19,1,1),(20,2,65535),(22,2,1),(24,2,10000),(26,1,0),(28,4,327680),(32,4,1),(36,4,8192)])
def s1_83 : State := (withCmd rowPortPauseSet.op e1_83 (withPort 0 prt))
def e1_84 : Entry := (ent [(16,1,0)])
def s1_84 : State := (withCmd rowPortStatus.op e1_84 (withPort 0 prt))
def e1_85 : Entry := (ent [(16,1,0),(17,1,30)])
def s1_85 : State := (withCmd rowPortStatsRead.op e1_85 (withPort 0 prt))
def s1_86 : State := (withPort 127 prt)
def n127of128 : Fin 128 := 127
def s1_88 : State := (withPort 5 { prt with cfg := { pt 1 4 with linkTrain := true } })
def n5of128 : Fin 128 := 5
def s1_89 : State := (withPort 5 prt)
def s1_90 : State := (withPort 5 prt)
def s1_91 : State := (withPort 5 { prt with link := { PortLink.reset with link := .holdUp } })
def s1_92 : State := (withPort 5 prt)
def s1_93 : State := (withPort 5 { prt with link := { PortLink.reset with link := .holdDown } })
def s1_94 : State := (withPort 5 prt)
def s1_95 : State := (withPort 5 { prt with flushing := true, blocked := true })
def s1_96 : State := (withPort 5 prt)
def s1_97 : State := (withPort 5 prt)
def s1_98 : State := (withPort 127 prt)
def b1_98 : Bytes := List.replicate 64 0
def s1_99 : State := (withPort 127 prt)
def b1_99 : Bytes := List.replicate 64 0
def s1_100 : State := (withPkt 127 { pkt 127 3900 with arrived := 3841 } prt)
def b1_100 : Bytes := List.replicate 64 0
def s1_101 : State := (withPkt 16 (pkt 16 64) { prt with waiting := [0] })
def n16of128 : Fin 128 := 16
def s1_102 : State := (withPkt 16 (pkt 16 321) { prt with receiving := some 0 })
def s1_103 : State := (withPkt 16 (pkt 16 64) { prt with receiving := some 0 })
def s1_104 : State := (gated (withPort 9 { prt with staging := [txf] }))
def n9of128 : Fin 128 := 9
def s1_105 : State := (gated (withPort 9 { prt with sending := some txf }))
def s1_106 : State := (withPort 9 (prt.setPrio 7 { PausePrio.reset with until_ := some 9 }))
def s1_107 : State := (withPort 9 ({ prt with pause := { PortPause.reset with mode := 2, rxMask := 0x80, watchdogMs := 1 } }.setPrio 7 { PausePrio.reset with until_ := some 9 }))
def s1_108 : State := (withPort 9 (prt.setPrio 7 { PausePrio.reset with storm := true }))
def s1_109 : State := (gated (withPort 9 ({ prt with pause := { PortPause.reset with mode := 2, txMask := 0x80, txQuanta := 9 } }.setPrio 7 { PausePrio.reset with txXoff := true })))
def s1_110 : State := (withPort 9 prt)
def e2_1 : Entry := (ent [(32,1,1)])
def s2_1 : State := (withCmd rowParseGraphLoad.op e2_1 up)
def s2_2 : State := (withCmd rowParseGraphLoad.op e0 up)
def x2_3 : Graph := ({ nodes := [0], transitions := [], starts := List.replicate 128 0, recircStart := 0, dispositions := List.replicate 7 0, isDefault := false })
def e2_3 : Entry := (entBuf 384 [])
def s2_3 : State := (withCmd rowParseGraphLoad.op e2_3 up)
def b2_3 : Bytes := leBytes 384 1
def e2_4 : Entry := (entBuf 576 [])
def s2_4 : State := (withCmd rowParseGraphLoad.op e2_4 up)
def b2_4 : Bytes := leBytes 576 0
def e2_5 : Entry := (entBuf 576 [])
def s2_5 : State := ({ withCmd rowParseGraphLoad.op e2_5 up with ctl := { Stores2.reset with graphMb := some 0 } })
def b2_5 : Bytes := leBytes 576 0
def e2_6 : Entry := (entBuf 64 [])
def s2_6 : State := (withCmd rowCustomerStoreLoad.op e2_6 up)
def b2_6 : Bytes := leBytes 64 0
def e2_7 : Entry := (entBuf 64 [])
def s2_7 : State := (withCmd rowCustomerStoreLoad.op e2_7 up)
def b2_7 : Bytes := leBytes 64 (7 * 2 ^ 120)
def e2_8 : Entry := (entBuf 65600 [])
def s2_8 : State := (withCmd rowCustomerStoreLoad.op e2_8 up)
def b2_8 : Bytes := leBytes 64 0
def e2_9 : Entry := (entBuf 64 [])
def s2_9 : State := ({ withCmd rowCustomerStoreLoad.op e2_9 up with ctl := { Stores2.reset with custMb := some 0 } })
def b2_9 : Bytes := leBytes 64 0
def e2_10 : Entry := (entBuf 64 [(32,1,63),(33,1,127)])
def s2_10 : State := (withCmd rowPatternSetLoad.op e2_10 up)
def b2_10 : Bytes := leBytes 64 0
def e2_11 : Entry := (ent [(16,1,127),(17,1,63)])
def s2_11 : State := ({ withCmd rowPatternSetBind.op e2_11 (withPort 127 prt) with ctl := { Stores2.reset with sets := [(63, some ⟨[], 0xFF, 0⟩)] } })
def e2_12 : Entry := (ent [(16,1,127),(17,1,1),(18,2,9)])
def s2_12 : State := (withCmd rowLifelineSet.op e2_12 { up with slices := [(127, { Slice.reset with state := .active })] })
def x2_13e : Packet := (started (pkt 0 14))
def s2_13 : State := ({ (withPkt 0 x2_13e prt).setPipe 0 { Pipe.reset with heads := [0], injected := [6] } with ctl := { Stores2.reset with graphA := Graph.default } })
def n0of8 : Fin 8 := 0
def x2_14e : Packet := (started (pkt 0 14))
def s2_14 : State := ({ (withPkt 0 x2_14e prt).setPipe 0 { Pipe.reset with heads := [0] } with ctl := { Stores2.reset with graphA := Graph.default } })
def x2_15e : Packet := ({ started (pkt 0 64) with patternSet := 1 })
def s2_15 : State := ({ (withPkt 0 x2_15e prt).setPipe 0 { Pipe.reset with heads := [0] } with ctl := { Stores2.reset with graphA := nullGraph, actA := acts } })
def x2_16e : Packet := ({ started (pkt 0 64) with patternSet := 1, state := some ⟨0, [], 0, 512⟩ })
def s2_16 : State := ({ (withPkt 0 x2_16e prt).setPipe 0 { Pipe.reset with matching := [0] } with ctl := { Stores2.reset with actA := acts } })
def x2_17 : Packet := (started (pkt 0 64))
def x2_17f : Frame := ({ frm 0 with dest := .recirc, pkt := some 0 })
def s2_17 : State := ({ withPkt 0 x2_17 prt with sw := { Switching.reset with packets := [(0, some x2_17)], nextPacket := 1, frames := [(7, some x2_17f)], queues := [(qRecirc 0, [7])] } })
def e2_18 : Entry := (ent [(24,16,0x20000A00000),(40,1,5)])
def s2_18 : State := (withTables id (withCmd rowEmInsert.op e2_18 up))
def e2_19 : Entry := (ent [(40,1,5)])
def s2_19 : State := (withTables (fun t => { t with entries := [(1735976, some (eme 5))] }) (withCmd rowEmDelete.op e2_19 up))
def e2_20 : Entry := (ent [(17,1,1),(24,16,0x20000A00000),(40,1,5)])
def s2_20 : State := (withTables (fun t => { t with entries := [(1735976, some (eme 5))] }) (withCmd rowEmUpdate.op e2_20 up))
def e2_21 : Entry := (ent [(40,1,5)])
def s2_21 : State := (withTables (fun t => { t with entries := [(1735976, some (eme 5))] }) (withCmd rowEmLookup.op e2_21 up))
def e2_22 : Entry := (ent [(16,4,0x40FFFF),(24,1,0)])
def s2_22 : State := (withTables (fun t => { t with entries := [(0x40FFFF, some (eme 5))] }) (withCmd rowEmReadIndex.op e2_22 up))
def e2_23 : Entry := (ent [(16,4,0x40FFFF),(24,1,3)])
def s2_23 : State := (withTables (fun t => { t with entries := [(0x40FFFF, some (eme 5))] }) (withCmd rowEmReadIndex.op e2_23 up))
def e2_24 : Entry := (entBuf 192 [])
def s2_24 : State := (withTables id (withCmd rowEmInsert.op e2_24 up))
def b2_24 : Bytes := leBytes 64 1 ++ leBytes 128 (0x20000A00000 * 256 ^ 8 + 5 * 256 ^ 24)
def e2_25 : Entry := (entBuf 192 [])
def s2_25 : State := (withTables (fun t => { t with entries := [(1735976, some (eme 5))] }) (withCmd rowEmDelete.op e2_25 up))
def b2_25 : Bytes := leBytes 64 1 ++ leBytes 128 (5 * 256 ^ 24)
def e2_26 : Entry := (ent [(16,1,1),(24,4,65535),(32,8,0x80FFFFFFFFFFFFFF)])
def s2_26 : State := (withCmd rowLpmAdd.op e2_26 up)
def e2_27 : Entry := (ent [(18,2,4095),(20,1,4),(21,1,32),(24,4,3),(32,4,0xFFFFFFFF)])
def s2_27 : State := (withCmd rowLpmAdd.op e2_27 up)
def e2_28 : Entry := (ent [(18,2,4095),(20,1,4),(21,1,32),(24,4,3),(32,4,0xFFFFFFFF)])
def s2_28 : State := (withTe (fun t => { t with routeTail := 2097152 }) (withCmd rowLpmAdd.op e2_28 up))
def e2_29 : Entry := (ent [(16,1,1),(24,4,65535)])
def s2_29 : State := (withCmd rowLpmDelete.op e2_29 up)
def e2_30 : Entry := (ent [(18,2,4095),(20,1,6),(21,1,0)])
def s2_30 : State := (withTables (fun t => { t with routes := [⟨4095, true, 0, 0, 9, true⟩] }) (withCmd rowLpmDelete.op e2_30 up))
def e2_31 : Entry := (entBuf 128 [])
def s2_31 : State := (withCmd rowLpmAdd.op e2_31 up)
def b2_31 : Bytes := leBytes 64 1 ++ leBytes 64 (1 + 65535 * 256 ^ 8)
def e2_32 : Entry := (entBuf 128 [])
def s2_32 : State := (withCmd rowLpmDelete.op e2_32 up)
def b2_32 : Bytes := leBytes 64 1 ++ leBytes 64 (1 + 65535 * 256 ^ 8)
def e2_33 : Entry := (ent [(17,1,1),(19,1,21),(20,2,1515),(22,2,2047),(40,1,16)])
def s2_33 : State := (withTables id (withCmd rowLearnConfig.op e2_33 up))
def e2_34 : Entry := (ent [(18,2,9)])
def s2_34 : State := (withTables id (withCmd rowAgeingConfig.op e2_34 up))
def e2_35 : Entry := (ent [(16,1,1),(18,2,3600),(24,8,2097152)])
def s2_35 : State := (withTables id (withCmd rowAgeingConfig.op e2_35 up))
def s2_36 : State := (withTe (fun t => { t with parityLog := [⟨1, 2, 3, 4⟩] }) (withCmd rowParityLogRead.op e0 up))
def s2_37 : State := ({ withTe (fun t => { t with learnQ := [lr] }) up with tandem := { Tandem.reset with role := .stoker } })
def s2_38 : State := (withTe (fun t => { t with learnQ := [lr] }) up)
def x2_39 : EmEntry := ({ eme 5 with static := true })
def s2_39 : State := (withTables (fun t => { t with te := { t.te with learnQ := [lr] }, entries := [(1735976, some x2_39)] }) up)
def s2_40 : State := (withTe (fun t => { t with stats := [⟨1048575, 64, none, 128⟩] }) up)
def s2_41 : State := (withTe (fun t => { t with stats := [⟨1048575, 64, some 1, 128⟩] }) up)
def s2_42 : State := ({ withTe (fun t => { t with stats := [⟨1048575, 64, none, 128⟩] }) up with bad := [⟨.pair 1048575, 3, 0, false⟩] })
def s2_45 : State := (withTe (fun t => { t with queued := [lrt 3 0 [] none] }) up)
def s2_46 : State := (withTe (fun t => { t with queued := [lrt 16 7 [] none] }) up)
def s2_47 : State := (withTables (fun t => { t with learn := [(0, { LearnCfg.reset with joined := true })], te := { t.te with queued := [lrt 1 0 [] none] } }) up)
def s2_48 : State := (withTe (fun t => { t with running := some (lrt 3 0 [] none) }) up)
def s2_49 : State := (withTe (fun t => { t with running := some (lrt 3 0 [] none) }) up)
def s2_50 : State := (withTe (fun t => { t with running := some (lrt 3 0 [] none), learnQ := [lr] }) up)
def s2_51 : State := (withTe (fun t => { t with running := some (lrt 3 0 [] (some 1735976)), learnQ := [lr] }) up)
def s2_53 : State := (withTables (fun t => { t with entries := [(0, some (eme 5)), (0x400000, some (eme 5))], te := { t.te with running := some (lrt 3 0 [] (some 0x400000)) } }) up)
def x2_54d : EmEntry := ({ eme 5 with hit := true })
def s2_54 : State := (withTables (fun t => { t with entries := [(0, some x2_54d)], te := { t.te with running := some (lrt 1 0 [0] none) } }) up)
def s2_55 : State := (withTables (fun t => { t with entries := [(0, some (eme 5))], te := { t.te with running := some (lrt 1 0 [0] none) } }) up)
def s2_57 : State := ({ withTables (fun t => { t with learn := [(0, { LearnCfg.reset with interval := 1 })] }) up with cad := { Cadence.reset with freeNs := 1000000000 } })
def s2_58 : State := ({ withTables (fun t => { t with entries := [(0x400000, some (eme 5))] }) up with cad := { Cadence.reset with freeNs := 100000000 } })
def s2_59 : State := (withTe (fun t => { t with shadowBase := 2097152 }) up)
def s2_61 : State := (withTables (fun t => { t with entries := [(0x400000, some (eme 5))], te := { t.te with repairs := [(0x400000, 1, false)] } }) up)
def e2_62 : Entry := (entBuf 320 [])
def s2_62 : State := (withActs (withCmd rowRuleInsert.op e2_62 up))
def b2_62 : Bytes := ruleBatch [(1,1,1),(2,1,128),(3,1,3),(30,2,12287),(32,8,0x100)]
def e2_63 : Entry := (entBuf 320 [])
def s2_63 : State := ((withActs (withCmd rowRuleDelete.op e2_63 up)).setPipe 7 { Pipe.reset with rules := [(12287, some ruleE)] })
def b2_63 : Bytes := ruleBatch [(0,1,1),(2,1,128),(3,1,3),(30,2,12287)]
def e2_64 : Entry := (ent [(16,4,126975),(24,1,10)])
def s2_64 : State := ((withActs (withCmd rowRuleRead.op e2_64 up)).setPipe 7 { Pipe.reset with rules := [(12287, some ruleE)] })
def e2_65 : Entry := (entBuf 98368 [(32,1,2)])
def s2_65 : State := (withCmd rowActionProgramLoad.op e2_65 up)
def b2_65 : Bytes := List.replicate 98368 0
def e2_66 : Entry := (entBuf 8256 [])
def s2_66 : State := (withCmd rowIsolationMatrixSet.op e2_66 up)
def b2_66 : Bytes := List.replicate 8256 0
def e2_67 : Entry := (ent [(16,1,128),(17,1,1),(18,1,8),(20,4,4096)])
def s2_67 : State := (withCmd rowRecircConfig.op e2_67 up)
def e2_68 : Entry := (ent [(16,4,126975),(24,1,10)])
def s2_68 : State := ({ (withActs (withCmd rowRuleRead.op e2_68 up)).setPipe 7 { Pipe.reset with rules := [(12287, some ruleE)] } with tables := { Tables.reset with te := { TableEngine.reset with ruleWork := some ⟨0, [.drop 7 12287 3]⟩ } } })
def e2_69 : Entry := (entBuf 320 [])
def s2_69 : State := (withActs (withCmd rowRuleInsert.op e2_69 up))
def b2_69 : Bytes := ruleBatch [(1,1,1),(2,1,128),(3,1,3),(30,2,12287),(32,8,0x100)]
def e2_70 : Entry := (entBuf 320 [])
def s2_70 : State := ((withActs (withCmd rowRuleDelete.op e2_70 up)).setPipe 7 { Pipe.reset with rules := [(12287, some ruleE)] })
def b2_70 : Bytes := ruleBatch [(0,1,1),(2,1,128),(3,1,3),(30,2,12287)]
def e3_1 : Entry := (ent [(17,1,7),(18,1,127),(24,4,40960),(28,1,10),(29,1,63),(30,1,7)])
def s3_1 : State := (withCmd rowQueueThresholdSet.op e3_1 up)
def e3_2 : Entry := (ent [(16,1,2),(17,1,7),(24,4,40960),(28,1,10),(29,1,255),(30,1,7)])
def s3_2 : State := (withCmd rowQueueThresholdSet.op e3_2 up)
def e3_3 : Entry := (ent [(16,1,1),(20,4,7),(24,4,40961),(29,1,255)])
def s3_3 : State := (withCmd rowQueueThresholdSet.op e3_3 (treeUp ClassQueue.reset))
def e3_4 : Entry := (ent [(16,1,63),(17,1,1),(20,4,5),(24,4,6),(28,1,255)])
def s3_4 : State := (withCmd rowEcnConfig.op e3_4 up)
def e3_5 : Entry := (ent [(17,1,1),(18,2,16383),(20,1,127),(22,1,7)])
def s3_5 : State := (withCmd rowMcastGroupSet.op e3_5 up)
def e3_6 : Entry := (ent [(16,1,1),(17,1,1),(18,2,16383),(20,1,127),(22,1,7)])
def s3_6 : State := (withSw (fun w => { w with groups := [(16383, [⟨1, 127, 0, 7, 0⟩])] }) (withCmd rowMcastGroupSet.op e3_6 up))
def e3_7 : Entry := (ent [(16,1,2),(18,2,16383)])
def s3_7 : State := (withSw (fun w => { w with groups := [(16383, [⟨1, 127, 0, 7, 0⟩])] }) (withCmd rowMcastGroupSet.op e3_7 up))
def e3_8 : Entry := (ent [(20,1,1),(24,4,65535),(28,4,16)])
def s3_8 : State := (withCmd rowSpillConfig.op e3_8 up)
def e3_9 : Entry := (ent [(16,4,7),(24,4,17),(28,4,16)])
def s3_9 : State := (withCmd rowSpillConfig.op e3_9 (treeUp ClassQueue.reset))
def e3_10 : Entry := (ent [(32,1,9)])
def s3_10 : State := (withCmd rowStoreStatus.op e3_10 up)
def e3_11 : Entry := (ent [(32,2,513),(34,1,1)])
def s3_11 : State := (withCmd rowChainAuditRun.op e3_11 up)
def s3_12 : State := (withSw (fun w => { w with audit := some ⟨0, [0, 9], [0, 9], true, []⟩ }) (begun (withCmd rowChainAuditRun.op e0 up) rowChainAuditRun m0 e0))
def n9of10 : Fin 10 := 9
def s3_13 : State := (withSw (fun w => { w with audit := some ⟨0, [0, 9], [9], false, []⟩ }) (begun (withCmd rowChainAuditRun.op e0 up) rowChainAuditRun m0 e0))
def s3_14 : State := (up.setStore 8 { Store.reset with loans := [(3, some spl)] })
def n8of10 : Fin 10 := 8
def x3_15f : Frame := ({ frm 127 with store := 0, cells := [1, 2], bytes := List.replicate 300 1 })
def s3_15 : State := (withSw (fun w => { w with frames := [(4, some x3_15f)], queues := [(1023, [4])] }) (withPort 127 { prt with chosen := some (1023, 4) }))
def x3_16f : Frame := ({ frm 127 with store := 0, cls := 7 })
def s3_16 : State := (withSw (fun w => { w with frames := [(4, some { frm 127 with store := 0 , cls := 7 })], queues := [(1023, [4])] }) (withPort 127 { prt with chosen := some (1023, 4) }))
def s3_17 : State := (withPort 0 { prt with sending := some txf })
def n0of128 : Fin 128 := 0
def s3_18 : State := ({ up with peloton := { Peloton.reset with links := [(2, { FabricLink.reset with used := [(7, 3)] })] } })
def n2of3 : Fin 3 := 2
def x3_19g : Frame := ({ frm 0 with dest := .group 5 })
def s3_19 : State := (withSw (fun w => { w with frames := [(4, some x3_19g)], queues := [(qMcast 0 0, [4])] }) up)
def x3_20g : Frame := ({ frm 0 with dest := .group 5 })
def s3_20 : State := (withSw (fun w => { w with frames := [(4, some x3_20g)], queues := [(qMcast 0 0, [4])], groups := [(5, [⟨1, 9, 0, 7, 0⟩])] }) (withPort 9 { prt with staging := List.replicate 16 txf }))
def x3_21c : Intake := (intake { frm 0 with slice := 127 })
def s3_21 : State := (withSw (fun w => { w with stores := [(8, cell1)], intakes := [(0, [x3_21c])] }) { treeUp ClassQueue.reset with slices := [(127, { Slice.reset with state := .active, counts := [(32, 5)] })] })
def x3_22c : Intake := (intake { frm 0 with corrupt := true })
def s3_22 : State := (withSw (fun w => { w with stores := [(8, cell1)], intakes := [(0, [x3_22c])] }) (treeUp ClassQueue.reset))
def s3_23 : State := ({ up with far := { FarStore.reset with channels := [(23, { Channel.reset with writing := [⟨1, 7, 0, none⟩] })] } })
def n23of24 : Fin 24 := 23
def s3_24 : State := ({ up with far := { FarStore.reset with channels := [(23, { Channel.reset with writing := [⟨1, 7, 0, some (7, 3)⟩] })] } })
def x3_25 : Store := ({ cell1 with fresh := 1, free := 4095, loaned := 1, links := [(0, { Link.free with state := .loaned })] })
def x3_25c : ClassQueue := ({ ClassQueue.reset with far := [farF], blocks := [5] })
def s3_25 : State := (withSw (fun w => { w with stores := [(8, cell1)] }) (treeUp x3_25c))
def n7of1048576 : Fin 1048576 := 7
def x3_26f : FarFrame := ({ farF with refilling := true })
def x3_26c : ClassQueue := ({ ClassQueue.reset with far := [x3_26f], blocks := [5], refilling := some 3 })
def s3_26 : State := (withSw (fun w => { w with stores := [(8, { cell1 with loans := [(3, some spl)], nextLoan := 4, loaned := 1 })] }) (treeUp x3_26c))
def x3_27f : FarFrame := ({ farF with refilling := true })
def x3_27c : ClassQueue := ({ ClassQueue.reset with far := [x3_27f], blocks := [5], refilling := some 3 })
def s3_27 : State := (withSw (fun w => { w with stores := [(8, { cell1 with loans := [(3, some spl)], nextLoan := 4, loaned := 1 })] }) (treeUp x3_27c))
def e3_28 : Entry := (ent [(17,1,4),(20,4,6),(29,1,3),(30,2,65535)])
def s3_28 : State := (withCmd rowNodeConfig.op e3_28 { treeUp ClassQueue.reset with slices := [(127, { Slice.reset with state := .active, counts := [(144, 5)] })] })
def e3_29 : Entry := (ent [(16,1,1),(17,1,2),(20,4,0),(24,4,0)])
def s3_29 : State := (withCmd rowNodeConfig.op e3_29 (treeUp ClassQueue.reset))
def e3_30 : Entry := (ent [(16,1,2),(17,1,4),(20,4,7)])
def s3_30 : State := (withCmd rowNodeConfig.op e3_30 (treeUp ClassQueue.reset))
def e3_31 : Entry := (ent [(16,1,3),(17,1,4),(20,4,7)])
def s3_31 : State := (withCmd rowNodeConfig.op e3_31 (treeUp ClassQueue.reset))
def e3_32 : Entry := (ent [(16,1,4),(17,1,4),(20,4,7)])
def s3_32 : State := (withCmd rowNodeConfig.op e3_32 (treeUp ClassQueue.reset))
def e3_33 : Entry := (ent [(16,4,0x80000007),(20,1,1),(24,4,800000000),(28,4,1),(32,4,800000000),(36,4,16777216)])
def s3_33 : State := (withCmd rowShaperSet.op e3_33 (treeUp ClassQueue.reset))
def e3_34 : Entry := (ent [(16,4,0x80000007),(20,1,3),(22,2,65535)])
def s3_34 : State := (withCmd rowWfqWeightSet.op e3_34 (treeUp ClassQueue.reset))
def e3_35 : Entry := (ent [(16,4,262143),(20,1,2),(21,1,7),(24,4,800000000),(28,4,16777216),(32,4,800000000),(36,4,1)])
def s3_35 : State := (withCmd rowPolicerSet.op e3_35 up)
def e3_36 : Entry := (ent [(16,1,127),(17,1,7),(20,2,65535),(24,4,800000000),(28,4,1)])
def s3_36 : State := (withCmd rowClassSchedSet.op e3_36 (withPort 127 prt))
def e3_37 : Entry := (ent [(16,1,127),(17,1,7),(18,1,1)])
def s3_37 : State := (withCmd rowClassSchedSet.op e3_37 (withPort 127 prt))
def e3_38 : Entry := (ent [(16,4,0xE003FFFF),(20,1,2)])
def s3_38 : State := (withCmd rowSchedRead.op e3_38 up)
def e3_39 : Entry := (ent [(16,4,0x80000007),(20,1,3)])
def s3_39 : State := (withCmd rowSchedRead.op e3_39 (treeUp ClassQueue.reset))
def e3_40 : Entry := (ent [(16,4,0x80000007),(20,1,2)])
def s3_40 : State := (withCmd rowSchedRead.op e3_40 (treeUp ClassQueue.reset))
def e3_41 : Entry := (ent [(16,4,0x80000007),(20,1,1)])
def s3_41 : State := (withCmd rowSchedRead.op e3_41 (treeUp ClassQueue.reset))
def e3_42 : Entry := (ent [(16,4,0x80000007),(20,1,0)])
def s3_42 : State := (withCmd rowSchedRead.op e3_42 (treeUp ClassQueue.reset))
def s3_43 : State := (withSw (fun w => { w with frames := [(4, some { frm 127 with store := 0, cls := 7 })], queues := [(1023, [4])] }) (withPort 127 prt))
def s3_44 : State := (withPort 127 prt)
def x3_46 : Frame := ({ frm 0 with store := 8 })
def x3_46f : ClassQueue := ({ ClassQueue.reset with near := [4] })
def x3_46c : Node := ({ Node.reset with pir := posBucket })
def s3_46 : State := (withSw (fun w => { w with frames := [(4, some x3_46)] }) (withSw (fun w => { w with nodes := (tree x3_46f).map (fun p => (p.1, p.2.map (fun n => { n with pir := posBucket }))) }) (withPort 3 subPort)))
def n3of128 : Fin 128 := 3
def s3_47 : State := (treeUp ClassQueue.reset)
def n4of5 : Fin 5 := 4
def e4_1 : Entry := (ent [(19,1,5),(20,2,2000),(22,2,4000),(24,2,3600),(26,1,2),(27,1,50),(28,1,100)])
def s4_1 : State := (withCmd rowDramTrain.op e4_1 up)
def e4_2 : Entry := (ent [(18,1,128),(22,2,500),(26,1,1),(27,1,1),(28,1,2)])
def s4_2 : State := (withCmd rowDramTrain.op e4_2 (withChan 23 chan))
def e4_3 : Entry := (ent [(16,1,23)])
def s4_3 : State := (withCmd rowDramRetry.op e4_3 (withChan 23 { chan with state := .fenced, cause := 3 }))
def e4_4 : Entry := (ent [(16,1,23)])
def s4_4 : State := (withCmd rowDramRetry.op e4_4 (withChan 23 chan))
def s4_5 : State := (withCmd rowDramStatus.op e0 (withChan 23 { chan with state := .fenced, cause := 3 }))
def e4_6 : Entry := (ent [(17,1,7),(18,1,15),(19,1,1),(20,2,16)])
def s4_6 : State := ({ withCmd rowDramCaptureSet.op e4_6 (withChan 23 { chan with total := 8192, free := 8192 }) with ctl := { Stores2.reset with actA := { ActionBank.empty with sessions := [(15, 0x100000000)] } } })
def e4_7 : Entry := (ent [(16,1,1),(17,1,7)])
def s4_7 : State := (withCmd rowDramCaptureSet.op e4_7 { withFar (fun w => { w with use := .capture 7 0 false, capture := .capturing }) up with claims := [(1280, some ⟨0xA04, 7⟩)] })
def e4_8 : Entry := (ent [(16,1,2),(17,1,7),(24,4,9)])
def s4_8 : State := (withCmd rowDramCaptureSet.op e4_8 { withFar (fun w => { w with use := .capture 7 0 false, capture := .capturing }) up with claims := [(1280, some ⟨0xA04, 7⟩)] })
def s4_9 : State := (withChan 23 { chan with rt := [⟨1, 7, 0, none⟩] })
def s4_10 : State := (withChan 23 { chan with wr := [⟨1, 7, 0, none⟩], batch := 1 })
def s4_11 : State := (withFar (fun w => { w with capture := .capturing, captured := [farF] }) (withChan 23 chan))
def s4_12 : State := (withChan 23 { chan with owed := [(15, 8)] })
def s4_13 : State := (withChan 23 { chan with rt := [⟨1, 7, 0, none⟩] })
def s4_14 : State := (withChan 23 { chan with panic := true })
def s4_15 : State := (withChan 23 { chan with panic := true, owed := [(15, 7)] })
def n15of16 : Fin 16 := 15
def s4_16 : State := (withChan 23 { chan with panic := true, owed := [(15, 8)] })
def s4_17 : State := (withChan 23 { chan with trainedMr4 := some 1 })
def s4_18 : State := (withChan 23 { chan with wr := [⟨1, 7, 0, none⟩], batch := 1 })
def s4_19 : State := (withChan 23 { chan with state := .selfRefresh })
def s4_20 : State := (withChan 23 { chan with state := .retraining, training := some false, attempts := 2 })
def s4_21 : State := (withChan 23 { chan with state := .retraining, training := some false, attempts := 2 })
def s4_22 : State := (withChan 23 { chan with state := .fenced, cause := 3 })
def s4_23 : State := (withFar (fun w => { w with lowEn := true, blocks := [(0, none)] }) (withChan 23 chan))
def s4_24 : State := (withFar (fun w => { w with lowTraffic := true }) (withChan 23 chan))
def s4_25 : State := (withChan 23 { chan with state := .selfRefresh })
def s4_26 : State := (withFar (fun w => { w with capture := .reserving, region := [(23, 1)], channels := [(23, { chan with withheld := [9] })] }) up)
def s4_27 : State := (withFar (fun w => { w with capture := .replaying }) up)
def s4_28 : State := ({ withFar (fun w => { w with use := .dump }) up with bell := { Bell.reset with dumpOn := true } })
def s4_29 : State := ({ up with bell := { Bell.reset with dumpOn := true, dumpState := .writing } })
def s4_30 : State := ({ up with bell := { Bell.reset with dumpOn := true, dumpState := .done } })
def e4_31 : Entry := (ent [(16,1,127),(17,1,1),(20,4,0xFFFFF)])
def s4_31 : State := (withCmd rowSliceCreate.op e4_31 (withSlice 127 { Slice.reset with gen := 0xFFFF } up))
def e4_32 : Entry := (ent [(16,1,127)])
def s4_32 : State := ({ withCmd rowSliceCreate.op e4_32 up with ctl := { Stores2.reset with matA := [(127, MatrixRow.all)] } })
def e4_33 : Entry := (ent [(16,1,127),(17,1,16),(20,4,4095),(24,4,1)])
def s4_33 : State := (withCmd rowSliceResize.op e4_33 (withSlice 127 { slc with ranges := [] } up))
def e4_34 : Entry := (ent [(16,1,127)])
def s4_34 : State := (withCmd rowSliceDestroy.op e4_34 (withSlice 127 slc up))
def e4_35 : Entry := (ent [(16,1,127)])
def s4_35 : State := (withCmd rowSliceReset.op e4_35 (withSlice 127 slc up))
def s4_36 : State := (withSlice 127 { slc with state := .resetting, waiting := some (0, 0) } up)
def s4_37 : State := (withSlice 127 { slc with state := .closing, waiting := some (0, 0) } up)
def e4_38 : Entry := (ent [(16,1,127)])
def s4_38 : State := (withCmd rowSliceStatus.op e4_38 (withSlice 127 slc up))
def e4_39 : Entry := (ent [(16,1,128),(17,1,4),(18,2,255)])
def s4_39 : State := (withCmd rowSliceStatus.op e4_39 up)
def e4_40 : Entry := (ent [(16,2,255),(19,1,3),(20,1,0xE6),(22,2,256),(24,8,4096),(32,8,4096),(40,4,800000000),(44,4,16777216),(48,4,1),(52,4,1)])
def s4_40 : State := (withCmd rowRingPairSet.op e4_40 up)
def e4_41 : Entry := (ent [(16,2,255),(18,1,1),(19,1,1)])
def s4_41 : State := (withCmd rowRingPairSet.op e4_41 up)
def e4_42 : Entry := (ent [(16,2,255),(18,1,1),(19,1,1)])
def s4_42 : State := (withCmd rowRingPairSet.op e4_42 (withRing 255 (ringOf txr RxRing.reset) up))
def e4_43 : Entry := (ent [(16,2,255),(18,1,1),(19,1,2)])
def s4_43 : State := (withCmd rowRingPairSet.op e4_43 (withSw (fun w => { w with frames := [(4, some { frm 0 with dest := .host })] }) (withRing 255 (ringOf txr { rxr with writing := some ⟨4, 0, ⟨4096, 1⟩, 0, false⟩ }) up)))
def e4_44 : Entry := (ent [(16,1,3),(18,2,255),(20,2,2047),(22,2,1000)])
def s4_44 : State := (withCmd rowVectorMapSet.op e4_44 up)
def e4_45 : Entry := (ent [(16,1,8),(18,2,52),(20,2,0xFFFF)])
def s4_45 : State := (withCmd rowVectorMapSet.op e4_45 { up with host := { up.host with maps := [⟨0, 8, 52, 9, 0⟩] } })
def s4_46 : State := (withRing 255 (ringOf txr rxr) up)
def n255of4096 : Fin 4096 := 255
def s4_47 : State := (withRing 255 (ringOf txr rxr) up)
def n4095of4096 : Fin 4096 := 4095
def s4_49 : State := (withRing 255 (ringOf txr rxr) up)
def s4_50 : State := (withRing 255 (ringOf txr rxr) up)
def s4_52 : State := (withRing 255 (ringOf txr { rxr with state := .stopping }) up)
def s4_53 : State := (withRing 255 (ringOf { txr with state := .stopping } rxr) up)
def n2047of2048 : Fin 2048 := 2047
def s4_55 : State := ({ up with host := { up.host with vectors := [(2047, { Vector.reset with merged := some none })] } })
def s4_56 : State := (withSlice 127 slc { up with host := { up.host with vectors := [(2047, { Vector.reset with merged := some (some (127, 4)) })] } })
def s4_57 : State := (withSlice 127 slc { up with host := { up.host with vectors := [(2047, { Vector.reset with merged := some (some (127, 3)) })] } })
def x4_58e : Frame := ({ frm 0 with dest := .host, slice := 127, destQueue := 3, bytes := List.replicate 300 1, cells := [0, 1] })
def s4_58 : State := (withSw (fun w => { w with hostQueue := [4], frames := [(4, some x4_58e)] }) (withSlice 127 slc (withRing 259 (ringOf txr { rxr with bucket := posBucket }) up)))
def x4_59e : Frame := ({ frm 0 with dest := .host, slice := 127, destQueue := 3, bytes := List.replicate 300 1, cells := [0, 1] })
def s4_59 : State := (withSw (fun w => { w with hostQueue := [4], frames := [(4, some x4_59e)] }) (withSlice 127 slc (withRing 259 (ringOf txr { rxr with bucket := posBucket, head := 2, posted := [] }) up)))
def x4_60e : Frame := ({ frm 0 with dest := .host, slice := 127, destQueue := 3, bytes := List.replicate 300 1, cells := [0, 1] })
def s4_60 : State := (withSw (fun w => { w with hostQueue := [4], frames := [(4, some x4_60e)] }) (withSlice 127 slc (withRing 259 (ringOf txr { rxr with bucket := { posBucket with tokens := 0 } }) up)))
def x4_61 : Frame := ({ frm 0 with dest := .host, slice := 127, destQueue := 4 })
def s4_61 : State := (withSw (fun w => { w with hostQueue := [4], frames := [(4, some x4_61)] }) (withSlice 127 slc up))
def s4_62 : State := (withSlice 127 slc (withRing 259 (ringOf txr { rxr with fetching := some (1, 4) }) up))
def n259of4096 : Fin 4096 := 259
def s4_63 : State := (withSlice 127 slc (withRing 259 (ringOf txr { rxr with fetching := some (1, 3) }) up))
def s4_64 : State := (withSlice 127 slc (withRing 259 (ringOf { txr with bucket := posBucket } rxr) up))
def s4_65 : State := (withSlice 127 slc (withRing 259 (ringOf { txr with bucket := posBucket } rxr) up))
def n258of4096 : Fin 4096 := 258
def s4_66 : State := (withRing 255 (ringOf { txr with work := .fetching 0 } rxr) hostPort)
def s4_67 : State := (withRing 255 (ringOf { txr with work := .fetching 0 } rxr) hostPort)
def s4_68 : State := (withRing 255 (ringOf { txr with work := .reading 0 [dscOf 1 3] 0 3 } rxr) (hostPort.setStore 0 (lent cell0)))
def b4_68 : Bytes := List.replicate 60 7
def s4_69 : State := (withSlice 127 slc (withRing 259 (ringOf txr { rxr with fetching := some (1, 4) }) up))
def s4_70 : State := (withSlice 127 slc (withRing 259 (ringOf { txr with work := .fetching 4 } rxr) up))
def s4_71 : State := (withRing 255 (ringOf { txr with work := .reading 0 [dscOf 1 3] 0 3 } rxr) (hostPort.setStore 0 (lent cell0)))
def s4_73 : State := (withRing 255 (ringOf txr { rxr with writing := some ⟨4, 0, ⟨4096, 1⟩, 0, false⟩ }) up)
def x4_74d : InExec := ({opcode := 0x301, entry := (entBuf 64 [(32,1,1)]), buf := none, startNs := 0, missed := false, batch := none})
def s4_74 : State := (begun (withCmd rowPatchStage.op (entBuf 64 [(32,1,1)]) up) rowPatchStage m0 (entBuf 64 [(32,1,1)]) none)
def e5_1 : Entry := (ent [(16,6,0xFFFFFFFFFFFF),(24,4,999999999)])
def s5_1 : State := (withCmd rowTimeSet.op e5_1 up)
def e5_2 : Entry := (ent [(16,1,1),(20,4,32768000)])
def s5_2 : State := (withCmd rowTimeAdjust.op e5_2 up)
def e5_3 : Entry := (ent [(16,1,3),(18,2,1000),(20,4,5),(24,8,100000000)])
def s5_3 : State := (withCmd rowTimeAdjust.op e5_3 up)
def e5_4 : Entry := (ent [(16,1,6),(24,8,0x7FFFFFFFFFFFFFFF)])
def s5_4 : State := (withCmd rowTimeAdjust.op e5_4 up)
def s5_5 : State := (withCad (fun c => { c with stepPending := [31, 32] }) up)
def s5_6 : State := (withCad (fun c => { c with stepPending := [32] }) up)
def s5_7 : State := (withCad (fun c => { c with slew := some ⟨true, 1, 5⟩ }) up)
def e5_10 : Entry := (ent [(16,1,1),(20,4,500000),(24,4,499999999)])
def s5_10 : State := (withCmd rowPpsOutSet.op e5_10 up)
def s5_11 : State := (withCmd rowPpsOutSet.op e0 up)
def s5_12 : State := (withCad (fun c => { c with pps := { c.pps with enable := true, widthUs := 500000 } }) up)
def e5_13 : Entry := (ent [(16,1,1),(17,1,1),(18,1,120),(19,1,7)])
def s5_13 : State := (withCmd rowSynceOutSet.op e5_13 (withPort 120 { prt with cfg := pt 8 7 }))
def e5_14 : Entry := (ent [(16,1,1)])
def s5_14 : State := (withCmd rowSynceOutSet.op e5_14 up)
def s5_15 : State := ({ withCad (fun c => { c with synce := [(1, ⟨true, 3, 0, true⟩)] }) (withPort 3 prt) with lanes := [(3, { Lane.reset with cdr := true })] })
def n1of2 : Fin 2 := 1
def e5_16 : Entry := (ent [(16,1,31),(17,1,3),(18,1,1),(19,1,3)])
def s5_16 : State := (withCmd rowGpioSet.op e5_16 up)
def e5_17 : Entry := (ent [(16,1,31)])
def s5_17 : State := (withCmd rowGpioSet.op e5_17 up)
def s5_18 : State := (withCad (fun c => { c with gpios := [(31, { Gpio.reset with function := 3, edges := 1 })] }) up)
def n31of32 : Fin 32 := 31
def e5_20 : Entry := (entBuf 64 [(32,4,1048575),(36,4,1),(41,1,1)])
def s5_20 : State := (withCmd rowCounterSnapshot.op e5_20 up)
def e5_21 : Entry := (entBuf 64 [(16,8,4096),(36,4,1),(40,1,1),(42,1,15),(44,2,2)])
def s5_21 : State := (withCmd rowCounterSnapshot.op e5_21 up)
def e5_22 : Entry := (ent [(40,1,2),(42,1,15)])
def s5_22 : State := ({ withCad (fun c => { c with timers := [(15, some ⟨2, .snapshot psnap⟩)] }) (withCmd rowCounterSnapshot.op e5_22 up) with claims := [(527, some ⟨0xC05, 15⟩)] })
def e5_23 : Entry := (ent [(16,8,4096),(24,1,16),(40,1,3)])
def s5_23 : State := (withCmd rowCounterSnapshot.op e5_23 up)
def s5_24 : State := (withCad (fun c => { c with timers := [(15, some ⟨2, .snapshot psnap⟩)] }) up)
def x5_25c : PeriodicSnap := ({ psnap with running := some 5 })
def s5_25 : State := (withCad (fun c => { c with timers := [(15, some ⟨2, .snapshot x5_25c⟩)] }) up)
def x5_26c : PeriodicSnap := ({ psnap with running := some 5 })
def s5_26 : State := (withCad (fun c => { c with timers := [(15, some ⟨2, .snapshot x5_26c⟩)] }) up)
def e5_27 : Entry := (ent [(17,1,15),(18,2,60000)])
def s5_27 : State := (withCmd rowProbeSet.op e5_27 up)
def e5_28 : Entry := (ent [(16,1,1),(17,1,15),(20,4,65535),(24,1,2),(25,1,7),(26,1,3)])
def s5_28 : State := (withCad (fun c => { c with timers := [(15, some ⟨2, .probes⟩)] }) (withCmd rowProbeSet.op e5_28 (withPort 3 prt)))
def e5_29 : Entry := (ent [(16,1,2),(20,4,65535)])
def s5_29 : State := (withCad (fun c => { c with probes := [(65535, some prb)] }) (withCmd rowProbeSet.op e5_29 up))
def e5_30 : Entry := (ent [(16,1,3),(17,1,15)])
def s5_30 : State := ({ withCad (fun c => { c with timers := [(15, some ⟨2, .probes⟩)] }) (withCmd rowProbeSet.op e5_30 up) with claims := [(527, some ⟨0xC03, 15⟩)] })
def e5_31 : Entry := (ent [(16,4,65535)])
def s5_31 : State := (withCad (fun c => { c with probes := [(65535, some prb)] }) (withCmd rowProbeRead.op e5_31 up))
def s5_32 : State := (withCad (fun c => { c with timers := [(15, some ⟨2, .probes⟩)], probes := [(65535, some prb)] }) up)
def e5_33 : Entry := (ent [(17,1,15),(18,2,1)])
def s5_33 : State := (withCmd rowPerfSelect.op e5_33 up)
def e5_34 : Entry := (ent [(16,1,1),(17,1,15)])
def s5_34 : State := ({ withCad (fun c => { c with timers := [(15, some ⟨2, .perf⟩)] }) (withCmd rowPerfSelect.op e5_34 up) with claims := [(527, some ⟨0xC06, 15⟩)] })
def s5_35 : State := (withCad (fun c => { c with timers := [(15, some ⟨2, .perf⟩)] }) up)
def e6_1 : Entry := (ent [(16,1,31),(17,1,1),(18,1,2),(19,1,31),(24,2,1),(26,2,1),(28,2,1000),(30,2,1),(32,2,2),(34,2,60000),(36,1,15)])
def s6_1 : State := (withCmd rowLineChannelSet.op e6_1 up)
def e6_2 : Entry := (ent [(16,1,31),(17,1,0),(18,1,1),(19,1,255),(32,2,2)])
def s6_2 : State := (withLine { LineChannel.reset with enabled := true, state := .on } (withCmd rowLineChannelSet.op e6_2 up))
def e6_3 : Entry := (ent [(16,1,31)])
def s6_3 : State := (withCmd rowLineChannelStatus.op e6_3 up)
def n3of4 : Fin 4 := 3
def s6_6 : State := (withLine { LineChannel.reset with enabled := true, state := .on, set := { LineChannel.reset.set with alarmGpio := 31 } } up)
def s6_7 : State := (withLine { LineChannel.reset with enablePending := true, state := .on } up)
def s6_9 : State := (withLine { LineChannel.reset with state := .tripped } up)
def s6_10 : State := (withLine { LineChannel.reset with enabled := true, state := .on } up)
def e6_11 : Entry := (ent [(16,1,2),(17,1,15),(19,1,1),(20,1,9),(21,1,8)])
def s6_11 : State := (withCmd rowModuleAccess.op e6_11 up)
def e6_12 : Entry := (ent [(17,1,15),(18,1,7),(19,1,127),(22,1,240),(23,1,16)])
def s6_12 : State := (withBus { ModuleBus.reset with present := 0x80 } (withCmd rowModuleAccess.op e6_12 up))
def b6_12 : Bytes := List.replicate 16 7
def s6_13 : State := (withBlock 52 { Block.reset with codes := 3 } (withCmd rowFaultStatusRead.op e0 up))
def e6_14 : Entry := (ent [(16,1,1),(18,2,52)])
def s6_14 : State := (withCmd rowFaultStatusRead.op e6_14 (withBlock 52 { Block.reset with codes := 3, mask := 7 } up))
def e6_15 : Entry := (ent [(16,1,6),(17,1,23)])
def s6_15 : State := (withCmd rowUnitFence.op e6_15 up)
def e6_16 : Entry := (ent [(16,1,6),(17,1,23)])
def s6_16 : State := (withCmd rowUnitUnfence.op e6_16 up)
def e6_17 : Entry := (ent [(16,1,5),(17,1,127)])
def s6_17 : State := (withCmd rowUnitUnfence.op e6_17 (up.setFenced 5 127 true))
def e6_18 : Entry := (ent [(16,1,2),(17,1,7)])
def s6_18 : State := (withCmd rowUnitUnfence.op e6_18 (up.setFenced 2 7 true))
def e6_19 : Entry := (ent [(16,1,6),(17,1,23)])
def s6_19 : State := (withCmd rowUnitUnfence.op e6_19 ((withChan 23 { chan with state := .fenced, cause := 4 }).setFenced 6 23 true))
def e6_20 : Entry := (ent [(16,1,1),(17,1,3),(18,1,52),(19,1,15),(24,8,0xFFFFFFF)])
def s6_20 : State := (withCmd rowFaultInject.op e6_20 up)
def e6_21 : Entry := (ent [(16,1,2),(18,1,50),(19,1,1),(24,8,0x40FFFF)])
def s6_21 : State := (withCmd rowFaultInject.op e6_21 up)
def e6_22 : Entry := (ent [(16,1,4),(18,1,0),(24,8,1)])
def s6_22 : State := (withCmd rowFaultInject.op e6_22 { up with bell := { Bell.reset with hostStop := true } })
def e6_23 : Entry := (ent [(16,2,10000)])
def s6_23 : State := (withCmd rowBellConfig.op e6_23 up)
def e6_24 : Entry := (ent [(18,1,1)])
def s6_24 : State := (withCmd rowBellConfig.op e6_24 (withChan 23 { chan with total := 4096, free := 4096 }))
def e6_25 : Entry := (ent [(16,2,100),(18,1,2)])
def s6_25 : State := ({ withCmd rowBellConfig.op e6_25 up with far := { FarStore.reset with use := .dump }, claims := [(1280, some ⟨0xD05, 0⟩)] })
def s6_26 : State := (withCmd rowWearRead.op e0 up)
def e6_27 : Entry := (ent [(16,1,1),(17,1,63)])
def s6_27 : State := (withCmd rowWearRead.op e6_27 up)
def s6_28 : State := (withBlock 52 { Block.reset with codes := 0xFFFFFFFFFFFF, causes := 0x400 } up)
def n52of53 : Fin 53 := 52
def s6_32 : State := ({ up with bell := { Bell.reset with started := true, heartbeat := true } })
def s6_34 : State := ({ up with bell := { Bell.reset with started := true, heartbeat := true } })
def n25of53 : Fin 53 := 25
def n17of53 : Fin 53 := 17
def s6_42 : State := (cause 0 26 up)
def s6_47 : State := (begun (withCmd rowNop.op e0 up) rowNop m0 e0)
def s6_48 : State := (up.setMbox 0 { Mailbox.reset with inExec := some ⟨0x701, entBuf 320 [], none, 0, false, some (1, [[]])⟩ })
def s6_49 : State := ({ begun (withCmd rowRoleHandover.op e0 up) rowRoleHandover m0 e0 with tandem := { Tandem.reset with role := .captain, handover := some 1 } })
def s6_57 : State := (withCmd 0 e0 up)
def n255of256 : Fin 256 := 255
def s7_1 : State := (withCmd rowTandemConfig.op e0 up)
def s7_2 : State := (withTan cpt (withCmd rowTandemConfig.op e0 up))
def e7_3 : Entry := (ent [(16,1,1),(17,1,3)])
def s7_3 : State := (withCmd rowTandemConfig.op e7_3 up)
def e7_4 : Entry := (ent [(16,1,2)])
def s7_4 : State := (withTan (heard (clm 8 1 1) { Tandem.reset with linkUp := true }) (withCmd rowTandemConfig.op e7_4 up))
def e7_5 : Entry := (ent [(16,1,3),(17,1,3)])
def s7_5 : State := (withTan cpt (withCmd rowTandemConfig.op e7_5 up))
def s7_6 : State := (withTan stk (withCmd rowRoleHandover.op e0 up))
def s7_7 : State := (withTan (heard (clm 8 2 1) cpt) (withCmd rowRoleHandover.op e0 up))
def e7_8 : Entry := (ent [(16,1,62)])
def s7_8 : State := (withCmd rowClaimRankSet.op e7_8 up)
def e7_9 : Entry := (ent [(16,1,1),(17,1,1)])
def s7_9 : State := (withCmd rowPelotonConfig.op e7_9 up)
def s7_10 : State := (withCmd rowTandemStatus.op e0 up)
def e7_11 : Entry := (ent [(16,1,1),(18,2,128)])
def s7_11 : State := (withTan { cpt with lastSeq := [(128, (3, 4))] } (withCmd rowTandemStatus.op e7_11 up))
def e7_12 : Entry := (ent [(16,1,2)])
def s7_12 : State := (withCmd rowFabricStatus.op e7_12 up)
def e7_13 : Entry := (ent [(16,1,127)])
def s7_13 : State := (withCmd rowDigestRead.op e7_13 (withPort 127 { prt with digest := { PortDigest.reset with compared := some ⟨1, true, 3, 4, 5, 6⟩ } }))
def e7_14 : Entry := (ent [(16,1,127),(17,1,1)])
def s7_14 : State := (withCmd rowDigestRead.op e7_14 (withPort 127 { prt with digest := { PortDigest.reset with compared := some ⟨1, true, 3, 4, 5, 6⟩ } }))
def s7_17 : State := (withTan (heard (clm 8 1 1) { Tandem.reset with linkUp := true }) up)
def s7_18 : State := (withTan (heard (clm 8 1 5) { cpt with holdoff := true }) up)
def s7_19 : State := (withTan (heard (clm 8 1 1) cpt) up)
def s7_20 : State := (withTan { Tandem.reset with holdoff := true } up)
def s7_21 : State := (withTan stk up)
def s7_22 : State := (withTan stk up)
def s7_24 : State := (withTan { stk with linkUp := false } up)
def s7_25 : State := (withTan { stk with sync := .syncing } up)
def x7_26b : JournalRecord := ({ rec1 with epoch := 4 })
def s7_26 : State := (withTan stk up)
def s7_27 : State := (withTan { stk with records := List.replicate 99 { rec1 with seq := 0 } } up)
def x7_28b : MirrorMessage := ({ mir1 with epoch := 4 })
def s7_28 : State := (withTan stk up)
def s7_29 : State := (withTan stk up)
def s7_30 : State := (withTan stk up)
def s7_31 : State := (withTan stk up)
def s7_32 : State := (withTan { stk with sync := .syncing } up)
def s7_33 : State := (withTan cpt up)
def s7_34 : State := (withTan { cpt with handover := some 1, journalSeq := 1 } up)
def s7_35 : State := (withTan cpt (withPort 127 prt))
def s7_37 : State := (withTan stk (withPort 127 prt))
def s7_38 : State := (withTan stk (withPort 127 { prt with digest := { PortDigest.reset with current := cst 0 } }))
def x7_39 : DigestBlock := ({ blk 1 with epoch := 4 })
def s7_39 : State := (withTan stk up)
def s7_40 : State := (withTan stk (withPort 127 prt))
def s7_41 : State := (withTan stk (withPort 127 { prt with digest := { PortDigest.reset with closed := [cst 1] } }))
def s7_42 : State := (withTan stk (withPort 127 { prt with digest := { PortDigest.reset with closed := [cst 1] } }))
def s7_45 : State := (withTan cpt (withPort 127 { prt with digest := { PortDigest.reset with run := 2 } }))
def s7_46 : State := ({ up with peloton := { Peloton.reset with joined := true } })
def s7_47 : State := (fabUp (fun l => { l with state := .mismatch }) up)
def s7_48 : State := (fabUp id up)
def s7_49 : State := (fabUp id up)
def s7_50 : State := (fabUp (fun l => { l with lanesUp := 0xF0 }) up)
def s7_51 : State := (fabUp (fun l => { l with lanesUp := 0x0F }) up)
def s7_53 : State := (fabUp id up)
def s7_54 : State := ({ fabUp id (withPort 127 prt) with ctl := { Stores2.reset with matA := [(128, MatrixRow.all)] } })
def s7_55 : State := ({ begun (withCmd rowRuleBankSwap.op e0 up) rowRuleBankSwap m0 e0 with swap := { count := 0xFFFF, mb := some 0 } })
def s7_57 : State := ({ up with swap := { count := 0xFFFF, mb := none } })
def e7_58 : Entry := (ent [(32,1,8)])
def s7_58 : State := (withCmd rowStoreStatus.op e7_58 up)
def e7_59 : Entry := (ent [(32,1,9)])
def s7_59 : State := (withCmd rowStoreStatus.op e7_59 up)
def e7_60 : Entry := (ent [(32,1,9)])
def s7_60 : State := ({ withCmd rowStoreStatus.op e7_60 up with fuses := { Fuses.reset with part := .bx6120 } })
def e7_61 : Entry := (ent [(32,1,10)])
def s7_61 : State := (withCmd rowStoreStatus.op e7_61 up)
def x7_62 : Frame := ({ frm 0 with dest := .host, destQueue := 255 })
def s7_62 : State := (withSw (fun w => { w with hostQueue := [4], frames := [(4, some x7_62)] }) (withRing 255 (ringOf txr { rxr with bucket := posBucket, tail := 5, head := 5, posted := [] }) up))

/-! ### Every clause can be met -/
theorem test_witness_StepRunsFrontCommand :
    (s1_1.pending = [Instr.powerRemoved, Instr.perst]) := by
  decide +kernel

theorem test_witness_EmptyQueueTicks :
    (up.pending = [] ∧ up.running = true) ∧
    (State.reset.pending = [] ∧ State.reset.running = false) := by
  and_intros <;> decide +kernel

theorem test_witness_MailboxEnableAndDisable :
    (live up m0 ∧ (up.mbox m0.val).enable = false ∧ (up.mbox m0.val).state = RunState.disabled ∧ up.fw.fwReady = true ∧ up.fw.halted = false) ∧
    (live s1_5 m0 ∧ (s1_5.mbox m0.val).enable = false ∧ (s1_5.mbox m0.val).state = RunState.disabled ∧ s1_5.fw.fwReady = true ∧ s1_5.fw.halted = false) ∧
    (live s1_6 m0 ∧ (s1_6.mbox m0.val).enable = false ∧ (s1_6.mbox m0.val).state ≠ RunState.disabled) ∧
    (live s1_7 m0 ∧ (s1_7.mbox m0.val).enable = true) ∧
    (live s1_8 m0) ∧
    (¬live up m128) := by
  and_intros <;> decide +kernel

theorem test_witness_DoorbellAndResponseHead :
    (live s1_10 m0 ∧ (s1_10.mbox m0.val).state = RunState.running ∧ 0 = (s1_10.mbox m0.val).cmdTail) ∧
    (live s1_11 m0 ∧ (s1_11.mbox m0.val).state = RunState.running ∧ 16 ≠ (s1_11.mbox m0.val).cmdTail ∧
    (16 - (s1_11.mbox m0.val).cmdHead).toNat ≤ 2 ^ (s1_11.mbox m0.val).cmdLog2.toNat) ∧
    (live s1_12 m0 ∧ (s1_12.mbox m0.val).state = RunState.running ∧ 17 ≠ (s1_12.mbox m0.val).cmdTail ∧
    2 ^ (s1_12.mbox m0.val).cmdLog2.toNat < (17 - (s1_12.mbox m0.val).cmdHead).toNat) ∧
    ((up.mbox m0.val).state ≠ RunState.running) ∧
    (live up m0 ∧ (up.mbox m0.val).state = RunState.disabled) ∧
    (live s1_15 m0 ∧ (s1_15.mbox m0.val).rspTail - (s1_15.mbox m0.val).rspHead < 1 - (s1_15.mbox m0.val).rspHead ∧
    (s1_15.mbox m0.val).state = RunState.running) ∧
    (live s1_16 m0 ∧ (s1_16.mbox m0.val).rspTail - (s1_16.mbox m0.val).rspHead < 1 - (s1_16.mbox m0.val).rspHead ∧
    (s1_16.mbox m0.val).state ≠ RunState.running) ∧
    (live s1_17 m0 ∧ ¬(s1_17.mbox m0.val).rspTail - (s1_17.mbox m0.val).rspHead < 2 - (s1_17.mbox m0.val).rspHead ∧
    (s1_17.mbox m0.val).state ≠ RunState.disabled) := by
  and_intros <;> decide +kernel

theorem test_witness_CommandFetchChecksSequence :
    (s1_18.serves m0.val = true ∧ (s1_18.mbox m0.val).cmdHead ≠ (s1_18.mbox m0.val).cmdTail ∧ e0.seq = (s1_18.mbox m0.val).nextSeq ∧
    ((s1_18.mbox m0.val).inExec.isSome = true ∨ ∃ x, ((s1_18.mbox m0.val).fetched ++ [(1, e0)]).head? = some x ∧ (opRow? x.fst.toNat).isSome = true)) ∧
    (s1_19.serves m0.val = true ∧ (s1_19.mbox m0.val).cmdHead ≠ (s1_19.mbox m0.val).cmdTail ∧ e0.seq = (s1_19.mbox m0.val).nextSeq ∧
    (s1_19.mbox m0.val).inExec = none ∧ (s1_19.mbox m0.val).fetched = [] ∧ (s1_19.mbox m0.val).room = true ∧ opRow? (65535#16).toNat = none) ∧
    (s1_20.serves m0.val = true ∧ (s1_20.mbox m0.val).cmdHead ≠ (s1_20.mbox m0.val).cmdTail ∧ x1_20d.seq ≠ (s1_20.mbox m0.val).nextSeq) ∧
    (s1_21.serves m0.val = true ∧ (s1_21.mbox m0.val).cmdHead ≠ (s1_21.mbox m0.val).cmdTail) := by
  and_intros <;> decide +kernel

theorem test_witness_CompletionPostsResponse :
    ((s1_22.mbox 0).inExec = some x1_22d ∧ x1_22d.opcode.toNat = rowNop.op ∧ (s1_22.mbox 0).muted = false ∧ (s1_22.mbox 0).fetched = [] ∧
    (s1_22.mbox 0).intMode = 0 ∧ s1_22.host.linkUp = true ∧ slotAddr (s1_22.mbox 0).rspBase (s1_22.mbox 0).rspTail (s1_22.mbox 0).rspLog2 32 + 32 ≤ 2 ^ 64) ∧
    ((s1_23.mbox 0).inExec = some x1_23d ∧ x1_23d.opcode.toNat = rowNop.op ∧ (s1_23.mbox 0).muted = false ∧ (s1_23.mbox 0).fetched = [] ∧
    (s1_23.mbox 0).intMode = 0 ∧ s1_23.host.linkUp = true ∧ slotAddr (s1_23.mbox 0).rspBase (s1_23.mbox 0).rspTail (s1_23.mbox 0).rspLog2 32 + 32 ≤ 2 ^ 64 ∧
    31 < 32) ∧
    ((s1_24.mbox 0).inExec = some x1_24d ∧ x1_24d.opcode.toNat = rowNop.op ∧ (s1_24.mbox 0).muted = false ∧ (s1_24.mbox 0).fetched = [] ∧
    (s1_24.mbox 0).intMode = 0 ∧ s1_24.host.linkUp = true ∧ slotAddr (s1_24.mbox 0).rspBase (s1_24.mbox 0).rspTail (s1_24.mbox 0).rspLog2 32 + 32 ≤ 2 ^ 64 ∧
    (32 < slotAddr (s1_24.mbox 0).rspBase (s1_24.mbox 0).rspTail (s1_24.mbox 0).rspLog2 32 ∨ slotAddr (s1_24.mbox 0).rspBase (s1_24.mbox 0).rspTail (s1_24.mbox 0).rspLog2 32 + 32 ≤ 32)) ∧
    (1 ≠ 0) := by
  and_intros <;> decide +kernel

theorem test_witness_DeviceCommandsAnswer :
    (Accepted s1_26 rowNop m0 e0 []) ∧
    (Accepted s1_27 rowDeviceInfo m0 e0 []) ∧
    (Accepted s1_28 rowClaimQuery m0 e1_28 [(16, 0, 8), (17, 0, 8)] ∧ 1 ≤ e1_28.u8 16 ∧ e1_28.u8 16 ≤ 5 ∧ e1_28.u8 17 < claimIndices (e1_28.u8 16)) ∧
    (Accepted s1_29 rowClaimQuery m0 e1_29 [(16, 0, 8), (17, 0, 8)] ∧ 1 ≤ e1_29.u8 16 ∧ e1_29.u8 16 ≤ 5 ∧ e1_29.u8 17 < claimIndices (e1_29.u8 16)) ∧
    (Accepted s1_30 rowFwLogRead m0 e1_30 [(32, 0, 32)]) := by
  and_intros <;> decide +kernel

theorem test_witness_FenceWaitsForEveryIsland :
    (Accepted s1_31 rowFence m0 e0 [(16, 0, 1)]) ∧
    (s1_32.fenceOf m0.val = some (pf true [] [] none) ∧ (pf true [] [] none).done = none ∧ n16of33.val ∈ s1_32.awaited (pf true [] [] none) ∧
    ¬n16of33.val ∈ (pf true [] [] none).acked ∧ (n16of33.val = 26 → s1_32.te.running = none ∨ s1_32.wordsQuiet = true) ∧
    (∃ j, j ∈ s1_32.awaited (pf true [] [] none) ∧ j ≠ n16of33.val ∧ ¬j ∈ (pf true [] [] none).acked)) ∧
    (s1_33.fenceOf m0.val = some (pf true (List.range 32) [] none) ∧ (pf true (List.range 32) [] none).done = none ∧
    n32of33.val ∈ s1_33.awaited (pf true (List.range 32) [] none) ∧ ¬n32of33.val ∈ (pf true (List.range 32) [] none).acked ∧
    (n32of33.val = 26 → s1_33.te.running = none ∨ s1_33.wordsQuiet = true) ∧
    (∀ (j : Nat), j ∈ s1_33.awaited (pf true (List.range 32) [] none) → j = n32of33.val ∨ j ∈ (pf true (List.range 32) [] none).acked) ∧
    ((pf true (List.range 32) [] none).drain = true ∨ ¬(s1_33.mergedOf m0.val = [] ∧ s1_33.heldNotices m0.val = [] ∧ s1_33.snapsRunning m0.val = []))) ∧
    (s1_34.fenceOf m0.val = some (pf false (List.range 32) [] none) ∧ (pf false (List.range 32) [] none).done = none ∧
    n32of33.val ∈ s1_34.awaited (pf false (List.range 32) [] none) ∧ ¬n32of33.val ∈ (pf false (List.range 32) [] none).acked ∧
    (n32of33.val = 26 → s1_34.te.running = none ∨ s1_34.wordsQuiet = true) ∧
    (∀ (j : Nat), j ∈ s1_34.awaited (pf false (List.range 32) [] none) → j = n32of33.val ∨ j ∈ (pf false (List.range 32) [] none).acked) ∧
    (pf false (List.range 32) [] none).drain = false ∧ (s1_34.mergedOf m0.val = [] ∧ s1_34.heldNotices m0.val = [] ∧ s1_34.snapsRunning m0.val = [])) ∧
    (s1_35.fenceOf m0.val = some (pf true (List.range 33) [(0, 1)] (some 5)) ∧ (pf true (List.range 33) [(0, 1)] (some 5)).drain = true ∧
    (pf true (List.range 33) [(0, 1)] (some 5)).done = some 5 ∧ s1_35.drained (m0.val) (pf true (List.range 33) [(0, 1)] (some 5)) = true ∧
    s1_35.eventsOut (m0.val) (pf true (List.range 33) [(0, 1)] (some 5)) = true) ∧
    (s1_36.fenceOf m0.val = some (pfv true (List.range 33) [(0, 1)] (some 5) [9]) ∧ (pfv true (List.range 33) [(0, 1)] (some 5) [9]).drain = true ∧
    (pfv true (List.range 33) [(0, 1)] (some 5) [9]).done = some 5 ∧ s1_36.drained (m0.val) (pfv true (List.range 33) [(0, 1)] (some 5) [9]) = true ∧
    s1_36.eventsOut (m0.val) (pfv true (List.range 33) [(0, 1)] (some 5) [9]) = false) ∧
    (s1_37.fenceOf m0.val = some (pf true (List.range 33) [(0, 1)] (some 5)) ∧ (pf true (List.range 33) [(0, 1)] (some 5)).drain = true ∧
    (pf true (List.range 33) [(0, 1)] (some 5)).done = some 5 ∧ s1_37.drained (m0.val) (pf true (List.range 33) [(0, 1)] (some 5)) = false) := by
  and_intros <;> decide +kernel

theorem test_witness_RuleBankSwapBetweenPackets :
    (Accepted s1_38 rowRuleBankSwap m0 e0 [] ∧ s1_38.swap.mb = none ∧ s1_38.ruleHeld = false ∧ s1_38.livePipes ≠ []) ∧
    ((s1_39.pipe n7of8.val).switches = [Switch.ruleBank] ∧ s1_39.isFenced 2 n7of8.val = false) ∧
    (Accepted s1_40 rowRuleBankStatus m0 e0 []) := by
  and_intros <;> decide +kernel

theorem test_witness_GearSetAndStatus :
    (Accepted s1_41 rowGearSet m0 e1_41 [(16, 0, 8), (17, 0, 8)] ∧ 1 ≤ e1_41.u8 16 ∧ e1_41.u8 16 ≤ 4 ∧ 1 ≤ e1_41.u8 17 ∧
    (e1_41.u8 17 ≤ if e1_41.u8 16 = 1 then 4 else 3) ∧ (e1_41.u8 16 = 3 → e1_41.u8 17 ≠ 1 → s1_41.fuses.part = Part.bx6400) ∧ s1_41.gears.change = none ∧
    s1_41.gearOf (e1_41.u8 16) = e1_41.u8 17) ∧
    (Accepted s1_42 rowGearSet m0 e1_42 [(16, 0, 8), (17, 0, 8)] ∧ 1 ≤ e1_42.u8 16 ∧ e1_42.u8 16 ≤ 4 ∧ 1 ≤ e1_42.u8 17 ∧
    (e1_42.u8 17 ≤ if e1_42.u8 16 = 1 then 4 else 3) ∧ (e1_42.u8 16 = 3 → e1_42.u8 17 ≠ 1 → s1_42.fuses.part = Part.bx6400) ∧ s1_42.gears.change = none ∧
    s1_42.gearOf (e1_42.u8 16) ≠ e1_42.u8 17 ∧ 3 ≤ e1_42.u8 16 ∧ s1_42.livePipes ≠ []) ∧
    (Accepted s1_43 rowGearSet m0 e1_43 [(16, 0, 8), (17, 0, 8)] ∧ 1 ≤ e1_43.u8 16 ∧ e1_43.u8 16 ≤ 4 ∧ 1 ≤ e1_43.u8 17 ∧
    (e1_43.u8 17 ≤ if e1_43.u8 16 = 1 then 4 else 3) ∧ (e1_43.u8 16 = 3 → e1_43.u8 17 ≠ 1 → s1_43.fuses.part = Part.bx6400) ∧ s1_43.gears.change = none ∧
    s1_43.gearOf (e1_43.u8 16) ≠ e1_43.u8 17 ∧ e1_43.u8 16 = 1 ∧ s1_43.gearRefusal 1 (e1_43.u8 17) = none) ∧
    (Accepted s1_44 rowGearSet m0 e1_44 [(16, 0, 8), (17, 0, 8)] ∧ 1 ≤ e1_44.u8 16 ∧ e1_44.u8 16 ≤ 4 ∧ 1 ≤ e1_44.u8 17 ∧
    (e1_44.u8 17 ≤ if e1_44.u8 16 = 1 then 4 else 3) ∧ (e1_44.u8 16 = 3 → e1_44.u8 17 ≠ 1 → s1_44.fuses.part = Part.bx6400) ∧ s1_44.gears.change = none ∧
    s1_44.gearOf (e1_44.u8 16) ≠ e1_44.u8 17 ∧ e1_44.u8 16 = 2 ∧ s1_44.gearRefusal 2 (e1_44.u8 17) = none) ∧
    (Accepted s1_45 rowGearStatus m0 e0 []) := by
  and_intros <;> decide +kernel

theorem test_witness_PatchStageAndActivate :
    (Accepted s1_46 rowPatchStage m0 e1_46 [(32, 0, 2)] ∧ e1_46.f 32 0 2 ≠ 0 ∧ List.length b1_46 = e1_46.bufLen ∧
    s1_46.fuses.authenticate (!s1_46.fw.bank) b1_46 = Sum.inl 1) ∧
    (s1_47.fw.persist = some (0, 1, [1])) ∧
    (s1_48.fw.persist = some (0, 1, [1])) ∧
    (Accepted s1_49 rowPatchActivate m0 e1_49 [(32, 0, 64)] ∧ s1_49.fw.staged = some (bun 9 1) ∧ (bun 9 1).id.toNat = e1_49.u64 32 ∧
    s1_49.activationBusy = none) ∧
    (Accepted s1_50 rowPatchRevert m0 e0 [] ∧ s1_50.fw.previous.isSome = true ∧ s1_50.activationBusy = none) ∧
    (s1_51.fw.activation = some { mb := 0, revert := true, started := false, tablePending := false : Activation } ∧
    { mb := 0, revert := true, started := false, tablePending := false : Activation }.started = false ∧ s1_51.livePipes ≠ []) ∧
    (s1_52.fw.activation = some { mb := 0, revert := true, started := false, tablePending := false : Activation } ∧
    { mb := 0, revert := true, started := false, tablePending := false : Activation }.started = false) ∧
    (activating.fw.activation = some { mb := 0, revert := false, started := true, tablePending := false : Activation } ∧
    { mb := 0, revert := false, started := true, tablePending := false : Activation }.started = true ∧ (activating.pipe n7of8.val).switches = [Switch.patch] ∧
    activating.isFenced 2 n7of8.val = false ∧
    (if { mb := 0, revert := false, started := true, tablePending := false : Activation }.revert = true then activating.fw.previous else activating.fw.staged) = some (bun 9 1)) ∧
    (Accepted s1_54 rowPatchStatus m0 e0 []) := by
  and_intros <;> decide +kernel

theorem test_witness_FuseReadAndRollback :
    ((Accepted s1_55 rowFuseRead m0 e0 []) ∧
    (Accepted s1_56 rowRollbackAdvance m0 e1_56 [(32, 0, 7)] ∧
    (match s1_56.fw.active with | some x => x.version | none => 0) < e1_56.f 32 0 7) ∧
    (Accepted s1_57 rowRollbackAdvance m0 e0 [(32, 0, 7)] ∧
    s1_57.fw.active = some (bun 9 127) ∧ e0.f 32 0 7 ≤ (bun 9 127).version ∧
    e0.f 32 0 7 ≤ s1_57.fuses.rollbackValue) ∧
    (Accepted s1_59 rowRollbackAdvance m0 e1_59 [(32, 0, 7)] ∧ s1_59.fw.active = some (bun 9 127) ∧
    e1_59.f 32 0 7 ≤ (bun 9 127).version ∧ s1_59.fuses.rollbackValue < e1_59.f 32 0 7)) ∧
    ((Accepted s1_58 rowRollbackAdvance m0 e1_58 [(32, 0, 7)] ∧ s1_58.fw.active = some (bun 9 127) ∧ e1_58.f 32 0 7 ≤ (bun 9 127).version ∧
    s1_58.fuses.rollbackValue < e1_58.f 32 0 7) ∧ fusesAgree s1_58.fuses) ∧
    ((Accepted s1_60 rowRollbackAdvance m0 e1_60 [(32, 0, 7)] ∧ s1_60.fw.active = some (bun 9 127) ∧ e1_60.f 32 0 7 ≤ (bun 9 127).version ∧ 0 < 4 ∧
    s1_60.fuses.rollbackValue < e1_60.f 32 0 7 ∧ (fun k => (bun 9 127).revokeMask.getLsbD k && k != (bun 9 127).keySlot) 0 = true) ∧ fusesAgree s1_60.fuses) :=
  ⟨by and_intros <;> decide +kernel,
   ⟨by and_intros <;> decide +kernel, by unfold fusesAgree; decide +kernel⟩,
   ⟨by and_intros <;> decide +kernel, by unfold fusesAgree; decide +kernel⟩⟩

theorem test_witness_ResetsReturnToResetValues :
    (s1_63.balls.powered = false) ∧
    (up.balls.powered = true) ∧
    (State.reset.balls.powered = true ∧ State.reset.balls.sysResetN = false) ∧
    ((up.balls.powered = false ∨ up.balls.sysResetN = true)) ∧
    (up.running = true ∧ (BitVec.extractLsb' 16 16 2982608897#64 = 45511#16 ∧ (2982608897#64).getLsbD 0 = true)) ∧
    ((up.running = false ∨ ¬(BitVec.extractLsb' 16 16 2982608896#64 = 45511#16 ∧ (2982608896#64).getLsbD 0 = true))) ∧
    (up.running = true ∧ (BitVec.extractLsb' 16 16 2982608897#64 = 45511#16 ∧ (2982608897#64).getLsbD 0 = true)) := by
  and_intros <;> decide +kernel

theorem test_witness_BootPhases :
    (s1_71.boot.phase = BootPhase.fuseLoad) ∧
    (s1_72.pending = [] ∧ s1_72.running = true ∧ s1_72.boot.phase = BootPhase.romBoot ∧ s1_72.now < 2000000) ∧
    (s1_73.inBootRom = true ∧ s1_73.bootTries n0of2.val [] [] = true ∧ s1_73.fuses.authenticate false [] = Sum.inl 1) ∧
    (s1_74.booting = true ∧ s1_74.boot.memReady = false) ∧
    (s1_75.booting = true ∧ 15 < s1_75.spokes ∧ ¬calUnit (CalTarget.spoke 15) ∈ s1_75.boot.failed) ∧
    (s1_76.boot.phase = BootPhase.firmwareInit ∧ s1_76.boot.memReady = true ∧ s1_76.fw.halted = false) := by
  and_intros <;> decide +kernel

theorem test_witness_PortConfiguration :
    (Accepted s1_77 rowPortConfig m0 e1_77 [(16, 0, 8), (17, 0, 8), (18, 0, 8), (19, 0, 8), (20, 0, 16), (22, 0, 8), (23, 0, 8), (24, 0, 16), (26, 0, 16), (28, 0, 16), (30, 0, 16), (32, 0, 16)] ∧
    (∀ (x : Bool × Nat), x ∈ cfgBad e1_77 → x.fst = false) ∧ e1_77.u8 16 < s1_77.portCount ∧ s1_77.isFenced 1 (e1_77.u8 16 / 8) = false ∧ e1_77.u8 17 ≠ 0 ∧
    (s1_77.port (e1_77.u8 16)).cfg.width = e1_77.u8 17 ∧ (s1_77.port (e1_77.u8 16)).cfg.rate = e1_77.u8 18 ∧
    (s1_77.port (e1_77.u8 16)).cfg.linkTrain = decide (e1_77.u8 22 = 1)) ∧
    (Accepted s1_78 rowPortConfig m0 e1_78 [(16, 0, 8), (17, 0, 8), (18, 0, 8), (19, 0, 8), (20, 0, 16), (22, 0, 8), (23, 0, 8), (24, 0, 16), (26, 0, 16), (28, 0, 16), (30, 0, 16), (32, 0, 16)] ∧
    (∀ (x : Bool × Nat), x ∈ cfgBad e1_78 → x.fst = false) ∧ e1_78.u8 16 < s1_78.portCount ∧ s1_78.isFenced 1 (e1_78.u8 16 / 8) = false ∧ e1_78.u8 17 ≠ 0 ∧
    (¬((s1_78.port (e1_78.u8 16)).cfg.width = e1_78.u8 17 ∧ (s1_78.port (e1_78.u8 16)).cfg.rate = e1_78.u8 18 ∧
    (s1_78.port (e1_78.u8 16)).cfg.linkTrain = decide (e1_78.u8 22 = 1))) ∧
    (∀ (j : Nat), j ∈ s1_78.touched (e1_78.u8 16) (e1_78.u8 17) → (s1_78.port j).cfg.admin = false ∧ s1_78.portHolds j = false ∧ s1_78.hasNodes j = false)) ∧
    (Accepted s1_79 rowPortConfig m0 e1_79 [(16, 0, 8), (17, 0, 8), (18, 0, 8), (19, 0, 8), (20, 0, 16), (22, 0, 8), (23, 0, 8), (24, 0, 16), (26, 0, 16), (28, 0, 16), (30, 0, 16), (32, 0, 16)] ∧
    (∀ (x : Bool × Nat), x ∈ cfgBad e1_79 → x.fst = false) ∧ e1_79.u8 16 < s1_79.portCount ∧ s1_79.isFenced 1 (e1_79.u8 16 / 8) = false ∧ e1_79.u8 17 = 0 ∧
    (s1_79.port (e1_79.u8 16)).cfg.width ≠ 0 ∧ (s1_79.port (e1_79.u8 16)).cfg.admin = false ∧ s1_79.portHolds (e1_79.u8 16) = false ∧
    s1_79.hasNodes (e1_79.u8 16) = false) ∧
    (Accepted s1_80 rowPortEnable m0 e1_80 [(16, 0, 8), (17, 0, 8)] ∧ e1_80.u8 16 < s1_80.portCount ∧ e1_80.u8 17 ≤ 1 ∧
    s1_80.isFenced 1 (e1_80.u8 16 / 8) = false ∧ (s1_80.port (e1_80.u8 16)).cfg.width ≠ 0 ∧ (s1_80.port (e1_80.u8 16)).cfg.admin = decide (e1_80.u8 17 = 1)) ∧
    (Accepted s1_81 rowPortEnable m0 e1_81 [(16, 0, 8), (17, 0, 8)] ∧ e1_81.u8 16 < s1_81.portCount ∧ e1_81.u8 17 ≤ 1 ∧
    s1_81.isFenced 1 (e1_81.u8 16 / 8) = false ∧ (s1_81.port (e1_81.u8 16)).cfg.width ≠ 0) ∧
    (Accepted s1_82 rowPortModeSet m0 e1_82 [(16, 0, 8), (17, 0, 8)] ∧ e1_82.u8 16 < s1_82.portCount ∧ e1_82.u8 17 ≤ 1 ∧
    s1_82.isFenced 1 (e1_82.u8 16 / 8) = false ∧ (s1_82.port (e1_82.u8 16)).cfg.width ≠ 0 ∧ (s1_82.port (e1_82.u8 16)).cfg.admin = false ∧
    s1_82.portHolds (e1_82.u8 16) = false ∧ s1_82.hasNodes (e1_82.u8 16) = false) ∧
    (Accepted s1_83 rowPortPauseSet m0 e1_83 [(16, 0, 8), (17, 0, 8), (18, 0, 8), (19, 0, 8), (20, 0, 16), (22, 0, 16), (24, 0, 16), (26, 0, 8), (28, 0, 32), (32, 0, 32), (36, 0, 32)] ∧
    (∀ (x : Bool × Nat), x ∈ s1_83.pauseBad e1_83 → x.fst = false) ∧ e1_83.u8 16 < s1_83.portCount ∧ s1_83.isFenced 1 (e1_83.u8 16 / 8) = false ∧
    (s1_83.port (e1_83.u8 16)).cfg.width ≠ 0 ∧
    (s1_83.setPort (e1_83.u8 16) (pauseApply (s1_83.port (e1_83.u8 16)) e1_83)).reservedHeadroom (e1_83.u8 16 / 16) ≤ 8192) ∧
    (Accepted s1_84 rowPortStatus m0 e1_84 [(16, 0, 8)] ∧ e1_84.u8 16 < s1_84.portCount ∧ s1_84.isFenced 1 (e1_84.u8 16 / 8) = false ∧
    s1_84.ownsPort (m0.val) (e1_84.u8 16) = true ∧ (s1_84.port (e1_84.u8 16)).cfg.width ≠ 0) ∧
    (Accepted s1_85 rowPortStatsRead m0 e1_85 [(16, 0, 8), (17, 0, 8)] ∧ e1_85.u8 16 < s1_85.portCount ∧ e1_85.u8 17 ≤ 30 ∧
    s1_85.isFenced 1 (e1_85.u8 16 / 8) = false ∧ s1_85.ownsPort (m0.val) (e1_85.u8 16) = true ∧ (s1_85.port (e1_85.u8 16)).cfg.width ≠ 0) := by
  and_intros <;> decide +kernel

theorem test_witness_LinkEvents :
    ((s1_86.portOfLane n127of128.val).isSome = true) ∧
    (up.portOfLane n127of128.val = none ∧ up.gears.change = none) ∧
    (s1_88.trainingNow n5of128.val = true) ∧
    (s1_89.trainingNow n5of128.val = false) ∧
    ((s1_90.port n5of128.val).cfg.width ≠ 0) ∧
    ((s1_91.port n5of128.val).link.link = LinkState.holdUp) ∧
    ((s1_92.port n5of128.val).link.link ≠ LinkState.holdUp) ∧
    ((s1_93.port n5of128.val).link.link = LinkState.holdDown) ∧
    ((s1_94.port n5of128.val).link.link ≠ LinkState.holdDown) ∧
    ((s1_95.port n5of128.val).flushing = true) ∧
    ((s1_96.port n5of128.val).flushing = false) ∧
    ((s1_97.port n5of128.val).link.link = LinkState.up) := by
  and_intros <;> decide +kernel

theorem test_witness_FrameReception :
    (s1_98.rxOpen n127of128.val = true ∧ (s1_98.port n127of128.val).receiving = none) ∧
    (s1_99.rxOpen n127of128.val = true ∧ (s1_99.port n127of128.val).receiving = none ∧ s1_99.fifoUsed n127of128.val + 256 ≤ s1_99.fifoSize n127of128.val) ∧
    (s1_100.rxOpen n127of128.val = true ∧ (s1_100.port n127of128.val).receiving = none ∧ s1_100.fifoSize n127of128.val < s1_100.fifoUsed n127of128.val + 256) ∧
    ((s1_101.port n16of128.val).waiting = [0] ∧ s1_101.packet 0 = some (pkt 16 64) ∧ s1_101.portFenced n16of128.val = false) ∧
    ((s1_102.port n16of128.val).receiving = some 0 ∧ s1_102.packet 0 = some (pkt 16 321) ∧ (pkt 16 321).started = false ∧ (pkt 16 321).frames = [] ∧
    (pkt 16 321).arrived + 256 < (pkt 16 321).length ∧ s1_102.gears.change = none ∧ s1_102.fifoUsed n16of128.val + 256 ≤ s1_102.fifoSize n16of128.val ∧
    (pkt 16 321).port = n16of128.val) ∧
    ((s1_103.port n16of128.val).receiving = some 0 ∧ s1_103.packet 0 = some (pkt 16 64) ∧ (pkt 16 64).port = n16of128.val) := by
  and_intros <;> decide +kernel

theorem test_witness_TransmissionAndPause :
    (s1_104.txOpen n9of128.val = true ∧ s1_104.gateOpen = true ∧ s1_104.txNext n9of128.val = some 0 ∧ (s1_104.port n9of128.val).staging[0]? = some txf) ∧
    ((s1_105.port n9of128.val).sending = some txf ∧ txf.complete = true ∧ txf.stomp = false ∧ (txf.cut = false ∨ List.length txf.bytes + 4 ≤ txf.limit)) ∧
    (((s1_106.port n9of128.val).prio n7of8.val).until_.isSome = true) ∧
    ((s1_107.port n9of128.val).pause.watchdogMs ≠ 0 ∧ (s1_107.port n9of128.val).paused (n7of8.val) s1_107.now = true ∧
    ((s1_107.port n9of128.val).pause.mode = 1 → n7of8.val = 0)) ∧
    (((s1_108.port n9of128.val).prio n7of8.val).storm = true) ∧
    (n7of8.val ∈ (s1_109.port n9of128.val).flowPrios ∧ ((s1_109.port n9of128.val).prio n7of8.val).txXoff = true ∧ s1_109.mayPause n9of128.val = true ∧
    (s1_109.port n9of128.val).pause.mode = 2) ∧
    (((s1_110.port n9of128.val).prio n7of8.val).txXoff = false) := by
  and_intros <;> decide +kernel

theorem test_witness_ImageLoads :
    (e2_1.indirect = false ∧ Accepted s2_1 rowParseGraphLoad m0 e2_1 [(32, 0, 1)] ∧ e2_1.bit 32 0 = true ∧ s2_1.ctl.graphMb = none ∧
    (s2_1.flying 1 !s2_1.ctl.graphBank) = 0 ∧ s2_1.livePipes ≠ []) ∧
    (e0.indirect = false ∧ Accepted s2_2 rowParseGraphLoad m0 e0 [(32, 0, 1)] ∧ e0.bit 32 0 = false) ∧
    (e2_3.indirect = true ∧ Accepted s2_3 rowParseGraphLoad m0 e2_3 [] ∧ List.length b2_3 = e2_3.bufLen ∧ s2_3.ctl.graphMb = none ∧
    (s2_3.flying 1 !s2_3.ctl.graphBank) = 0 ∧ s2_3.livePipes ≠ [] ∧ graphOf b2_3 = Sum.inl x2_3) ∧
    (e2_4.indirect = true ∧ Accepted s2_4 rowParseGraphLoad m0 e2_4 [] ∧ List.length b2_4 = e2_4.bufLen ∧ s2_4.ctl.graphMb = none ∧
    (s2_4.flying 1 !s2_4.ctl.graphBank) = 0 ∧ s2_4.livePipes ≠ [] ∧ graphOf b2_4 = Sum.inr (0, 0)) ∧
    (e2_5.indirect = true ∧ Accepted s2_5 rowParseGraphLoad m0 e2_5 [] ∧ (s2_5.ctl.graphMb.isSome = true ∨ (s2_5.flying 1 !s2_5.ctl.graphBank) ≠ 0)) ∧
    (Accepted s2_6 rowCustomerStoreLoad m0 e2_6 [] ∧ e2_6.bufLen ≤ 65536 ∧ List.length b2_6 = e2_6.bufLen ∧ s2_6.ctl.custMb = none ∧
    (s2_6.flying 2 !s2_6.ctl.custBank) = 0 ∧ s2_6.livePipes ≠ [] ∧
    firstFailing 0 (List.map (fun i => customerBad (leAt b2_6 (16 * i) 16)) (List.range (List.length b2_6 / 16))) = none) ∧
    (Accepted s2_7 rowCustomerStoreLoad m0 e2_7 [] ∧ e2_7.bufLen ≤ 65536 ∧ List.length b2_7 = e2_7.bufLen ∧ s2_7.ctl.custMb = none ∧
    (s2_7.flying 2 !s2_7.ctl.custBank) = 0 ∧ s2_7.livePipes ≠ [] ∧
    firstFailing 0 (List.map (fun i => customerBad (leAt b2_7 (16 * i) 16)) (List.range (List.length b2_7 / 16))) = some (0, 15)) ∧
    (Accepted s2_8 rowCustomerStoreLoad m0 e2_8 [] ∧ 65536 < e2_8.bufLen ∧ e2_8.indirect = true) ∧
    (Accepted s2_9 rowCustomerStoreLoad m0 e2_9 [] ∧ e2_9.bufLen ≤ 65536 ∧ (s2_9.ctl.custMb.isSome = true ∨ (s2_9.flying 2 !s2_9.ctl.custBank) ≠ 0)) := by
  and_intros <;> decide +kernel

theorem test_witness_PatternSetsAndLifeline :
    ((Accepted s2_12 rowLifelineSet m0 e2_12 [(16, 0, 8), (17, 0, 8), (18, 0, 16)] ∧ e2_12.u8 16 ≤ 127 ∧ e2_12.u8 17 ≤ 1 ∧
    (m0.val = 0 ∨ e2_12.u8 16 = m0.val - 1) ∧ (s2_12.slice (e2_12.u8 16)).state ≠ SliceState.none)) ∧
    ((Accepted s2_10 rowPatternSetLoad m0 e2_10 [(32, 0, 6), (33, 0, 8)] ∧ e2_10.f 32 0 6 ≠ 0 ∧ (e2_10.u8 33 < 128 ∨ e2_10.u8 33 = 255) ∧
    s2_10.hasMatcher = true ∧ (List.any s2_10.ports fun p => p.snd.patternSet == e2_10.f 32 0 6) = false ∧ List.length b2_10 = e2_10.bufLen ∧
    leAt b2_10 0 2 ≤ 16384 ∧ allZero (slice b2_10 2 62) = true ∧ patternsOf (leAt b2_10 0 2) 0 (List.drop 64 b2_10) = Sum.inl [] ∧
    tget s2_10.ctl.sets none (e2_10.f 32 0 6) = none ∧ patternBlocks [] ≤ s2_10.freeAutomata) ∧ (∀ (k : Nat), (s2_10.port k).patternSet ≠ e2_10.f 32 0 6)) ∧
    ((Accepted s2_11 rowPatternSetBind m0 e2_11 [(16, 0, 8), (17, 0, 8)] ∧ e2_11.u8 16 < s2_11.portCount ∧ e2_11.u8 17 ≤ 63 ∧ s2_11.hasMatcher = true ∧
    s2_11.isFenced 1 (e2_11.u8 16 / 8) = false ∧ s2_11.ownsPort (m0.val) (e2_11.u8 16) = true ∧ (s2_11.port (e2_11.u8 16)).cfg.width ≠ 0 ∧
    (∀ (p : PatternSet), tget s2_11.ctl.sets none (e2_11.u8 17) = some p → m0.val = 0 ∨ p.owner = 255 ∨ p.owner = m0.val - 1)) ∧
    (e2_11.u8 17 = 0 ∨ ∃ p, tget s2_11.ctl.sets none (e2_11.u8 17) = some p)) :=
  ⟨by and_intros <;> decide +kernel,
   ⟨by and_intros <;> decide +kernel, tget_all (fun p => p.patternSet ≠ e2_10.f 32 0 6) s2_10.ports Port.reset (by decide +kernel) (by decide +kernel)⟩,
   ⟨by and_intros <;> decide +kernel, .inr ⟨⟨[], 0xFF, 0⟩, by decide +kernel⟩⟩⟩

theorem test_witness_PacketPasses :
    (((s2_16.pipe n0of8.val).matching = [0] ∧ s2_16.isFenced 2 n0of8.val = false ∧ s2_16.packet 0 = some x2_16e ∧
    x2_16e.state = some { key := 0, headers := [], headerEnd := 0, depth := 512 : PassState }) ∧
    (s2_17.queueOf (qRecirc n0of8.val) = [7] ∧
    s2_17.frame 7 = some x2_17f ∧ x2_17f.complete = true ∧ x2_17f.pkt = some 0 ∧ s2_17.packet 0 = some x2_17 ∧ s2_17.isFenced 2 n0of8.val = false ∧
    s2_17.gears.change = none)) ∧
    (((s2_13.pipe n0of8.val).heads = [0] ∧ s2_13.isFenced 2 n0of8.val = false ∧ s2_13.packet 0 = some x2_13e ∧ s2_13.gears.change = none ∧
    s2_13.ctl.setLoads = [] ∧ s2_13.bad = [] ∧ 6 ∈ (s2_13.pipe n0of8.val).injected) ∧ (∀ (k : Nat), (s2_13.port k).digest.partner = [])) ∧
    (((s2_14.pipe n0of8.val).heads = [0] ∧ s2_14.isFenced 2 n0of8.val = false ∧ s2_14.packet 0 = some x2_14e ∧ s2_14.gears.change = none ∧
    s2_14.ctl.setLoads = [] ∧ s2_14.bad = [] ∧ ¬6 ∈ (s2_14.pipe n0of8.val).injected ∧
    (parsePacket (if x2_14e.graphBank = true then s2_14.ctl.graphB else s2_14.ctl.graphA) (if x2_14e.custBank = true then s2_14.ctl.custB else s2_14.ctl.custA) (s2_14.port x2_14e.port).cfg.extraTpid.toNat x2_14e.bytes (if x2_14e.pass = 0 then (if x2_14e.graphBank = true then s2_14.ctl.graphB else s2_14.ctl.graphA).starts.getD x2_14e.port 0 else (if x2_14e.graphBank = true then s2_14.ctl.graphB else s2_14.ctl.graphA).recircStart) s2_14.freeIx []).drop = true) ∧
    (∀ (k : Nat), (s2_14.port k).digest.partner = [])) ∧
    (((s2_15.pipe n0of8.val).heads = [0] ∧ s2_15.isFenced 2 n0of8.val = false ∧ s2_15.packet 0 = some x2_15e ∧ s2_15.gears.change = none ∧
    s2_15.ctl.setLoads = [] ∧ s2_15.bad = [] ∧ ¬6 ∈ (s2_15.pipe n0of8.val).injected ∧
    (parsePacket (if x2_15e.graphBank = true then s2_15.ctl.graphB else s2_15.ctl.graphA) (if x2_15e.custBank = true then s2_15.ctl.custB else s2_15.ctl.custA) (s2_15.port x2_15e.port).cfg.extraTpid.toNat x2_15e.bytes (if x2_15e.pass = 0 then (if x2_15e.graphBank = true then s2_15.ctl.graphB else s2_15.ctl.graphA).starts.getD x2_15e.port 0 else (if x2_15e.graphBank = true then s2_15.ctl.graphB else s2_15.ctl.graphA).recircStart) s2_15.freeIx []).drop = false ∧
    s2_15.hasMatcher = true ∧ x2_15e.patternSet ≠ 0 ∧ (s2_15.planWord x2_15e).isSome = true) ∧ (∀ (k : Nat), (s2_15.port k).digest.partner = [])) :=
  ⟨by and_intros <;> decide +kernel,
   ⟨by and_intros <;> decide +kernel, tget_all (fun p => p.digest.partner = []) s2_13.ports Port.reset (by decide +kernel) (by decide +kernel)⟩,
   ⟨by and_intros <;> decide +kernel, tget_all (fun p => p.digest.partner = []) s2_14.ports Port.reset (by decide +kernel) (by decide +kernel)⟩,
   ⟨by and_intros <;> decide +kernel, tget_all (fun p => p.digest.partner = []) s2_15.ports Port.reset (by decide +kernel) (by decide +kernel)⟩⟩

theorem test_witness_ExactMatchCommands :
    (e2_18.indirect = false ∧ Accepted s2_18 rowEmInsert m0 e2_18 allArgs ∧ s2_18.wordsQuiet = true ∧
    s2_18.emItemCheck (m0.val) EmOp.insert 16 (emItem e2_18) = none ∧ s2_18.emSearch (leAt (emItem e2_18) 0 1) (leAt (emItem e2_18) 24 48) = none ∧
    s2_18.pairCheck (widthActBits (s2_18.emWidth (leAt (emItem e2_18) 0 1))) (leAt (emItem e2_18) 8 16) none = none ∧
    s2_18.slotShareOk (descOwner (s2_18.emDesc (leAt (emItem e2_18) 0 1))) (widthSlots (s2_18.emWidth (leAt (emItem e2_18) 0 1))) = true ∧
    (trapState s2_18 rowEmInsert m0 e2_18).findPlace (leAt (emItem e2_18) 0 1) (leAt (emItem e2_18) 24 48) (widthSlots (s2_18.emWidth (leAt (emItem e2_18) 0 1))) = some (1735976, trapState s2_18 rowEmInsert m0 e2_18)) ∧
    (e2_19.indirect = false ∧ Accepted s2_19 rowEmDelete m0 e2_19 allArgs ∧ s2_19.wordsQuiet = true ∧
    s2_19.emItemCheck (m0.val) EmOp.delete 16 (emItem e2_19) = none ∧ s2_19.emSearch (leAt (emItem e2_19) 0 1) (leAt (emItem e2_19) 24 48) = some 1735976 ∧
    s2_19.entryAt 1735976 = some (eme 5) ∧ (eme 5).twin = none) ∧
    (Accepted s2_20 rowEmUpdate m0 e2_20 allArgs ∧ s2_20.wordsQuiet = true ∧ s2_20.emItemCheck (m0.val) EmOp.update 16 (emItem e2_20) = none ∧
    s2_20.emTarget (emItem e2_20) = Sum.inl 1735976 ∧ s2_20.entryAt 1735976 = some (eme 5) ∧ (eme 5).twin = none ∧
    s2_20.pairCheck (widthActBits (s2_20.emWidth (leAt (emItem e2_20) 0 1))) (leAt (emItem e2_20) 8 16) (some (StatHolder.em 1735976)) = none) ∧
    (Accepted s2_21 rowEmLookup m0 e2_21 allArgs ∧ s2_21.wordsQuiet = true ∧ s2_21.emItemCheck (m0.val) EmOp.lookup 16 (emItem e2_21) = none ∧
    s2_21.emSearch (leAt (emItem e2_21) 0 1) (leAt (emItem e2_21) 24 48) = some 1735976 ∧ s2_21.entryAt 1735976 = some (eme 5)) ∧
    (Accepted s2_22 rowEmReadIndex m0 e2_22 [(16, 0, 32), (24, 0, 2)] ∧ s2_22.wordsQuiet = true ∧ e2_22.u32 16 < 4259840 ∧
    s2_22.entryAt (e2_22.u32 16) = some (eme 5) ∧ (eme 5).twin = none ∧ (m0.val = 0 ∨ descOwner (s2_22.emDesc (eme 5).table) = m0.val - 1)) ∧
    (Accepted s2_23 rowEmReadIndex m0 e2_23 [(16, 0, 32), (24, 0, 2)] ∧ s2_23.wordsQuiet = true ∧ e2_23.u32 16 < 4259840 ∧
    s2_23.entryAt (e2_23.u32 16) = some (eme 5) ∧ (eme 5).twin = none ∧ (m0.val = 0 ∨ descOwner (s2_23.emDesc (eme 5).table) = m0.val - 1)) ∧
    (e2_24.indirect = true ∧ List.length b2_24 = e2_24.bufLen ∧ s2_24.wordsQuiet = true ∧ s2_24.fw.pace = none ∧ batchCount b2_24 233016 72 = some 1 ∧
    Accepted s2_24 rowEmInsert m0 e2_24 []) ∧
    (e2_25.indirect = true ∧ List.length b2_25 = e2_25.bufLen ∧ s2_25.wordsQuiet = true ∧ s2_25.fw.pace = none ∧ batchCount b2_25 233016 72 = some 1 ∧
    Accepted s2_25 rowEmDelete m0 e2_25 []) := by
  and_intros <;> decide +kernel

theorem test_witness_RouteAndTableSettings :
    (e2_26.indirect = false ∧ Accepted s2_26 rowLpmAdd m0 e2_26 [(16, 0, 256)] ∧ s2_26.lpmItemCheck (m0.val) true 16 e2_26.argBytes = none ∧
    s2_26.wordsQuiet = true ∧ leAt e2_26.argBytes 0 1 = 1) ∧
    (e2_27.indirect = false ∧ Accepted s2_27 rowLpmAdd m0 e2_27 [(16, 0, 256)] ∧ s2_27.lpmItemCheck (m0.val) true 16 e2_27.argBytes = none ∧
    s2_27.wordsQuiet = true ∧ leAt e2_27.argBytes 0 1 = 0 ∧ (∀ (r : Route), r ∈ s2_27.tables.routes → r.key ≠ (routeOf e2_27.argBytes).key) ∧
    s2_27.unitsUsed + routeUnits (routeOf e2_27.argBytes).v6 (routeOf e2_27.argBytes).length ≤ unitsTotal s2_27.gears.table ∧
    (s2_27.vrfOwner (routeOf e2_27.argBytes).vrf < 128 → s2_27.unitsOf (s2_27.vrfOwner (routeOf e2_27.argBytes).vrf) + routeUnits (routeOf e2_27.argBytes).v6 (routeOf e2_27.argBytes).length ≤ tget (s2_27.slice (s2_27.vrfOwner (routeOf e2_27.argBytes).vrf)).counts 0 80) ∧
    s2_27.routeStall (routeUnits (routeOf e2_27.argBytes).v6 (routeOf e2_27.argBytes).length) = false) ∧
    (e2_28.indirect = false ∧ Accepted s2_28 rowLpmAdd m0 e2_28 [(16, 0, 256)] ∧ s2_28.lpmItemCheck (m0.val) true 16 e2_28.argBytes = none ∧
    s2_28.wordsQuiet = true ∧ leAt e2_28.argBytes 0 1 = 0 ∧ (∀ (r : Route), r ∈ s2_28.tables.routes → r.key ≠ (routeOf e2_28.argBytes).key) ∧
    s2_28.unitsUsed + routeUnits (routeOf e2_28.argBytes).v6 (routeOf e2_28.argBytes).length ≤ unitsTotal s2_28.gears.table ∧
    (s2_28.vrfOwner (routeOf e2_28.argBytes).vrf < 128 → s2_28.unitsOf (s2_28.vrfOwner (routeOf e2_28.argBytes).vrf) + routeUnits (routeOf e2_28.argBytes).v6 (routeOf e2_28.argBytes).length ≤ tget (s2_28.slice (s2_28.vrfOwner (routeOf e2_28.argBytes).vrf)).counts 0 80) ∧
    s2_28.routeStall (routeUnits (routeOf e2_28.argBytes).v6 (routeOf e2_28.argBytes).length) = true) ∧
    (e2_29.indirect = false ∧ Accepted s2_29 rowLpmDelete m0 e2_29 [(16, 0, 256)] ∧ s2_29.lpmItemCheck (m0.val) false 16 e2_29.argBytes = none ∧
    s2_29.wordsQuiet = true ∧ leAt e2_29.argBytes 0 1 = 1) ∧
    (e2_30.indirect = false ∧ Accepted s2_30 rowLpmDelete m0 e2_30 [(16, 0, 256)] ∧ s2_30.lpmItemCheck (m0.val) false 16 e2_30.argBytes = none ∧
    s2_30.wordsQuiet = true ∧ leAt e2_30.argBytes 0 1 = 0 ∧ (∃ r, r ∈ s2_30.tables.routes ∧ r.key = (routeOf e2_30.argBytes).key)) ∧
    (e2_31.indirect = true ∧ List.length b2_31 = e2_31.bufLen ∧ s2_31.wordsQuiet = true ∧ s2_31.fw.pace = none ∧ batchCount b2_31 524286 32 = some 1 ∧
    Accepted s2_31 rowLpmAdd m0 e2_31 []) ∧
    (e2_32.indirect = true ∧ List.length b2_32 = e2_32.bufLen ∧ s2_32.wordsQuiet = true ∧ s2_32.fw.pace = none ∧ batchCount b2_32 524286 32 = some 1 ∧
    Accepted s2_32 rowLpmDelete m0 e2_32 []) ∧
    (Accepted s2_33 rowLearnConfig m0 e2_33 [(16, 0, 8), (17, 0, 6), (18, 0, 8), (19, 0, 8), (20, 0, 16), (22, 0, 16), (24, 0, 32), (28, 0, 32), (32, 0, 64), (40, 0, 8)] ∧
    descValid (s2_33.emDesc (e2_33.u8 16)) = true ∧ (bitAt (e2_33.u8 17) 0 = true → s2_33.emWidth (e2_33.u8 16) = 0) ∧ 1 ≤ e2_33.u8 19 ∧ e2_33.u8 19 ≤ 21 ∧
    e2_33.u16 20 + e2_33.u8 19 ≤ 1536 ∧ (e2_33.u16 22 = 65535 ∨ e2_33.u16 22 ≤ 2047 ∧ (m0.val = 0 ∨ s2_33.ownsVector (m0.val) (e2_33.u16 22) = true)) ∧
    e2_33.u64 32 % 4096 = 0 ∧ 4 ≤ e2_33.u8 40 ∧ e2_33.u8 40 ≤ 16 ∧ (m0.val = 0 ∨ descOwner (s2_33.emDesc (e2_33.u8 16)) = m0.val - 1)) ∧
    (Accepted s2_34 rowAgeingConfig m0 e2_34 [(16, 0, 8), (17, 0, 8), (18, 0, 16), (24, 0, 64)] ∧ e2_34.u8 16 = 0 ∧
    descValid (s2_34.emDesc (e2_34.u8 17)) = true ∧ e2_34.u64 24 = 0 ∧ (m0.val = 0 ∨ descOwner (s2_34.emDesc (e2_34.u8 17)) = m0.val - 1)) ∧
    (Accepted s2_35 rowAgeingConfig m0 e2_35 [(16, 0, 8), (17, 0, 8), (18, 0, 16), (24, 0, 64)] ∧ e2_35.u8 16 = 1 ∧ m0.val = 0 ∧ e2_35.u8 17 = 0 ∧
    1 ≤ e2_35.u16 18 ∧ e2_35.u16 18 ≤ 3600 ∧ e2_35.u64 24 % 2097152 = 0) ∧
    (Accepted s2_36 rowParityLogRead m0 e0 [] ∧ s2_36.te.parityLog = [{ address := 1, memory := 2, outcome := 3, time := 4 : ParityEvent }]) := by
  and_intros <;> decide +kernel

theorem test_witness_LearningAndStatistics :
    (s2_37.te.learnQ = [lr] ∧ (s2_37.tandem.role = Role.stoker ∨ s2_37.tableChange.isSome = true)) ∧
    (s2_38.te.learnQ = [lr] ∧ s2_38.tandem.role ≠ Role.stoker ∧ s2_38.tableChange = none ∧ descValid (s2_38.emDesc lr.table) = true ∧
    (s2_38.setTe { s2_38.te with learnQ := [] }).emSearch lr.table lr.key.toNat = none ∧
    (s2_38.setTe { s2_38.te with learnQ := [] }).limitReached lr.table lr.port = false ∧
    (s2_38.setTe { s2_38.te with learnQ := [] }).slotShareOk (descOwner (s2_38.emDesc lr.table)) (widthSlots (s2_38.emWidth lr.table)) = true ∧
    (s2_38.setTe { s2_38.te with learnQ := [] }).findPlace lr.table lr.key.toNat (widthSlots (s2_38.emWidth lr.table)) = some (1735976, s2_38.setTe { s2_38.te with learnQ := [] })) ∧
    (s2_39.te.learnQ = [lr] ∧ s2_39.tandem.role ≠ Role.stoker ∧ s2_39.tableChange = none ∧ descValid (s2_39.emDesc lr.table) = true ∧
    (s2_39.setTe { s2_39.te with learnQ := [] }).emSearch lr.table lr.key.toNat = some 1735976 ∧
    (s2_39.setTe { s2_39.te with learnQ := [] }).entryAt 1735976 = some x2_39 ∧ x2_39.static = true ∧ x2_39.twin = none) ∧
    (s2_40.te.stats = [{ pair := 1048575, bytes := 64, gen := none, slice := 128 : StatUpdate }] ∧
    s2_40.badWord (ChipWord.pair { pair := 1048575, bytes := 64, gen := none, slice := 128 : StatUpdate }.pair) = none ∧
    ({ pair := 1048575, bytes := 64, gen := none, slice := 128 : StatUpdate }.gen = none ∨ (s2_40.pair { pair := 1048575, bytes := 64, gen := none, slice := 128 : StatUpdate }.pair).holder.isSome = true ∧
    { pair := 1048575, bytes := 64, gen := none, slice := 128 : StatUpdate }.gen = some (s2_40.pair { pair := 1048575, bytes := 64, gen := none, slice := 128 : StatUpdate }.pair).gen)) ∧
    (s2_41.te.stats = [{ pair := 1048575, bytes := 64, gen := some 1, slice := 128 : StatUpdate }] ∧
    s2_41.badWord (ChipWord.pair { pair := 1048575, bytes := 64, gen := some 1, slice := 128 : StatUpdate }.pair) = none ∧
    { pair := 1048575, bytes := 64, gen := some 1, slice := 128 : StatUpdate }.gen.isSome = true ∧
    ((s2_41.pair { pair := 1048575, bytes := 64, gen := some 1, slice := 128 : StatUpdate }.pair).holder = none ∨ { pair := 1048575, bytes := 64, gen := some 1, slice := 128 : StatUpdate }.gen ≠ some (s2_41.pair { pair := 1048575, bytes := 64, gen := some 1, slice := 128 : StatUpdate }.pair).gen)) ∧
    (s2_42.te.stats = [{ pair := 1048575, bytes := 64, gen := none, slice := 128 : StatUpdate }] ∧
    { pair := 1048575, bytes := 64, gen := none, slice := 128 : StatUpdate }.gen = none ∧
    s2_42.badWord (ChipWord.pair { pair := 1048575, bytes := 64, gen := none, slice := 128 : StatUpdate }.pair) = some { word := ChipWord.pair 1048575, bits := 3, detail := 0, inj := false : BadWord } ∧
    2 < { word := ChipWord.pair 1048575, bits := 3, detail := 0, inj := false : BadWord }.bits) ∧
    (up.te.learnQ = []) ∧
    (up.te.stats = []) := by
  and_intros <;> decide +kernel

theorem test_witness_LongRoutines :
    (s2_45.te.running = none ∧ s2_45.te.queued = [lrt 3 0 [] none] ∧ (lrt 3 0 [] none).id ≠ 1 ∧ (lrt 3 0 [] none).id ≠ 16) ∧
    (s2_46.te.running = none ∧ s2_46.te.queued = [lrt 16 7 [] none] ∧ (lrt 16 7 [] none).id = 16) ∧
    (s2_47.te.running = none ∧ s2_47.te.queued = [lrt 1 0 [] none] ∧ (lrt 1 0 [] none).id = 1 ∧ (lrt 1 0 [] none).arg = 0 ∧ s2_47.tableChange = none) ∧
    (s2_48.te.running.isSome = true) ∧
    (s2_49.te.running = some (lrt 3 0 [] none) ∧ s2_49.wordsQuiet = true ∧ s2_49.te.learnQ = []) ∧
    (s2_50.te.running = some (lrt 3 0 [] none) ∧ s2_50.wordsQuiet = true ∧
    (∀ (o : Nat), s2_50.openObject (lrt 3 0 [] none) = some o → s2_50.learnMeets o = false)) ∧
    (s2_51.te.running = some (lrt 3 0 [] (some 1735976)) ∧ s2_51.wordsQuiet = true ∧ s2_51.openObject (lrt 3 0 [] (some 1735976)) = some 1735976 ∧
    s2_51.learnMeets 1735976 = true) ∧
    (up.te.running = none) ∧
    (s2_53.te.running = some (lrt 3 0 [] (some 4194304)) ∧ s2_53.fw.activation = none ∧ s2_53.bad = [] ∧ s2_53.te.deferred = false ∧
    (lrt 3 0 [] (some 4194304)).id = 3 ∧ (lrt 3 0 [] (some 4194304)).target = some 4194304 ∧ 4194304 ≠ (lrt 3 0 [] (some 4194304)).dest ∧
    s2_53.entryAt 4194304 = some (eme 5) ∧ s2_53.entryAt (lrt 3 0 [] (some 4194304)).dest = some (eme 5)) ∧
    (s2_54.te.running = some (lrt 1 0 [0] none) ∧ s2_54.fw.activation = none ∧ s2_54.fw.halted = false ∧ s2_54.bad = [] ∧ s2_54.te.deferred = false ∧
    (lrt 1 0 [0] none).id = 1 ∧ s2_54.tableChange = none ∧ s2_54.kthEntries (lrt 1 0 [0] none).step = [0] ∧ s2_54.entryAt 0 = some x2_54d ∧
    x2_54d.parityOk = true ∧ x2_54d.table ∈ (lrt 1 0 [0] none).tables ∧ (s2_54.entryHit 0 x2_54d = true ∨ x2_54d.static = true)) ∧
    (s2_55.te.running = some (lrt 1 0 [0] none) ∧ s2_55.fw.activation = none ∧ s2_55.fw.halted = false ∧ s2_55.bad = [] ∧ s2_55.te.deferred = false ∧
    (lrt 1 0 [0] none).id = 1 ∧ s2_55.tableChange = none ∧ s2_55.kthEntries (lrt 1 0 [0] none).step = [0] ∧ s2_55.entryAt 0 = some (eme 5) ∧
    (eme 5).parityOk = true ∧ (eme 5).table ∈ (lrt 1 0 [0] none).tables ∧ s2_55.entryHit 0 (eme 5) = false ∧ (eme 5).static = false ∧
    s2_55.tandem.role ≠ Role.stoker ∧ (eme 5).twin = none) ∧
    (up.hasRoutine 2 = false) ∧
    (0 ∈ tkeys s2_57.tables.learn ∧ (s2_57.learnCfg 0).interval ≠ 0 ∧ (s2_57.learnCfg 0).joined = false ∧
    (s2_57.learnCfg 0).lastSweep + (s2_57.learnCfg 0).interval * 1000000000 ≤ s2_57.now) ∧
    (s2_58.hasRoutine 3 = false ∧ s2_58.overflowKeys ≠ [] ∧ s2_58.te.lastCompaction + 100000000 ≤ s2_58.now) ∧
    (s2_59.te.shadowBase ≠ 0) ∧
    (up.te.shadowBase = 0) ∧
    (s2_61.te.repairs = [(4194304, 1, false)] ∧ 1 ≤ 1 ∧ s2_61.entryAt 4194304 = some (eme 5)) := by
  and_intros <;> decide +kernel

theorem test_witness_RuleEdits :
    (Accepted s2_62 rowRuleInsert m0 e2_62 [] ∧ List.length b2_62 = e2_62.bufLen ∧ batchCount b2_62 74898 224 = some 1 ∧ s2_62.fw.pace = none ∧
    s2_62.te.ruleWork = none ∧ leAt (slice b2_62 64 224) 0 1 = 0 ∧ (ruleItemOf RuleMode.insert (slice b2_62 64 224)).pipes = [7] ∧
    (ruleItemOf RuleMode.insert (slice b2_62 64 224)).atIndex = true ∧ s2_62.ruleItemStatic RuleMode.insert (slice b2_62 64 224) = none ∧
    s2_62.ruleItemUnits (m0.val) (ruleItemOf RuleMode.insert (slice b2_62 64 224)) = none ∧
    s2_62.ruleItemPlace (ruleItemOf RuleMode.insert (slice b2_62 64 224)) 7 = none ∧
    s2_62.ruleItemTaken (ruleItemOf RuleMode.insert (slice b2_62 64 224)) = none ∧
    s2_62.ruleItemShare (ruleItemOf RuleMode.insert (slice b2_62 64 224)) = none) ∧
    (Accepted s2_63 rowRuleDelete m0 e2_63 [] ∧ List.length b2_63 = e2_63.bufLen ∧ batchCount b2_63 74898 224 = some 1 ∧ s2_63.fw.pace = none ∧
    s2_63.te.ruleWork = none ∧ leAt (slice b2_63 64 224) 0 1 = 1 ∧ (ruleItemOf RuleMode.deleteIndex (slice b2_63 64 224)).pipes = [7] ∧
    s2_63.ruleItemStatic RuleMode.deleteIndex (slice b2_63 64 224) = none ∧
    s2_63.ruleItemUnits (m0.val) (ruleItemOf RuleMode.deleteIndex (slice b2_63 64 224)) = none ∧
    s2_63.rule 7 ((ruleItemOf RuleMode.deleteIndex (slice b2_63 64 224)).at 7) = some ruleE ∧
    ruleE.banks.toNat &&& (ruleItemOf RuleMode.deleteIndex (slice b2_63 64 224)).banks ≠ 0) ∧
    (Accepted s2_64 rowRuleRead m0 e2_64 [(16, 0, 17), (24, 0, 4)] ∧ e2_64.f 16 0 17 % 16384 < 12288 ∧ e2_64.f 24 0 4 ≤ 10 ∧
    e2_64.f 16 0 17 / 16384 < s2_64.pipeCount ∧ s2_64.isFenced 2 (e2_64.f 16 0 17 / 16384) = false ∧ s2_64.isFenced 3 (e2_64.f 16 0 17 / 16384) = false ∧
    s2_64.rule (e2_64.f 16 0 17 / 16384) (e2_64.f 16 0 17 % 16384) = some ruleE ∧
    (m0.val = 0 ∨ profileOwner (s2_64.currentActions.profile ruleE.profile) = m0.val - 1) ∧
    s2_64.ruleMoving (e2_64.f 16 0 17 / 16384) (e2_64.f 16 0 17 % 16384) = false) ∧
    (Accepted s2_68 rowRuleRead m0 e2_68 [(16, 0, 17), (24, 0, 4)] ∧ e2_68.f 16 0 17 % 16384 < 12288 ∧ e2_68.f 24 0 4 ≤ 10 ∧
    e2_68.f 16 0 17 / 16384 < s2_68.pipeCount ∧ s2_68.isFenced 2 (e2_68.f 16 0 17 / 16384) = false ∧ s2_68.isFenced 3 (e2_68.f 16 0 17 / 16384) = false ∧
    s2_68.rule (e2_68.f 16 0 17 / 16384) (e2_68.f 16 0 17 % 16384) = some ruleE ∧
    (m0.val = 0 ∨ profileOwner (s2_68.currentActions.profile ruleE.profile) = m0.val - 1) ∧
    s2_68.ruleMoving (e2_68.f 16 0 17 / 16384) (e2_68.f 16 0 17 % 16384) = true) ∧
    (List.length b2_69 = e2_69.bufLen ∧ s2_69.fw.pace = none ∧ s2_69.te.ruleWork = none ∧ batchCount b2_69 74898 224 = some 1 ∧
    Accepted s2_69 rowRuleInsert m0 e2_69 []) ∧
    (List.length b2_70 = e2_70.bufLen ∧ s2_70.fw.pace = none ∧ s2_70.te.ruleWork = none ∧ batchCount b2_70 74898 224 = some 1 ∧
    Accepted s2_70 rowRuleDelete m0 e2_70 []) := by
  and_intros <;> decide +kernel

theorem test_witness_ActionImageAndMatrix :
    ((Accepted s2_67 rowRecircConfig m0 e2_67 [(16, 0, 8), (17, 0, 8), (18, 0, 8), (20, 0, 32)] ∧ e2_67.u8 17 ≤ 1 ∧ 1 ≤ e2_67.u8 18 ∧ e2_67.u8 18 ≤ 8 ∧
    16 ≤ e2_67.u32 20 ∧ e2_67.u32 20 ≤ 4096 ∧ (∀ (p : Nat), p < 8 → bitAt (e2_67.u8 16) p = true → p < s2_67.pipeCount ∧ s2_67.isFenced 2 p = false))) ∧
    ((Accepted s2_65 rowActionProgramLoad m0 e2_65 [(32, 0, 8)] ∧ e2_65.bufLen = 98368 ∧ s2_65.ctl.actMb = none ∧ (s2_65.flying 3 !s2_65.ctl.actBank) = 0 ∧
    2 ≤ e2_65.f 32 0 8 ∧ s2_65.livePipes ≠ []) ∧ List.length b2_65 = e2_65.bufLen ∧ allZero (List.take 64 b2_65) = true ∧
    imageBad (s2_65.loadedDescs (e2_65.f 32 0 8) b2_65) (s2_65.currentActions.loaded (e2_65.f 32 0 8) b2_65) = none ∧
    s2_65.descsBusy (s2_65.loadedDescs (e2_65.f 32 0 8) b2_65) = false ∧ s2_65.profilesBusy (s2_65.currentActions.loaded (e2_65.f 32 0 8) b2_65) = false) ∧
    ((Accepted s2_66 rowIsolationMatrixSet m0 e2_66 [] ∧ e2_66.bufLen = 8256 ∧ s2_66.livePipes ≠ []) ∧ List.length b2_66 = e2_66.bufLen ∧
    firstFailing 0 (List.map (fun i => matrixBad (leAt b2_66 (64 * i) 64)) (List.range 129)) = none) :=
  ⟨by and_intros <;> decide +kernel,
   ⟨by and_intros <;> decide +kernel, by rw [b2_65, List.length_replicate]; decide +kernel, by rw [b2_65, List.take_replicate]; decide +kernel, by
      rw [show e2_65.f 32 0 8 = 2 by decide +kernel]
      simp only [ActionBank.loaded, State.loadedDescs, b2_65, wordsOf_zeros]
      decide +kernel, by
      rw [show e2_65.f 32 0 8 = 2 by decide +kernel]
      simp only [State.loadedDescs, b2_65, wordsOf_zeros]
      decide +kernel, by
      rw [show e2_65.f 32 0 8 = 2 by decide +kernel]
      simp only [ActionBank.loaded, b2_65, wordsOf_zeros]
      decide +kernel⟩,
   ⟨by and_intros <;> decide +kernel, by rw [b2_66, List.length_replicate]; decide +kernel, by simp only [b2_66, leAt_zeros]; decide +kernel⟩⟩

theorem test_witness_StoreSettings :
    (Accepted s3_1 rowQueueThresholdSet m0 e3_1 [(16, 0, 8), (17, 0, 8), (18, 0, 8), (20, 0, 32), (24, 0, 32), (28, 0, 8), (29, 0, 8), (30, 0, 8)] ∧
    (∀ (x : Bool × Nat), x ∈ thresholdBad e3_1 → x.fst = false) ∧ e3_1.u8 16 = 0 ∧ m0.val = 0 ∧ e3_1.u8 18 < s3_1.portCount) ∧
    (Accepted s3_2 rowQueueThresholdSet m0 e3_2 [(16, 0, 8), (17, 0, 8), (18, 0, 8), (20, 0, 32), (24, 0, 32), (28, 0, 8), (29, 0, 8), (30, 0, 8)] ∧
    (∀ (x : Bool × Nat), x ∈ thresholdBad e3_2 → x.fst = false) ∧ e3_2.u8 16 = 2 ∧ m0.val = 0) ∧
    (Accepted s3_3 rowQueueThresholdSet m0 e3_3 [(16, 0, 8), (17, 0, 8), (18, 0, 8), (20, 0, 32), (24, 0, 32), (28, 0, 8), (29, 0, 8), (30, 0, 8)] ∧
    (∀ (x : Bool × Nat), x ∈ thresholdBad e3_3 → x.fst = false) ∧ e3_3.u8 16 = 1 ∧ s3_3.ownsNode (m0.val) (nodeKey 4 (e3_3.u32 20)) = true ∧
    (e3_3.u8 29 = 255 ∨ s3_3.inShare (m0.val) 15 (e3_3.u8 29) = true) ∧ s3_3.classQueue (e3_3.u32 20) = some ClassQueue.reset) ∧
    (Accepted s3_4 rowEcnConfig m0 e3_4 [(16, 0, 8), (17, 0, 2), (20, 0, 32), (24, 0, 32), (28, 0, 8)] ∧ e3_4.u8 16 ≤ 63 ∧ e3_4.u32 20 < e3_4.u32 24 ∧
    e3_4.u8 28 ≠ 0 ∧ s3_4.inShare (m0.val) 15 (e3_4.u8 16) = true) ∧
    (Accepted s3_5 rowMcastGroupSet m0 e3_5 [(16, 0, 8), (17, 0, 8), (18, 0, 16), (20, 0, 8), (21, 0, 8), (22, 0, 8), (24, 0, 32)] ∧ m0.val = 0 ∧
    e3_5.u16 18 ≤ 16383 ∧ e3_5.u8 17 = 1 ∧ e3_5.u8 22 ≤ 7 ∧ e3_5.u8 20 < s3_5.portCount ∧ e3_5.u8 16 = 0 ∧ ¬memberOf e3_5 ∈ s3_5.group (e3_5.u16 18) ∧
    (s3_5.group (e3_5.u16 18)).length < 256 ∧ s3_5.memberCount < 262144) ∧
    (Accepted s3_6 rowMcastGroupSet m0 e3_6 [(16, 0, 8), (17, 0, 8), (18, 0, 16), (20, 0, 8), (21, 0, 8), (22, 0, 8), (24, 0, 32)] ∧ m0.val = 0 ∧
    e3_6.u16 18 ≤ 16383 ∧ e3_6.u8 17 = 1 ∧ e3_6.u8 22 ≤ 7 ∧ e3_6.u8 20 < s3_6.portCount ∧ e3_6.u8 16 = 1 ∧ memberOf e3_6 ∈ s3_6.group (e3_6.u16 18)) ∧
    (Accepted s3_7 rowMcastGroupSet m0 e3_7 [(16, 0, 8), (17, 0, 8), (18, 0, 16), (20, 0, 8), (21, 0, 8), (22, 0, 8), (24, 0, 32)] ∧ m0.val = 0 ∧
    e3_7.u16 18 ≤ 16383 ∧ e3_7.u8 16 = 2 ∧ s3_7.group (e3_7.u16 18) ≠ []) ∧
    (Accepted s3_8 rowSpillConfig m0 e3_8 [(16, 0, 32), (20, 0, 1), (24, 0, 32), (28, 0, 32)] ∧ s3_8.hasFar = true ∧ e3_8.u32 16 ≤ 1048575 ∧
    e3_8.u32 24 ≤ 65535 ∧ 16 ≤ e3_8.u32 28 ∧ e3_8.u32 28 < e3_8.u32 24 ∧ e3_8.bit 20 0 = true ∧ m0.val = 0 ∧ e3_8.u32 16 = 0) ∧
    (Accepted s3_9 rowSpillConfig m0 e3_9 [(16, 0, 32), (20, 0, 1), (24, 0, 32), (28, 0, 32)] ∧ s3_9.hasFar = true ∧ e3_9.u32 16 ≤ 1048575 ∧
    e3_9.u32 24 ≤ 65535 ∧ 16 ≤ e3_9.u32 28 ∧ e3_9.u32 28 < e3_9.u32 24 ∧ e3_9.bit 20 0 = false ∧ s3_9.ownsNode (m0.val) (nodeKey 4 (e3_9.u32 16)) = true ∧
    s3_9.classQueue (e3_9.u32 16) = some ClassQueue.reset) ∧
    (Accepted s3_10 rowStoreStatus m0 e3_10 [(32, 0, 4)] ∧ e3_10.f 32 0 4 ≤ 9 ∧ s3_10.storePresent (e3_10.f 32 0 4) = true) := by
  and_intros <;> decide +kernel

theorem test_witness_ChainAudit :
    (Accepted s3_11 rowChainAuditRun m0 e3_11 [(32, 0, 10), (34, 0, 1)] ∧ e3_11.f 32 0 10 ≠ 0 ∧
    (∀ (n : Nat), n < 10 → bitAt (e3_11.f 32 0 10) n = true → s3_11.storePresent n = true) ∧ s3_11.gears.change = none) ∧
    (s3_12.sw.audit = some { mb := 0, named := [0, 9], left := [0, 9], reclaim := true, mismatch := [] : Audit } ∧
    n9of10.val ∈ { mb := 0, named := [0, 9], left := [0, 9], reclaim := true, mismatch := [] : Audit }.left ∧ s3_12.gears.change = none ∧
    (∃ m, m ∈ { mb := 0, named := [0, 9], left := [0, 9], reclaim := true, mismatch := [] : Audit }.left ∧ m ≠ n9of10.val)) ∧
    (s3_13.sw.audit = some { mb := 0, named := [0, 9], left := [9], reclaim := false, mismatch := [] : Audit } ∧
    n9of10.val ∈ { mb := 0, named := [0, 9], left := [9], reclaim := false, mismatch := [] : Audit }.left ∧ s3_13.gears.change = none ∧
    (∀ (m : Nat), m ∈ { mb := 0, named := [0, 9], left := [9], reclaim := false, mismatch := [] : Audit }.left → m = n9of10.val) ∧
    { mb := 0, named := [0, 9], left := [9], reclaim := false, mismatch := [] : Audit }.reclaim = false) ∧
    (tget (s3_14.store n8of10.val).loans none 3 = some spl) := by
  and_intros <;> decide +kernel

theorem test_witness_CrossbarGrants :
    ((s3_15.gears.change = none ∧ (s3_15.port n127of128.val).cfg.subscriber = false ∧ (s3_15.port n127of128.val).chosen = some (1023, 4) ∧ 1023 % 8192 < 1024 ∧
    1023 % 8 = n7of8.val ∧ s3_15.frame 4 = some x3_15f ∧ x3_15f.complete = true ∧ x3_15f.corrupt = false ∧ s3_15.readsQuiet = true ∧
    (s3_15.port n127of128.val).staged < (s3_15.port n127of128.val).stagingSize ∧ x3_15f.granted < x3_15f.cells.length ∧
    x3_15f.granted + 1 < x3_15f.cells.length) ∧
    (s3_16.gears.change = none ∧ (s3_16.port n127of128.val).cfg.subscriber = false ∧
    (s3_16.port n127of128.val).chosen = some (1023, 4) ∧ 1023 % 8192 < 1024 ∧ 1023 % 8 = n7of8.val ∧ s3_16.frame 4 = some x3_16f ∧ x3_16f.complete = true ∧
    x3_16f.corrupt = false ∧ s3_16.readsQuiet = true ∧ (s3_16.port n127of128.val).staged < (s3_16.port n127of128.val).stagingSize ∧
    x3_16f.granted < x3_16f.cells.length ∧ x3_16f.granted + 1 = x3_16f.cells.length ∧ x3_16f.refs ≤ 1) ∧
    (s3_19.gears.change = none ∧
    s3_19.queueOf (qMcast n0of8.val n0of8.val) = [4] ∧ s3_19.frame 4 = some x3_19g ∧ x3_19g.dest = FrameDest.group 5 ∧ x3_19g.complete = true ∧
    x3_19g.replicated = false ∧ s3_19.readsQuiet = true ∧ s3_19.group 5 = []) ∧
    (s3_20.gears.change = none ∧
    s3_20.queueOf (qMcast n0of8.val n0of8.val) = [4] ∧ s3_20.frame 4 = some x3_20g ∧ x3_20g.dest = FrameDest.group 5 ∧ x3_20g.complete = true ∧
    x3_20g.replicated = false ∧ s3_20.readsQuiet = true ∧ s3_20.group 5 = [{ kind := 1, port := 9, member := 0, cls := 7, queue := 0 : Member }] ∧
    { kind := 1, port := 9, member := 0, cls := 7, queue := 0 : Member }.kind = 1 ∧
    s3_20.memberRefused x3_20g { kind := 1, port := 9, member := 0, cls := 7, queue := 0 : Member } = none ∧
    (s3_20.port { kind := 1, port := 9, member := 0, cls := 7, queue := 0 : Member }.port).stagingSize ≤ (s3_20.port { kind := 1, port := 9, member := 0, cls := 7, queue := 0 : Member }.port).staged ∧
    x3_20g.cells ≠ [])) ∧
    (((List.all s3_17.peloton.links fun e => e.snd.received.isEmpty) = true) ∧ (∀ (m : Nat), (s3_17.link m).received = [])) ∧
    (((List.all s3_18.peloton.links fun e => e.snd.received.isEmpty) = true) ∧ (∀ (m : Nat), (s3_18.link m).received = [])) :=
  ⟨by and_intros <;> decide +kernel,
   ⟨by decide +kernel, tget_all (fun p => p.received = []) s3_17.peloton.links FabricLink.reset (by decide +kernel) (by decide +kernel)⟩,
   ⟨by decide +kernel, tget_all (fun p => p.received = []) s3_18.peloton.links FabricLink.reset (by decide +kernel) (by decide +kernel)⟩⟩

theorem test_witness_SubscriberStage :
    (s3_21.gears.change = none ∧ (List.all s3_21.peloton.links fun e => e.snd.received.isEmpty) = true ∧ s3_21.farFits s3_21 = true ∧
    List.find? (fun i => i.done) (s3_21.intakes n0of8.val) = some x3_21c ∧ x3_21c.queues = [(3, 7)] ∧ s3_21.classQueue 7 = some ClassQueue.reset ∧
    x3_21c.frame.corrupt = false ∧ ClassQueue.reset.ecn = 255 ∧
    s3_21.placement ClassQueue.reset (s3_21.nearHas x3_21c.frame.cells.length x3_21c.frame.cells.length) = Place.near ∧
    s3_21.subscriberRefusal 3 7 ((s3_21.nodeOwner (nodeKey 4 7)).getD x3_21c.frame.slice) x3_21c.frame.cells.length (if x3_21c.frame.slice = (s3_21.nodeOwner (nodeKey 4 7)).getD x3_21c.frame.slice then x3_21c.frame.cells.length else 0) (s3_21.nearHas x3_21c.frame.cells.length x3_21c.frame.cells.length) = none) ∧
    (s3_22.gears.change = none ∧ (List.all s3_22.peloton.links fun e => e.snd.received.isEmpty) = true ∧ s3_22.farFits s3_22 = true ∧
    List.find? (fun i => i.done) (s3_22.intakes n0of8.val) = some x3_22c ∧ x3_22c.queues = [(3, 7)] ∧ s3_22.classQueue 7 = some ClassQueue.reset ∧
    x3_22c.frame.corrupt = true) ∧
    (s3_23.gears.change = none ∧ (List.all s3_23.peloton.links fun e => e.snd.received.isEmpty) = true ∧
    (s3_23.channel n23of24.val).writing = [{ block := 1, queue := 7, since := 0, loan := none : DramRequest }]) ∧
    (s3_24.gears.change = none ∧ (List.all s3_24.peloton.links fun e => e.snd.received.isEmpty) = true ∧
    (s3_24.channel n23of24.val).writing = [{ block := 1, queue := 7, since := 0, loan := some (7, 3) : DramRequest }]) ∧
    (s3_25.classQueue n7of1048576.val = some x3_25c ∧ x3_25c.refilling = none ∧ x3_25c.far ≠ [] ∧ s3_25.nearCells x3_25c ≤ x3_25c.refill ∧
    s3_25.nearHas x3_25c.refillCells 0 = true ∧ (s3_25.store 8).loanedAll Borrower.spill + x3_25c.refillCells ≤ 8192 ∧
    s3_25.farFits (s3_25.refillReads (n7of1048576.val) x3_25c) = true ∧
    Store.allocN x3_25c.refillCells (s3_25.store 8) CellState.loaned 0 = some ([0], x3_25)) ∧
    (s3_26.gears.change = none ∧ (List.any s3_26.far.channels fun c => c.snd.rt.any fun r => r.queue == n7of1048576.val) = false ∧
    s3_26.classQueue n7of1048576.val = some x3_26c ∧ x3_26c.refilling = some 3 ∧ tget (s3_26.store 8).loans none 3 = some spl ∧
    List.filter (fun x => x.refilling) x3_26c.far = [x3_26f] ∧ x3_26f.frame.corrupt = false ∧ spl.cells.length = cellsFor (List.length x3_26f.frame.bytes)) ∧
    (s3_27.gears.change = none ∧ (List.any s3_27.far.channels fun c => c.snd.rt.any fun r => r.queue == n7of1048576.val) = false ∧
    s3_27.classQueue n7of1048576.val = some x3_27c ∧ x3_27c.refilling = some 3 ∧ tget (s3_27.store 8).loans none 3 = some spl) := by
  and_intros <;> decide +kernel

theorem test_witness_NodeAndShaperCommands :
    ((Accepted s3_29 rowNodeConfig m0 e3_29 [(16, 0, 8), (17, 0, 8), (20, 0, 32), (24, 0, 32), (28, 0, 8), (29, 0, 8), (30, 0, 16)] ∧ m0.val = 0 ∧
    (∀ (x : Bool × Nat), x ∈ nodeConfigBad e3_29 → x.fst = false) ∧ e3_29.u32 20 < levelCount (e3_29.u8 17) ∧ e3_29.u8 16 = 1 ∧
    s3_29.node (nodeKey (e3_29.u8 17) (e3_29.u32 20)) = some Node.reset ∧
    (s3_29.node (nodeKey (e3_29.u8 17 - 1) (if e3_29.u8 17 = 4 then e3_29.u32 20 / 8 else e3_29.u32 24))).isSome = true ∧
    (e3_29.u8 17 = 1 → (if e3_29.u8 17 = 4 then e3_29.u32 20 / 8 else e3_29.u32 24) < s3_29.portCount) ∧
    (∃ p, s3_29.rootPort (nodeKey (e3_29.u8 17 - 1) (if e3_29.u8 17 = 4 then e3_29.u32 20 / 8 else e3_29.u32 24)) = some p ∧
    s3_29.rootPort (nodeKey (e3_29.u8 17) (e3_29.u32 20)) = some p ∧ (s3_29.port p).cfg.subscriber = true) ∧
    (e3_29.u8 17 = 1 ∨ s3_29.nodeOwner (nodeKey (e3_29.u8 17 - 1) (if e3_29.u8 17 = 4 then e3_29.u32 20 / 8 else e3_29.u32 24)) = s3_29.nodeOwner (nodeKey (e3_29.u8 17) (e3_29.u32 20)))) ∧
    (Accepted s3_30 rowNodeConfig m0 e3_30 [(16, 0, 8), (17, 0, 8), (20, 0, 32), (24, 0, 32), (28, 0, 8), (29, 0, 8), (30, 0, 16)] ∧
    m0.val = 0 ∧ (∀ (x : Bool × Nat), x ∈ nodeConfigBad e3_30 → x.fst = false) ∧ e3_30.u32 20 < levelCount (e3_30.u8 17) ∧ e3_30.u8 16 = 2 ∧
    s3_30.node (nodeKey (e3_30.u8 17) (e3_30.u32 20)) = some Node.reset ∧
    State.active 5 s3_30 (nodeKey (e3_30.u8 17) (e3_30.u32 20)) = false) ∧
    (Accepted s3_31 rowNodeConfig m0 e3_31 [(16, 0, 8), (17, 0, 8), (20, 0, 32), (24, 0, 32), (28, 0, 8), (29, 0, 8), (30, 0, 16)] ∧
    m0.val = 0 ∧ (∀ (x : Bool × Nat), x ∈ nodeConfigBad e3_31 → x.fst = false) ∧ e3_31.u32 20 < levelCount (e3_31.u8 17) ∧ e3_31.u8 16 = 3 ∧
    s3_31.node (nodeKey (e3_31.u8 17) (e3_31.u32 20)) = some Node.reset) ∧
    (Accepted s3_32 rowNodeConfig m0 e3_32 [(16, 0, 8), (17, 0, 8), (20, 0, 32), (24, 0, 32), (28, 0, 8), (29, 0, 8), (30, 0, 16)] ∧
    m0.val = 0 ∧ (∀ (x : Bool × Nat), x ∈ nodeConfigBad e3_32 → x.fst = false) ∧ e3_32.u32 20 < levelCount (e3_32.u8 17) ∧ e3_32.u8 16 = 4 ∧
    (s3_32.node (nodeKey (e3_32.u8 17) (e3_32.u32 20))).isSome = true ∧ s3_32.children (nodeKey (e3_32.u8 17) (e3_32.u32 20)) = [] ∧
    State.active 5 s3_32 (nodeKey (e3_32.u8 17) (e3_32.u32 20)) = false ∧
    (List.any s3_32.sw.groups fun g => g.snd.any fun m => m.kind == 2 && m.queue == e3_32.u32 20) = false) ∧
    (Accepted s3_33 rowShaperSet m0 e3_33 [(16, 0, 32), (20, 0, 8), (21, 0, 8), (24, 0, 32), (28, 0, 32), (32, 0, 32), (36, 0, 32)] ∧
    m0.val = 0 ∧ (∀ (y : Bool × Nat), y ∈ shaperBad e3_33 → y.fst = false) ∧ (nodeLevel (e3_33.u32 16) = 0 → nodeIndex (e3_33.u32 16) < s3_33.portCount) ∧
    s3_33.node (nodeKeyOf (e3_33.u32 16)) = some Node.reset) ∧
    (Accepted s3_34 rowWfqWeightSet m0 e3_34 [(16, 0, 32), (20, 0, 8), (22, 0, 16)] ∧
    m0.val = 0 ∧ schedNodeBad (e3_34.u32 16) [1, 2, 3, 4] = false ∧ e3_34.u8 20 ≤ 3 ∧ e3_34.u16 22 ≠ 0 ∧
    s3_34.node (nodeKeyOf (e3_34.u32 16)) = some Node.reset)) ∧
    ((Accepted s3_28 rowNodeConfig m0 e3_28 [(16, 0, 8), (17, 0, 8), (20, 0, 32), (24, 0, 32), (28, 0, 8), (29, 0, 8), (30, 0, 16)] ∧ m0.val = 0 ∧
    (∀ (x : Bool × Nat), x ∈ nodeConfigBad e3_28 → x.fst = false) ∧ e3_28.u32 20 < levelCount (e3_28.u8 17) ∧ e3_28.u8 16 = 0 ∧
    s3_28.node (nodeKey (e3_28.u8 17) (e3_28.u32 20)) = none ∧
    (s3_28.node (nodeKey (e3_28.u8 17 - 1) (if e3_28.u8 17 = 4 then e3_28.u32 20 / 8 else e3_28.u32 24))).isSome = true ∧
    (e3_28.u8 17 = 1 → (if e3_28.u8 17 = 4 then e3_28.u32 20 / 8 else e3_28.u32 24) < s3_28.portCount) ∧
    (∃ p, s3_28.rootPort (nodeKey (e3_28.u8 17 - 1) (if e3_28.u8 17 = 4 then e3_28.u32 20 / 8 else e3_28.u32 24)) = some p ∧
    (s3_28.port p).cfg.subscriber = true)) ∧
    (e3_28.u8 17 ≠ 1 → ∀ (o m : Nat), s3_28.nodeOwner (nodeKey (e3_28.u8 17 - 1) (if e3_28.u8 17 = 4 then e3_28.u32 20 / 8 else e3_28.u32 24)) = some o → s3_28.share o (e3_28.u8 17 + 5) 0 = some m → s3_28.nodesOf (e3_28.u8 17) o < m)) :=
  ⟨by and_intros <;> decide +kernel,
   ⟨by and_intros <;> decide +kernel, fun _ o m h1 h2 => by
      obtain rfl : 127 = o := Option.some.inj ((show some 127 = _ by decide +kernel).trans h1)
      obtain rfl : 5 = m := Option.some.inj ((show some 5 = _ by decide +kernel).trans h2)
      decide +kernel⟩⟩

theorem test_witness_PolicersAndClasses :
    (Accepted s3_35 rowPolicerSet m0 e3_35 [(16, 0, 32), (20, 0, 8), (21, 0, 8), (24, 0, 32), (28, 0, 32), (32, 0, 32), (36, 0, 32)] ∧
    (∀ (x : Bool × Nat), x ∈ policerBad e3_35 → x.fst = false) ∧ s3_35.inShare (m0.val) 13 (e3_35.u32 16) = true) ∧
    (Accepted s3_36 rowClassSchedSet m0 e3_36 [(16, 0, 8), (17, 0, 8), (18, 0, 8), (20, 0, 16), (24, 0, 32), (28, 0, 32)] ∧
    (∀ (x : Bool × Nat), x ∈ classSchedBad e3_36 → x.fst = false) ∧ e3_36.u8 16 < s3_36.portCount ∧ s3_36.isFenced 1 (e3_36.u8 16 / 8) = false ∧
    (s3_36.port (e3_36.u8 16)).cfg.width ≠ 0) ∧
    (Accepted s3_37 rowClassSchedSet m0 e3_37 [(16, 0, 8), (17, 0, 8), (18, 0, 8), (20, 0, 16), (24, 0, 32), (28, 0, 32)] ∧
    (∀ (x : Bool × Nat), x ∈ classSchedBad e3_37 → x.fst = false) ∧ e3_37.u8 16 < s3_37.portCount ∧ s3_37.isFenced 1 (e3_37.u8 16 / 8) = false ∧
    (s3_37.port (e3_37.u8 16)).cfg.width ≠ 0) ∧
    (Accepted s3_38 rowSchedRead m0 e3_38 [(16, 0, 32), (20, 0, 8)] ∧ s3_38.wordsQuiet = true ∧ schedNodeBad (e3_38.u32 16) [0, 1, 2, 3, 4, 7] = false ∧
    e3_38.u8 20 < partCount (nodeLevel (e3_38.u32 16)) ∧ nodeLevel (e3_38.u32 16) = 7 ∧ s3_38.inShare (m0.val) 13 (nodeIndex (e3_38.u32 16)) = true) ∧
    (Accepted s3_39 rowSchedRead m0 e3_39 [(16, 0, 32), (20, 0, 8)] ∧ s3_39.wordsQuiet = true ∧ schedNodeBad (e3_39.u32 16) [0, 1, 2, 3, 4, 7] = false ∧
    e3_39.u8 20 < partCount (nodeLevel (e3_39.u32 16)) ∧ m0.val = 0 ∧ nodeLevel (e3_39.u32 16) = 4 ∧ e3_39.u8 20 = 3 ∧
    s3_39.node (nodeKeyOf (e3_39.u32 16)) = some Node.reset) ∧
    (Accepted s3_40 rowSchedRead m0 e3_40 [(16, 0, 32), (20, 0, 8)] ∧ s3_40.wordsQuiet = true ∧ schedNodeBad (e3_40.u32 16) [0, 1, 2, 3, 4, 7] = false ∧
    e3_40.u8 20 < partCount (nodeLevel (e3_40.u32 16)) ∧ m0.val = 0 ∧ nodeLevel (e3_40.u32 16) = 4 ∧ e3_40.u8 20 = 2 ∧
    s3_40.node (nodeKeyOf (e3_40.u32 16)) = some Node.reset) ∧
    (Accepted s3_41 rowSchedRead m0 e3_41 [(16, 0, 32), (20, 0, 8)] ∧ s3_41.wordsQuiet = true ∧ schedNodeBad (e3_41.u32 16) [0, 1, 2, 3, 4, 7] = false ∧
    e3_41.u8 20 < partCount (nodeLevel (e3_41.u32 16)) ∧ m0.val = 0 ∧ 1 ≤ nodeLevel (e3_41.u32 16) ∧ nodeLevel (e3_41.u32 16) ≤ 4 ∧ e3_41.u8 20 = 1 ∧
    s3_41.node (nodeKeyOf (e3_41.u32 16)) = some Node.reset ∧
    (s3_41.refreshRoot (nodeKeyOf (e3_41.u32 16))).node (nodeKeyOf (e3_41.u32 16)) = some Node.reset) ∧
    (Accepted s3_42 rowSchedRead m0 e3_42 [(16, 0, 32), (20, 0, 8)] ∧ s3_42.wordsQuiet = true ∧ schedNodeBad (e3_42.u32 16) [0, 1, 2, 3, 4, 7] = false ∧
    e3_42.u8 20 < partCount (nodeLevel (e3_42.u32 16)) ∧ m0.val = 0 ∧ 1 ≤ nodeLevel (e3_42.u32 16) ∧ nodeLevel (e3_42.u32 16) ≤ 4 ∧ e3_42.u8 20 = 0 ∧
    s3_42.node (nodeKeyOf (e3_42.u32 16)) = some Node.reset) := by
  and_intros <;> decide +kernel

theorem test_witness_Selections :
    ((s3_43.port n127of128.val).cfg.width ≠ 0 ∧ (s3_43.port n127of128.val).cfg.subscriber = false ∧ (s3_43.port n127of128.val).chosen = none ∧
    (s3_43.refreshClasses n127of128.val).chooseClass n127of128.val = some 7 ∧
    (s3_43.refreshClasses n127of128.val).classHead (n127of128.val) 7 = some (1023, 4)) ∧
    ((s3_44.port n127of128.val).cfg.width ≠ 0 ∧ (s3_44.port n127of128.val).cfg.subscriber = false ∧ (s3_44.port n127of128.val).chosen = none ∧
    (s3_44.refreshClasses n127of128.val).chooseClass n127of128.val = none) ∧
    (((up.port n127of128.val).cfg.width = 0 ∨ (up.port n127of128.val).chosen.isSome = true)) ∧
    (s3_46.gears.change = none ∧ s3_46.wordsQuiet = true ∧ (s3_46.port n3of128.val).cfg.width ≠ 0 ∧ (s3_46.port n3of128.val).cfg.subscriber = true ∧
    (s3_46.port n3of128.val).staged < (s3_46.port n3of128.val).stagingSize ∧ (s3_46.refreshPort n3of128.val).node (nodeKey 0 n3of128.val) = some x3_46c ∧
    x3_46c.pir.positive = true ∧ (State.descend 4 (s3_46.refreshPort n3of128.val) (nodeKey 0 n3of128.val)).getLast? = some 4194311 ∧ keyLevel 4194311 = 4 ∧
    (s3_46.refreshPort n3of128.val).classQueue (keyIndex 4194311) = some x3_46f ∧ x3_46f.near.head? = some 4 ∧
    (s3_46.refreshPort n3of128.val).frame 4 = some x3_46 ∧ x3_46.corrupt = false) ∧
    (s3_47.node (nodeKey n4of5.val n7of1048576.val) = some Node.reset ∧ s3_47.rootPort (nodeKey n4of5.val n7of1048576.val) = some 3 ∧
    ((s3_47.port 3).cfg.subscriber = true ∨ n4of5.val = 0)) := by
  and_intros <;> decide +kernel

theorem test_witness_DramCommands :
    (Accepted s4_1 rowDramTrain m0 e4_1 [(16, 0, 24), (19, 0, 3), (20, 0, 16), (22, 0, 16), (24, 0, 16), (26, 0, 8), (27, 0, 8), (28, 0, 8)] ∧
    s4_1.hasFar = true ∧ e4_1.u16 20 ≤ 2000 ∧ 500 ≤ e4_1.u16 22 ∧ e4_1.u16 22 ≤ 4000 ∧ (e4_1.u16 24 = 0 ∨ 10 ≤ e4_1.u16 24 ∧ e4_1.u16 24 ≤ 3600) ∧
    1 ≤ e4_1.u8 26 ∧ e4_1.u8 26 ≤ 3 ∧ 1 ≤ e4_1.u8 27 ∧ e4_1.u8 27 ≤ 50 ∧ e4_1.u8 27 < e4_1.u8 28 ∧ e4_1.u8 28 ≤ 100 ∧ e4_1.f 16 0 24 = 0 ∧
    e4_1.bit 19 0 = true ∧ e4_1.bit 19 1 = false) ∧
    (Accepted s4_2 rowDramTrain m0 e4_2 [(16, 0, 24), (19, 0, 3), (20, 0, 16), (22, 0, 16), (24, 0, 16), (26, 0, 8), (27, 0, 8), (28, 0, 8)] ∧
    s4_2.hasFar = true ∧ e4_2.u16 20 ≤ 2000 ∧ 500 ≤ e4_2.u16 22 ∧ e4_2.u16 22 ≤ 4000 ∧ (e4_2.u16 24 = 0 ∨ 10 ≤ e4_2.u16 24 ∧ e4_2.u16 24 ≤ 3600) ∧
    1 ≤ e4_2.u8 26 ∧ e4_2.u8 26 ≤ 3 ∧ 1 ≤ e4_2.u8 27 ∧ e4_2.u8 27 ≤ 50 ∧ e4_2.u8 27 < e4_2.u8 28 ∧ e4_2.u8 28 ≤ 100 ∧ e4_2.f 16 0 24 = 2 ^ n23of24.val ∧
    e4_2.bit 19 0 = false ∧ e4_2.bit 19 1 = false ∧ (s4_2.channel n23of24.val).serves = true ∧ (s4_2.channel n23of24.val).panic = false ∧
    (s4_2.channel n23of24.val).training = none) ∧
    (Accepted s4_3 rowDramRetry m0 e4_3 [(16, 0, 5)] ∧ s4_3.hasFar = true ∧ e4_3.f 16 0 5 < 24 ∧ s4_3.retryRuns = false ∧
    (s4_3.channel (e4_3.f 16 0 5)).state = ChannelState.fenced ∧ (s4_3.channel (e4_3.f 16 0 5)).cause < 4) ∧
    (Accepted s4_4 rowDramRetry m0 e4_4 [(16, 0, 5)] ∧ s4_4.hasFar = true ∧ e4_4.f 16 0 5 < 24 ∧ s4_4.retryRuns = false ∧
    (s4_4.channel (e4_4.f 16 0 5)).serves = true ∧ (s4_4.channel (e4_4.f 16 0 5)).training = none) ∧
    (Accepted s4_5 rowDramStatus m0 e0 [] ∧ s4_5.hasFar = true) ∧
    (Accepted s4_6 rowDramCaptureSet m0 e4_6 [(16, 0, 8), (17, 0, 8), (18, 0, 8), (19, 0, 1), (20, 0, 16), (24, 0, 32)] ∧ s4_6.hasFar = true ∧ e4_6.u8 17 ≤ 7 ∧
    e4_6.u8 16 = 0 ∧ e4_6.u8 18 ≤ 15 ∧ e4_6.u16 20 % 16 = 0 ∧ 16 ≤ e4_6.u16 20 ∧ e4_6.u16 20 ≤ 4096 ∧ s4_6.claimBusy 5 0 2564 (e4_6.u8 17) = false ∧
    bitAt (tget s4_6.currentActions.sessions 0 (e4_6.u8 18)).toNat 32 = true ∧ 512 * e4_6.u16 20 ≤ s4_6.farTotal) ∧
    (Accepted s4_7 rowDramCaptureSet m0 e4_7 [(16, 0, 8), (17, 0, 8), (18, 0, 8), (19, 0, 1), (20, 0, 16), (24, 0, 32)] ∧ s4_7.hasFar = true ∧ e4_7.u8 17 ≤ 7 ∧
    e4_7.u8 16 = 1 ∧ s4_7.captureOf (e4_7.u8 17) = true) ∧
    (Accepted s4_8 rowDramCaptureSet m0 e4_8 [(16, 0, 8), (17, 0, 8), (18, 0, 8), (19, 0, 1), (20, 0, 16), (24, 0, 32)] ∧ s4_8.hasFar = true ∧ e4_8.u8 17 ≤ 7 ∧
    e4_8.u8 16 = 2 ∧ s4_8.captureOf (e4_8.u8 17) = true ∧ s4_8.far.capture = CaptureState.capturing) := by
  and_intros <;> decide +kernel

theorem test_witness_DramChannelEvents :
    ((s4_9.channel n23of24.val).state = ChannelState.inService ∧ s4_9.gears.change = none ∧
    (s4_9.channel n23of24.val).rt = [{ block := 1, queue := 7, since := 0, loan := none : DramRequest }] ∧
    ((s4_9.channel n23of24.val).panic = false ∨ (s4_9.channel n23of24.val).wr.length ≤ 192 ∨ (s4_9.channel n23of24.val).panicRun < 7)) ∧
    ((s4_10.channel n23of24.val).state = ChannelState.inService ∧ s4_10.gears.change = none ∧ (s4_10.channel n23of24.val).panic = false ∧
    (s4_10.channel n23of24.val).rt = [] ∧ (s4_10.channel n23of24.val).wr = [{ block := 1, queue := 7, since := 0, loan := none : DramRequest }] ∧
    (0 < (s4_10.channel n23of24.val).batch ∨ s4_10.batchDue n23of24.val = true)) ∧
    ((s4_11.channel n23of24.val).state = ChannelState.inService ∧ s4_11.gears.change = none ∧ (s4_11.channel n23of24.val).panic = false ∧
    (s4_11.channel n23of24.val).rt = [] ∧ (s4_11.channel n23of24.val).wr = [] ∧ (s4_11.channel n23of24.val).owed = [] ∧ s4_11.bgWork = true ∧
    s4_11.far.capture ≠ CaptureState.replaying) ∧
    ((s4_12.channel n23of24.val).state = ChannelState.inService ∧ s4_12.gears.change = none ∧ (s4_12.channel n23of24.val).panic = false ∧
    (s4_12.channel n23of24.val).owed = [(15, 8)]) ∧
    ((s4_13.channel n23of24.val).state = ChannelState.inService ∧ (s4_13.channel n23of24.val).panic = false ∧ (s4_13.channel n23of24.val).rt ≠ []) ∧
    ((s4_15.channel n23of24.val).state = ChannelState.inService ∧ ((s4_15.channel n23of24.val).readMr4 s4_15.cycles 3).mr4Moved = false) ∧
    ((s4_16.channel n23of24.val).state = ChannelState.inService ∧ ((s4_16.channel n23of24.val).readMr4 s4_16.cycles 3).mr4Moved = false) ∧
    ((s4_17.channel n23of24.val).state = ChannelState.inService ∧ ((s4_17.channel n23of24.val).readMr4 s4_17.cycles 5).mr4Moved = true ∧
    (s4_17.channel n23of24.val).panic = false ∧ (s4_17.channel n23of24.val).training = none) ∧
    ((s4_18.channel n23of24.val).state = ChannelState.inService ∧ (s4_18.channel n23of24.val).panic = false ∧ (s4_18.channel n23of24.val).rt = [] ∧
    (s4_18.batchDue n23of24.val = true ∨ 0 < (s4_18.channel n23of24.val).batch)) ∧
    ((s4_19.channel n23of24.val).serves = true) ∧
    ((s4_20.channel n23of24.val).state = ChannelState.retraining ∧ (s4_20.channel n23of24.val).training = some false ∧ s4_20.gears.change = none ∧
    { present := true, density := 1, passed := true : TrainResult }.passed = true) ∧
    ((s4_21.channel n23of24.val).state = ChannelState.retraining ∧ (s4_21.channel n23of24.val).training = some false ∧ s4_21.gears.change = none ∧
    { present := true, density := 1, passed := false : TrainResult }.passed = false ∧ (s4_21.channel n23of24.val).attempts = 2) ∧
    ((s4_22.channel n23of24.val).state = ChannelState.fenced ∧ (s4_22.channel n23of24.val).cause < 4 ∧ s4_22.far.retryS ≠ 0 ∧ s4_22.retryRuns = false) ∧
    (s4_23.hasFar = true ∧ s4_23.far.lowEn = true ∧ s4_23.farUsed * 100 < s4_23.far.lowEnter * s4_23.farTotal) ∧
    (s4_24.far.lowTraffic = true ∧ (s4_24.channel n23of24.val).state = ChannelState.inService ∧ (s4_24.channel n23of24.val).rt = [] ∧
    (s4_24.channel n23of24.val).wr = [] ∧ (s4_24.channel n23of24.val).writing = [] ∧
    (∀ (k : Nat), k ∈ tkeys s4_24.far.blocks → blockChannel k = n23of24.val → inSegment0 (s4_24.channel n23of24.val).density (k % 1048576) = true)) ∧
    ((s4_25.channel n23of24.val).state = ChannelState.selfRefresh) := by
  and_intros <;> decide +kernel

theorem test_witness_RegionAndDumpEvents :
    (s4_26.far.capture = CaptureState.reserving ∧ s4_26.regionComplete = true) ∧
    (s4_27.far.capture = CaptureState.replaying ∧ s4_27.far.replayLeft = [] ∧ s4_27.replayWaiting = []) ∧
    (s4_28.bell.dumpOn = true ∧ s4_28.bell.dumpState = DumpState.off ∧ s4_28.far.use = RegionUse.dump ∧ s4_28.regionComplete = true) ∧
    (s4_29.bell.dumpState = DumpState.writing) ∧
    (s4_30.bell.dumpState = DumpState.done) := by
  and_intros <;> decide +kernel

theorem test_witness_SliceCommands :
    (Accepted s4_31 rowSliceCreate m0 e4_31 [(16, 0, 8), (17, 0, 1), (20, 0, 20)] ∧ e4_31.u8 16 ≤ 127 ∧ (s4_31.slice (e4_31.u8 16)).state = SliceState.none ∧
    tget s4_31.matrix MatrixRow.zero (e4_31.u8 16) = MatrixRow.zero) ∧
    (Accepted s4_32 rowSliceCreate m0 e4_32 [(16, 0, 8), (17, 0, 1), (20, 0, 20)] ∧ e4_32.u8 16 ≤ 127 ∧ (s4_32.slice (e4_32.u8 16)).state = SliceState.none ∧
    tget s4_32.matrix MatrixRow.zero (e4_32.u8 16) ≠ MatrixRow.zero ∧ s4_32.livePipes ≠ []) ∧
    (Accepted s4_33 rowSliceResize m0 e4_33 [(16, 0, 8), (17, 0, 8), (18, 0, 8), (20, 0, 32), (24, 0, 32), (32, 0, 128)] ∧
    (∀ (x : Bool × Nat), x ∈ resizeBad e4_33 → x.fst = false) ∧ (perPipe (e4_33.u8 17) = true → e4_33.u8 18 = 255 ∨ e4_33.u8 18 < s4_33.pipeCount) ∧
    e4_33.f 32 0 128 < 2 ^ s4_33.portCount ∧ (s4_33.slice (e4_33.u8 16)).state ≠ SliceState.none ∧ s4_33.poolBroken e4_33 = false ∧
    (begun s4_33 rowSliceResize m0 e4_33).leftOut e4_33 = none) ∧
    (Accepted s4_34 rowSliceDestroy m0 e4_34 [(16, 0, 8)] ∧ sliceTimeBad e4_34 = false ∧ e4_34.u8 16 ≤ 127 ∧
    (s4_34.slice (e4_34.u8 16)).state = SliceState.active ∧ s4_34.sliceHolds (e4_34.u8 16) = none) ∧
    (Accepted s4_35 rowSliceReset m0 e4_35 [(16, 0, 8)] ∧ sliceTimeBad e4_35 = false ∧ e4_35.u8 16 ≤ 127 ∧ (m0.val = 0 ∨ e4_35.u8 16 = m0.val - 1) ∧
    (s4_35.slice (e4_35.u8 16)).state = SliceState.active) ∧
    ((s4_36.slice n127of128.val).waiting = some (0, 0) ∧ s4_36.oldReads n127of128.val = false ∧ (s4_36.slice n127of128.val).state = SliceState.resetting) ∧
    ((s4_37.slice n127of128.val).waiting = some (0, 0) ∧ s4_37.oldReads n127of128.val = false ∧ (s4_37.slice n127of128.val).state = SliceState.closing ∧
    (s4_37.mbox (n127of128.val + 1)).inExec = none ∧ (s4_37.switching fun x => x == Switch.matrix) = false) ∧
    (Accepted s4_38 rowSliceStatus m0 e4_38 [(16, 0, 8), (17, 0, 8), (18, 0, 16)] ∧ (m0.val = 0 ∨ e4_38.u8 16 = m0.val - 1) ∧ e4_38.u8 17 = 0 ∧
    e4_38.u16 18 = 0 ∧ e4_38.u8 16 ≤ 127 ∧ (s4_38.slice (e4_38.u8 16)).state ≠ SliceState.none) ∧
    (Accepted s4_39 rowSliceStatus m0 e4_39 [(16, 0, 8), (17, 0, 8), (18, 0, 16)] ∧ (m0.val = 0 ∨ e4_39.u8 16 = m0.val - 1) ∧ e4_39.u8 17 = 4 ∧
    e4_39.u8 16 ≤ 128 ∧ (e4_39.u8 16 = 128 ∨ (s4_39.slice (e4_39.u8 16)).state ≠ SliceState.none) ∧ s4_39.globalRing (e4_39.u8 16) (e4_39.u16 18) = some 255) := by
  and_intros <;> decide +kernel

theorem test_witness_RingsAndVectors :
    (Accepted s4_40 rowRingPairSet m0 e4_40 [(16, 0, 16), (18, 0, 8), (19, 0, 2), (20, 0, 8), (22, 0, 16), (24, 0, 64), (32, 0, 64), (40, 0, 32), (44, 0, 32), (48, 0, 32), (52, 0, 32)] ∧
    (∀ (x : Bool × Nat), x ∈ ringPairBad e4_40 → x.fst = false) ∧ s4_40.mboxRing (m0.val) (e4_40.u16 16) = some 255 ∧ e4_40.u8 18 = 0 ∧
    ((s4_40.ring 255).named e4_40 fun x => x != RunState.disabled) = false) ∧
    (Accepted s4_41 rowRingPairSet m0 e4_41 [(16, 0, 16), (18, 0, 8), (19, 0, 2), (20, 0, 8), (22, 0, 16), (24, 0, 64), (32, 0, 64), (40, 0, 32), (44, 0, 32), (48, 0, 32), (52, 0, 32)] ∧
    (∀ (x : Bool × Nat), x ∈ ringPairBad e4_41 → x.fst = false) ∧ s4_41.mboxRing (m0.val) (e4_41.u16 16) = some 255 ∧ e4_41.u8 18 = 1 ∧
    ((s4_41.ring 255).named e4_41 fun x => x != RunState.disabled) = false ∧ (s4_41.ring 255).rx.writing = none) ∧
    (Accepted s4_42 rowRingPairSet m0 e4_42 [(16, 0, 16), (18, 0, 8), (19, 0, 2), (20, 0, 8), (22, 0, 16), (24, 0, 64), (32, 0, 64), (40, 0, 32), (44, 0, 32), (48, 0, 32), (52, 0, 32)] ∧
    (∀ (x : Bool × Nat), x ∈ ringPairBad e4_42 → x.fst = false) ∧ s4_42.mboxRing (m0.val) (e4_42.u16 16) = some 255 ∧ e4_42.u8 18 = 1 ∧
    ((s4_42.ring 255).named e4_42 fun x => x != RunState.disabled) = true) ∧
    (Accepted s4_43 rowRingPairSet m0 e4_43 [(16, 0, 16), (18, 0, 8), (19, 0, 2), (20, 0, 8), (22, 0, 16), (24, 0, 64), (32, 0, 64), (40, 0, 32), (44, 0, 32), (48, 0, 32), (52, 0, 32)] ∧
    (∀ (x : Bool × Nat), x ∈ ringPairBad e4_43 → x.fst = false) ∧ s4_43.mboxRing (m0.val) (e4_43.u16 16) = some 255 ∧ e4_43.u8 18 = 1 ∧
    ((s4_43.ring 255).named e4_43 fun x => x != RunState.disabled) = true) ∧
    (Accepted s4_44 rowVectorMapSet m0 e4_44 [(16, 0, 8), (18, 0, 16), (20, 0, 16), (22, 0, 16)] ∧ 1 ≤ e4_44.u8 16 ∧ e4_44.u8 16 ≤ 12 ∧
    (m0.val = 0 → objectBad (m0.val) (e4_44.u8 16) (e4_44.u16 18) = false) ∧ (e4_44.u16 20 ≠ 65535 → s4_44.ownsVector (m0.val) (e4_44.u16 20) = true) ∧
    e4_44.u16 22 ≤ 1000 ∧ (e4_44.u8 16 = 4 ∨ e4_44.u8 16 = 9 → e4_44.u16 18 < s4_44.portCount) ∧ (e4_44.u8 16 = 8 → s4_44.blockPresent (e4_44.u16 18) = true) ∧
    s4_44.mayMap (m0.val) (e4_44.u8 16) (e4_44.u16 18) = true) ∧
    (Accepted s4_45 rowVectorMapSet m0 e4_45 [(16, 0, 8), (18, 0, 16), (20, 0, 16), (22, 0, 16)] ∧ 1 ≤ e4_45.u8 16 ∧ e4_45.u8 16 ≤ 12 ∧
    (m0.val = 0 → objectBad (m0.val) (e4_45.u8 16) (e4_45.u16 18) = false) ∧ (e4_45.u16 20 ≠ 65535 → s4_45.ownsVector (m0.val) (e4_45.u16 20) = true) ∧
    e4_45.u16 22 ≤ 1000 ∧ (e4_45.u8 16 = 4 ∨ e4_45.u8 16 = 9 → e4_45.u16 18 < s4_45.portCount) ∧ (e4_45.u8 16 = 8 → s4_45.blockPresent (e4_45.u16 18) = true) ∧
    s4_45.mayMap (m0.val) (e4_45.u8 16) (e4_45.u16 18) = true) ∧
    ((s4_46.ring n255of4096.val).tx.state = RunState.running ∧ (64 - (s4_46.ring n255of4096.val).tx.done).toNat ≤ 2 ^ (s4_46.ring n255of4096.val).tx.log2) ∧
    ((s4_47.ring n255of4096.val).tx.state = RunState.running ∧ 2 ^ (s4_47.ring n255of4096.val).tx.log2 < (65 - (s4_47.ring n255of4096.val).tx.done).toNat) ∧
    ((up.ring n4095of4096.val).tx.state ≠ RunState.running) ∧
    ((s4_49.ring n255of4096.val).rx.state = RunState.running ∧ (64 - (s4_49.ring n255of4096.val).rx.head).toNat ≤ 2 ^ (s4_49.ring n255of4096.val).rx.log2) ∧
    ((s4_50.ring n255of4096.val).rx.state = RunState.running ∧ 2 ^ (s4_50.ring n255of4096.val).rx.log2 < (65 - (s4_50.ring n255of4096.val).rx.head).toNat) ∧
    ((up.ring n4095of4096.val).rx.state ≠ RunState.running) ∧
    ((s4_52.ring n255of4096.val).rx.state = RunState.stopping ∧ (s4_52.ring n255of4096.val).rx.fetching = none) ∧
    ((s4_53.ring n255of4096.val).tx.state = RunState.stopping ∧ (s4_53.ring n255of4096.val).tx.work = TxWork.idle) ∧
    ((tget up.host.vectors Vector.reset n2047of2048.val).merged = none) ∧
    ((tget s4_55.host.vectors Vector.reset n2047of2048.val).merged = some none) ∧
    ((tget s4_56.host.vectors Vector.reset n2047of2048.val).merged = some (some (127, 4)) ∧ 4 = (s4_56.slice 127).gen) ∧
    ((tget s4_57.host.vectors Vector.reset n2047of2048.val).merged = some (some (127, 3)) ∧ 3 ≠ (s4_57.slice 127).gen ∧ 127 < 128) := by
  and_intros <;> decide +kernel

theorem test_witness_HostFrames :
    (s4_58.sw.hostQueue = [4] ∧ s4_58.frame 4 = some x4_58e ∧ s4_58.far.replayLeft = [] ∧ s4_58.gears.change = none ∧ s4_58.readsQuiet = true ∧
    s4_58.rxWriter 4 = none ∧ x4_58e.was = none ∧ s4_58.globalRing x4_58e.slice x4_58e.destQueue = some 259 ∧ (s4_58.ring 259).rx.state = RunState.running ∧
    ((s4_58.ring 259).rx.bucket.refill s4_58.now).positive = true ∧ (s4_58.ring 259).rx.bufUnits ≠ 0 ∧ (s4_58.ring 259).rx.tail ≠ (s4_58.ring 259).rx.head ∧
    max 1 (ceilDiv (List.length x4_58e.bytes) ((s4_58.ring 259).rx.bufUnits * 64)) ≤ (s4_58.ring 259).rx.posted.length ∧
    max 1 (ceilDiv (List.length x4_58e.bytes) ((s4_58.ring 259).rx.bufUnits * 64)) ≤ 512) ∧
    (s4_59.sw.hostQueue = [4] ∧ s4_59.frame 4 = some x4_59e ∧ s4_59.far.replayLeft = [] ∧ s4_59.gears.change = none ∧ s4_59.readsQuiet = true ∧
    s4_59.rxWriter 4 = none ∧ x4_59e.was = none ∧ s4_59.globalRing x4_59e.slice x4_59e.destQueue = some 259 ∧ (s4_59.ring 259).rx.state = RunState.running ∧
    ((s4_59.ring 259).rx.bucket.refill s4_59.now).positive = true ∧ (s4_59.ring 259).rx.tail = (s4_59.ring 259).rx.head) ∧
    (s4_60.sw.hostQueue = [4] ∧ s4_60.frame 4 = some x4_60e ∧ s4_60.far.replayLeft = [] ∧ s4_60.gears.change = none ∧ s4_60.readsQuiet = true ∧
    s4_60.rxWriter 4 = none ∧ x4_60e.was = none ∧ s4_60.globalRing x4_60e.slice x4_60e.destQueue = some 259 ∧ (s4_60.ring 259).rx.state = RunState.running ∧
    ((s4_60.ring 259).rx.bucket.refill s4_60.now).positive = false) ∧
    (s4_61.sw.hostQueue = [4] ∧ s4_61.frame 4 = some x4_61 ∧ s4_61.far.replayLeft = [] ∧ s4_61.gears.change = none ∧ s4_61.readsQuiet = true ∧
    s4_61.rxWriter 4 = none ∧ x4_61.was = none ∧ x4_61.slice < 128 ∧
    (∀ (g : Nat), s4_61.globalRing x4_61.slice x4_61.destQueue = some g → (s4_61.ring g).rx.state ≠ RunState.running)) ∧
    ((s4_62.ring n259of4096.val).rx.state = RunState.running ∧ (s4_62.ring n259of4096.val).rx.fetching = some (1, 4) ∧
    (s4_62.ring n259of4096.val).rx.writing = none ∧ 4 = s4_62.ringGen n259of4096.val) ∧
    ((s4_63.ring n259of4096.val).rx.state = RunState.running ∧ (s4_63.ring n259of4096.val).rx.fetching = some (1, 3) ∧
    (s4_63.ring n259of4096.val).rx.writing = none ∧ 3 ≠ s4_63.ringGen n259of4096.val ∧ s4_63.ringSlice n259of4096.val = some 127 ∧ 127 < 128) ∧
    (s4_64.txTurnOf = some n259of4096.val) ∧
    (s4_65.txTurnOf ≠ some n258of4096.val) ∧
    ((s4_66.ring n255of4096.val).tx.state = RunState.running ∧ (s4_66.ring n255of4096.val).tx.work = TxWork.fetching (s4_66.ringGen n255of4096.val) ∧
    s4_66.gears.change = none ∧
    txFrameDescs (List.map txDescOf (List.take ((s4_66.ring n255of4096.val).tx.tail - (s4_66.ring n255of4096.val).tx.head).toNat [dscW 3])) = some [dscOf 1 3] ∧
    s4_66.rowFault (pipeOf (s4_66.txStatus ((s4_66.ringSlice n255of4096.val).getD 128) [dscOf 1 3] []).snd) ((s4_66.ringSlice n255of4096.val).getD 128) 1 = (false, s4_66) ∧
    (s4_66.txStatus ((s4_66.ringSlice n255of4096.val).getD 128) [dscOf 1 3] []).fst = 0 ∧
    (s4_66.store (pipeOf (s4_66.txStatus ((s4_66.ringSlice n255of4096.val).getD 128) [dscOf 1 3] []).snd)).loanedAll Borrower.host + cellsFor (max 60 (txLength [dscOf 1 3])) ≤ 2048 ∧
    cellsFor (max 60 (txLength [dscOf 1 3])) ≤ s4_66.admissionCells (pipeOf (s4_66.txStatus ((s4_66.ringSlice n255of4096.val).getD 128) [dscOf 1 3] []).snd) ∧
    Store.allocN (cellsFor (max 60 (txLength [dscOf 1 3]))) (s4_66.store (pipeOf (s4_66.txStatus ((s4_66.ringSlice n255of4096.val).getD 128) [dscOf 1 3] []).snd)) CellState.loaned (s4_66.store (pipeOf (s4_66.txStatus ((s4_66.ringSlice n255of4096.val).getD 128) [dscOf 1 3] []).snd)).nextLoan = some ([0], let __src := cell0; { total := __src.total, chain := __src.chain, fresh := 1, limit := __src.limit, free := 40959, queued := __src.queued, loaned := 1, withheld := __src.withheld, links := [(0, let __src := Link.free; { state := CellState.loaned, owner := __src.owner, ownerGen := __src.ownerGen, mark := __src.mark : Link })], gens := __src.gens, loans := __src.loans, nextLoan := __src.nextLoan, mismatch := __src.mismatch, leaked := __src.leaked, overdue := __src.overdue, lastCycle := __src.lastCycle : Store })) ∧
    ((s4_67.ring n255of4096.val).tx.state = RunState.running ∧ (s4_67.ring n255of4096.val).tx.work = TxWork.fetching (s4_67.ringGen n255of4096.val) ∧
    s4_67.gears.change = none ∧
    txFrameDescs (List.map txDescOf (List.take ((s4_67.ring n255of4096.val).tx.tail - (s4_67.ring n255of4096.val).tx.head).toNat [dscW 127])) = some [dscOf 1 127] ∧
    s4_67.rowFault (pipeOf (s4_67.txStatus ((s4_67.ringSlice n255of4096.val).getD 128) [dscOf 1 127] []).snd) ((s4_67.ringSlice n255of4096.val).getD 128) 1 = (false, s4_67) ∧
    (s4_67.txStatus ((s4_67.ringSlice n255of4096.val).getD 128) [dscOf 1 127] []).fst ≠ 0) ∧
    (s4_69.gears.change = none ∧ (s4_69.ring n259of4096.val).rx.state = RunState.running ∧
    (s4_69.ring n259of4096.val).rx.fetching = some (1, s4_69.ringGen n259of4096.val)) ∧
    (s4_70.gears.change = none ∧ (s4_70.ring n259of4096.val).tx.state = RunState.running ∧
    (s4_70.ring n259of4096.val).tx.work = TxWork.fetching (s4_70.ringGen n259of4096.val)) ∧
    (s4_71.gears.change = none) ∧
    ((∀ (mb : Fin 129), DmaWrite.shadow ≠ DmaWrite.indirect mb) ∧ up.gears.change = none) ∧
    ((∀ (mb : Fin 129), DmaWrite.rxBuffer 255 ≠ DmaWrite.indirect mb) ∧ s4_73.gears.change = none) ∧
    ((s4_74.mbox m0.val).inExec = some x4_74d ∧ x4_74d.batch = none ∧ opRow? x4_74d.opcode.toNat = some rowPatchStage ∧ x4_74d.entry.indirect = true) := by
  and_intros <;> decide +kernel

theorem test_witness_TimeIsSetSteppedAndSlewed :
    (Accepted s5_1 rowTimeSet m0 e5_1 [(16, 0, 48), (24, 0, 32)] ∧ e5_1.u32 24 ≤ 999999999 ∧ s5_1.liveIslands ≠ []) ∧
    (Accepted s5_2 rowTimeAdjust m0 e5_2 [(16, 0, 3), (18, 0, 16), (20, 0, 32), (24, 0, 64)] ∧ (∀ (x : Bool × Nat), x ∈ s5_2.adjustBad e5_2 → x.fst = false) ∧
    e5_2.bit 16 1 = false ∧ e5_2.bit 16 2 = false) ∧
    (Accepted s5_3 rowTimeAdjust m0 e5_3 [(16, 0, 3), (18, 0, 16), (20, 0, 32), (24, 0, 64)] ∧ (∀ (x : Bool × Nat), x ∈ s5_3.adjustBad e5_3 → x.fst = false) ∧
    e5_3.bit 16 1 = true ∧ e5_3.bit 16 2 = false) ∧
    (Accepted s5_4 rowTimeAdjust m0 e5_4 [(16, 0, 3), (18, 0, 16), (20, 0, 32), (24, 0, 64)] ∧ (∀ (x : Bool × Nat), x ∈ s5_4.adjustBad e5_4 → x.fst = false) ∧
    e5_4.bit 16 2 = true ∧ s5_4.liveIslands ≠ []) ∧
    ((List.filter (fun x => x != n32of33.val) s5_5.cad.stepPending).any s5_5.islandLive = true) ∧
    ((List.filter (fun x => x != n32of33.val) s5_6.cad.stepPending).any s5_6.islandLive = false) ∧
    (s5_7.cad.slew = some { negative := true, ppm := 1, remaining := 5 : Slew }) ∧
    (up.gears.change = none ∧ up.tandem.role ≠ Role.stoker ∧ up.tandem.mustApply = false ∧ up.running = true) ∧
    (State.reset.gears.change = none ∧ State.reset.tandem.role ≠ Role.stoker ∧ State.reset.tandem.mustApply = false ∧ State.reset.running = false) := by
  and_intros <;> decide +kernel

theorem test_witness_CadenceOutputs :
    (Accepted s5_10 rowPpsOutSet m0 e5_10 [(16, 0, 1), (20, 0, 32), (24, 0, 32)] ∧ e5_10.bit 16 0 = true ∧ 1 ≤ e5_10.u32 20 ∧ e5_10.u32 20 ≤ 500000 ∧
    (signed 32 (e5_10.u32 24)).natAbs < 500000000) ∧
    (Accepted s5_11 rowPpsOutSet m0 e0 [(16, 0, 1), (20, 0, 32), (24, 0, 32)] ∧ e0.bit 16 0 = false) ∧
    (s5_12.cad.pps.enable = true ∧ s5_12.cad.pps.stepped = false) ∧
    (Accepted s5_13 rowSynceOutSet m0 e5_13 [(16, 0, 8), (17, 0, 8), (18, 0, 8), (19, 0, 8)] ∧ e5_13.u8 16 ≤ 1 ∧ e5_13.u8 17 = 1 ∧
    e5_13.u8 18 < s5_13.portCount ∧ e5_13.u8 18 ≤ 127 ∧ s5_13.isFenced 1 (spokeOf (e5_13.u8 18)) = false ∧ e5_13.u8 19 ≤ 7 ∧
    s5_13.claimBusy 3 (e5_13.u8 16) 3082 (e5_13.u8 18) = false ∧ (s5_13.port (e5_13.u8 18)).cfg.width ≠ 0 ∧
    e5_13.u8 19 < (s5_13.port (e5_13.u8 18)).cfg.width) ∧
    (Accepted s5_14 rowSynceOutSet m0 e5_14 [(16, 0, 8), (17, 0, 8), (18, 0, 8), (19, 0, 8)] ∧ e5_14.u8 16 ≤ 1 ∧ e5_14.u8 17 = 0) ∧
    ((s5_15.synceOut n1of2.val).enable = true ∧ s5_15.synceOk (s5_15.synceOut n1of2.val) = true) ∧
    (Accepted s5_16 rowGpioSet m0 e5_16 [(16, 0, 8), (17, 0, 8), (18, 0, 8), (19, 0, 2)] ∧ e5_16.u8 16 ≤ 31 ∧ e5_16.u8 17 ≤ 3 ∧ e5_16.u8 18 ≤ 1 ∧
    s5_16.claimBusy 1 (e5_16.u8 16) 3084 (e5_16.u8 16) = false) ∧
    (Accepted s5_17 rowGpioSet m0 e5_17 [(16, 0, 8), (17, 0, 8), (18, 0, 8), (19, 0, 2)] ∧ e5_17.u8 16 ≤ 31 ∧ e5_17.u8 17 ≤ 3 ∧ e5_17.u8 18 ≤ 1 ∧
    s5_17.claimBusy 1 (e5_17.u8 16) 3084 (e5_17.u8 16) = false) := by
  and_intros <;> decide +kernel

theorem test_witness_SnapshotsProbesAndSamples :
    (s5_20.cmdReady (m0.val) rowCounterSnapshot.op e5_20 = true ∧ (∀ (x : Bool × Nat), x ∈ snapshotBad e5_20 → x.fst = false) ∧
    formCheck rowCounterSnapshot s5_20 (m0.val) e5_20 (snapshotFields e5_20) [] (decide (e5_20.u8 40 = 1) || decide (e5_20.u8 40 = 2)) = none ∧
    e5_20.u8 40 = 0 ∧ (some b0).isSome = true ∧ s5_20.wordsQuiet = true ∧ s5_20.inShare (m0.val) 12 (e5_20.u32 32) = true ∧
    s5_20.inShare (m0.val) 12 (e5_20.u32 32 + e5_20.u32 36 - 1) = true) ∧
    (s5_21.cmdReady (m0.val) rowCounterSnapshot.op e5_21 = true ∧ (∀ (x : Bool × Nat), x ∈ snapshotBad e5_21 → x.fst = false) ∧
    formCheck rowCounterSnapshot s5_21 (m0.val) e5_21 (snapshotFields e5_21) [] (decide (e5_21.u8 40 = 1) || decide (e5_21.u8 40 = 2)) = none ∧
    e5_21.u8 40 = 1 ∧ s5_21.claim 2 (e5_21.u8 42) = none) ∧
    (s5_22.cmdReady (m0.val) rowCounterSnapshot.op e5_22 = true ∧ (∀ (x : Bool × Nat), x ∈ snapshotBad e5_22 → x.fst = false) ∧
    formCheck rowCounterSnapshot s5_22 (m0.val) e5_22 (snapshotFields e5_22) [] (decide (e5_22.u8 40 = 1) || decide (e5_22.u8 40 = 2)) = none ∧
    e5_22.u8 40 = 2 ∧ (s5_22.snapshotOn (e5_22.u8 42)).isSome = true) ∧
    (s5_23.cmdReady (m0.val) rowCounterSnapshot.op e5_23 = true ∧ (∀ (x : Bool × Nat), x ∈ snapshotBad e5_23 → x.fst = false) ∧
    formCheck rowCounterSnapshot s5_23 (m0.val) e5_23 (snapshotFields e5_23) [] (decide (e5_23.u8 40 = 1) || decide (e5_23.u8 40 = 2)) = none ∧
    e5_23.u8 40 = 3) ∧
    (s5_24.snapshotOn n15of16.val = some psnap ∧ psnap.running = none) ∧
    (s5_25.snapshotOn n15of16.val = some x5_25c ∧ x5_25c.running ≠ none) ∧
    (s5_26.snapshotOn n15of16.val = some x5_26c ∧ x5_26c.running ≠ none) ∧
    (s5_27.cmdReady (m0.val) rowProbeSet.op e5_27 = true ∧ (∀ (x : Bool × Nat), x ∈ probeBad e5_27 → x.fst = false) ∧
    formCheck rowProbeSet s5_27 (m0.val) e5_27 [(16, 0, 8), (17, 0, 8), (18, 0, 16), (20, 0, 32), (24, 0, 8), (25, 0, 8), (26, 0, 8), (28, 0, 32), (32, 0, 32), (36, 0, 32)] [] (decide (e5_27.u8 16 = 0) || decide (e5_27.u8 16 = 3)) = none ∧
    s5_27.probeDenied (m0.val) e5_27 = none ∧ e5_27.u8 16 = 0 ∧ s5_27.claimBusy 2 (e5_27.u8 17) 3075 (e5_27.u8 17) = false) ∧
    (s5_28.cmdReady (m0.val) rowProbeSet.op e5_28 = true ∧ (∀ (x : Bool × Nat), x ∈ probeBad e5_28 → x.fst = false) ∧
    formCheck rowProbeSet s5_28 (m0.val) e5_28 [(16, 0, 8), (17, 0, 8), (18, 0, 16), (20, 0, 32), (24, 0, 8), (25, 0, 8), (26, 0, 8), (28, 0, 32), (32, 0, 32), (36, 0, 32)] [] (decide (e5_28.u8 16 = 0) || decide (e5_28.u8 16 = 3)) = none ∧
    s5_28.probeDenied (m0.val) e5_28 = none ∧ e5_28.u8 16 = 1 ∧ (e5_28.u8 24 = 2 → e5_28.u8 26 < s5_28.portCount ∧
    s5_28.isFenced 1 (spokeOf (e5_28.u8 26)) = false) ∧ s5_28.scheduled (e5_28.u8 17) = true ∧ s5_28.targetExists (targetOf e5_28) = true ∧
    (∀ (p : Nat × Probe), p ∈ tsome s5_28.cad.probes → p.snd.target = targetOf e5_28 → p.fst = e5_28.u32 20) ∧
    (m0.val ≠ 0 → s5_28.probesOf (m0.val) (e5_28.u32 20) < tget (s5_28.slice (m0.val - 1)).counts 0 144)) ∧
    (s5_29.cmdReady (m0.val) rowProbeSet.op e5_29 = true ∧ (∀ (x : Bool × Nat), x ∈ probeBad e5_29 → x.fst = false) ∧
    formCheck rowProbeSet s5_29 (m0.val) e5_29 [(16, 0, 8), (17, 0, 8), (18, 0, 16), (20, 0, 32), (24, 0, 8), (25, 0, 8), (26, 0, 8), (28, 0, 32), (32, 0, 32), (36, 0, 32)] [] (decide (e5_29.u8 16 = 0) || decide (e5_29.u8 16 = 3)) = none ∧
    s5_29.probeDenied (m0.val) e5_29 = none ∧ e5_29.u8 16 = 2 ∧ (s5_29.probe (e5_29.u32 20)).isSome = true) ∧
    (s5_30.cmdReady (m0.val) rowProbeSet.op e5_30 = true ∧ (∀ (x : Bool × Nat), x ∈ probeBad e5_30 → x.fst = false) ∧
    formCheck rowProbeSet s5_30 (m0.val) e5_30 [(16, 0, 8), (17, 0, 8), (18, 0, 16), (20, 0, 32), (24, 0, 8), (25, 0, 8), (26, 0, 8), (28, 0, 32), (32, 0, 32), (36, 0, 32)] [] (decide (e5_30.u8 16 = 0) || decide (e5_30.u8 16 = 3)) = none ∧
    s5_30.probeDenied (m0.val) e5_30 = none ∧ e5_30.u8 16 = 3 ∧ s5_30.scheduled (e5_30.u8 17) = true ∧
    (∀ (p : Nat × Probe), p ∈ tsome s5_30.cad.probes → p.snd.timer ≠ e5_30.u8 17)) ∧
    (Accepted s5_31 rowProbeRead m0 e5_31 [(16, 0, 32), (20, 0, 8)] ∧ e5_31.u32 16 ≤ 65535 ∧ e5_31.u8 20 = 0 ∧ s5_31.probe (e5_31.u32 16) = some prb ∧
    prb.mbox = m0.val) ∧
    (s5_32.scheduled n15of16.val = true ∧ List.filter (fun q => q.snd.timer == n15of16.val) (tsome s5_32.cad.probes) = [(65535, prb)]) ∧
    (Accepted s5_33 rowPerfSelect m0 e5_33 [(16, 0, 8), (17, 0, 8), (18, 0, 16)] ∧ e5_33.u8 17 ≤ 15 ∧ e5_33.u8 16 = 0 ∧ e5_33.u16 18 ≠ 0 ∧
    s5_33.claim 2 (e5_33.u8 17) = none) ∧
    (Accepted s5_34 rowPerfSelect m0 e5_34 [(16, 0, 8), (17, 0, 8), (18, 0, 16)] ∧ e5_34.u8 17 ≤ 15 ∧ e5_34.u8 16 = 1 ∧ s5_34.perfTimer (e5_34.u8 17) = true) ∧
    (((tsome s5_35.cad.timers).any fun t => t.snd.use == TimerUse.perf) = true) := by
  and_intros <;> decide +kernel

theorem test_witness_LinesAndModules :
    (Accepted s6_1 rowLineChannelSet m0 e6_1 [(16, 0, 8), (17, 0, 8), (18, 0, 8), (19, 0, 8), (20, 0, 16), (22, 0, 16), (24, 0, 16), (26, 0, 16), (28, 0, 16), (30, 0, 16), (32, 0, 16), (34, 0, 16), (36, 0, 8)] ∧
    (∀ (x : Bool × Nat), x ∈ lineBad e6_1 → x.fst = false) ∧ (e6_1.u8 19 ≠ 255 → s6_1.claimBusy 1 (e6_1.u8 19) 3079 (e6_1.u8 16) = false)) ∧
    (Accepted s6_2 rowLineChannelSet m0 e6_2 [(16, 0, 8), (17, 0, 8), (18, 0, 8), (19, 0, 8), (20, 0, 16), (22, 0, 16), (24, 0, 16), (26, 0, 16), (28, 0, 16), (30, 0, 16), (32, 0, 16), (34, 0, 16), (36, 0, 8)] ∧
    (∀ (x : Bool × Nat), x ∈ lineBad e6_2 → x.fst = false) ∧ (e6_2.u8 19 ≠ 255 → s6_2.claimBusy 1 (e6_2.u8 19) 3079 (e6_2.u8 16) = false)) ∧
    (Accepted s6_3 rowLineChannelStatus m0 e6_3 [(16, 0, 8)] ∧ e6_3.u8 16 ≤ 31) ∧
    (up.armedAt 5 n3of4.val = none) ∧
    (up.armedAt 5 n3of4.val = none) ∧
    ((s6_6.line n31of32.val).set.alarmGpio ≠ 255) ∧
    ((s6_7.line n31of32.val).enablePending = true ∧ (s6_7.line n31of32.val).held = false) ∧
    ((s6_9.line n31of32.val).state = LineState.tripped) ∧
    ((s6_10.line n31of32.val).enabled = true) ∧
    (Accepted s6_11 rowModuleAccess m0 e6_11 [(16, 0, 8), (17, 0, 8), (18, 0, 8), (19, 0, 8), (20, 0, 8), (21, 0, 8), (22, 0, 8), (23, 0, 8), (24, 0, 1), (32, 0, 256)] ∧
    (∀ (x : Bool × Nat), x ∈ moduleBad e6_11 → x.fst = false) ∧ e6_11.u8 17 < s6_11.spokes ∧ e6_11.u8 16 = 2) ∧
    (Accepted s6_12 rowModuleAccess m0 e6_12 [(16, 0, 8), (17, 0, 8), (18, 0, 8), (19, 0, 8), (20, 0, 8), (21, 0, 8), (22, 0, 8), (23, 0, 8), (24, 0, 1), (32, 0, 256)] ∧
    (∀ (x : Bool × Nat), x ∈ moduleBad e6_12 → x.fst = false) ∧ e6_12.u8 17 < s6_12.spokes ∧ e6_12.u8 16 ≤ 1 ∧
    (s6_12.moduleBus (e6_12.u8 17)).present.getLsbD (e6_12.u8 18) = true) := by
  and_intros <;> decide +kernel

theorem test_witness_FaultCommands :
    (Accepted s6_13 rowFaultStatusRead m0 e0 [(16, 0, 8), (18, 0, 16)] ∧ e0.u8 16 = 0 ∧ e0.u16 18 = 0) ∧
    (Accepted s6_14 rowFaultStatusRead m0 e6_14 [(16, 0, 8), (18, 0, 16)] ∧ e6_14.u8 16 = 1 ∧ e6_14.u16 18 ≤ 52 ∧ s6_14.blockPresent (e6_14.u16 18) = true) ∧
    (Accepted s6_15 rowUnitFence m0 e6_15 [(16, 0, 8), (17, 0, 8)] ∧ 1 ≤ e6_15.u8 16 ∧ e6_15.u8 16 ≤ 6 ∧ e6_15.u8 17 < unitCount (e6_15.u8 16) ∧
    s6_15.unitPresent (e6_15.u8 16) (e6_15.u8 17) = true ∧ s6_15.isFenced (e6_15.u8 16) (e6_15.u8 17) = false) ∧
    (Accepted s6_16 rowUnitUnfence m0 e6_16 [(16, 0, 8), (17, 0, 8)] ∧ 1 ≤ e6_16.u8 16 ∧ e6_16.u8 16 ≤ 6 ∧ e6_16.u8 17 < unitCount (e6_16.u8 16) ∧
    s6_16.unitPresent (e6_16.u8 16) (e6_16.u8 17) = true ∧ s6_16.isFenced (e6_16.u8 16) (e6_16.u8 17) = false) ∧
    (Accepted s6_17 rowUnitUnfence m0 e6_17 [(16, 0, 8), (17, 0, 8)] ∧ 1 ≤ e6_17.u8 16 ∧ e6_17.u8 16 ≤ 6 ∧ e6_17.u8 17 < unitCount (e6_17.u8 16) ∧
    s6_17.unitPresent (e6_17.u8 16) (e6_17.u8 17) = true ∧ s6_17.isFenced (e6_17.u8 16) (e6_17.u8 17) = true ∧ true = true ∧
    s6_17.causeHolds (e6_17.u8 16) (e6_17.u8 17) = false ∧ (e6_17.u8 16 = 3 ∨ e6_17.u8 16 = 4 → s6_17.isFenced 2 (e6_17.u8 17) = false) ∧
    (e6_17.u8 16 = 1 ∨ e6_17.u8 16 = 4 ∨ e6_17.u8 16 = 5)) ∧
    (Accepted s6_18 rowUnitUnfence m0 e6_18 [(16, 0, 8), (17, 0, 8)] ∧ 1 ≤ e6_18.u8 16 ∧ e6_18.u8 16 ≤ 6 ∧ e6_18.u8 17 < unitCount (e6_18.u8 16) ∧
    s6_18.unitPresent (e6_18.u8 16) (e6_18.u8 17) = true ∧ s6_18.isFenced (e6_18.u8 16) (e6_18.u8 17) = true ∧ true = true ∧
    s6_18.causeHolds (e6_18.u8 16) (e6_18.u8 17) = false ∧ (e6_18.u8 16 = 3 ∨ e6_18.u8 16 = 4 → s6_18.isFenced 2 (e6_18.u8 17) = false) ∧
    (e6_18.u8 16 = 2 ∨ e6_18.u8 16 = 3)) ∧
    (Accepted s6_19 rowUnitUnfence m0 e6_19 [(16, 0, 8), (17, 0, 8)] ∧ 1 ≤ e6_19.u8 16 ∧ e6_19.u8 16 ≤ 6 ∧ e6_19.u8 17 < unitCount (e6_19.u8 16) ∧
    s6_19.unitPresent (e6_19.u8 16) (e6_19.u8 17) = true ∧ s6_19.isFenced (e6_19.u8 16) (e6_19.u8 17) = true ∧ true = true ∧
    s6_19.causeHolds (e6_19.u8 16) (e6_19.u8 17) = false ∧ (e6_19.u8 16 = 3 ∨ e6_19.u8 16 = 4 → s6_19.isFenced 2 (e6_19.u8 17) = false) ∧ e6_19.u8 16 = 6) ∧
    (Accepted s6_20 rowFaultInject m0 e6_20 [(16, 0, 8), (17, 0, 8), (18, 0, 8), (19, 0, 8), (24, 0, 64)] ∧ 1 ≤ e6_20.u8 16 ∧ e6_20.u8 16 ≤ 5 ∧
    (e6_20.u8 16 = 1 → 1 ≤ e6_20.u8 17 ∧ e6_20.u8 17 ≤ 3 ∧ e6_20.u8 19 ≤ 15 ∧ e6_20.u64 24 < 2 ^ 28) ∧ e6_20.u8 18 ≤ 52 ∧
    (e6_20.u8 16 = 2 → parityBlock (e6_20.u8 18) (e6_20.u8 19) = true ∧ s6_20.parityAddress (e6_20.u8 19) (e6_20.u64 24) = true) ∧
    (e6_20.u8 16 = 4 → e6_20.u64 24 ≤ 1) ∧ (e6_20.u8 16 = 5 → e6_20.u64 24 ≤ 3) ∧ s6_20.blockPresent (e6_20.u8 18) = true ∧
    (e6_20.u8 16 = 3 ∨ e6_20.u8 16 = 4 → s6_20.bell.hostStop = true ∨ (s6_20.block 0).fatalOk = true) ∧
    tget (s6_20.block (e6_20.u8 18)).armed none (e6_20.u8 16) = none) ∧
    (Accepted s6_21 rowFaultInject m0 e6_21 [(16, 0, 8), (17, 0, 8), (18, 0, 8), (19, 0, 8), (24, 0, 64)] ∧ 1 ≤ e6_21.u8 16 ∧ e6_21.u8 16 ≤ 5 ∧
    (e6_21.u8 16 = 1 → 1 ≤ e6_21.u8 17 ∧ e6_21.u8 17 ≤ 3 ∧ e6_21.u8 19 ≤ 15 ∧ e6_21.u64 24 < 2 ^ 28) ∧ e6_21.u8 18 ≤ 52 ∧
    (e6_21.u8 16 = 2 → parityBlock (e6_21.u8 18) (e6_21.u8 19) = true ∧ s6_21.parityAddress (e6_21.u8 19) (e6_21.u64 24) = true) ∧
    (e6_21.u8 16 = 4 → e6_21.u64 24 ≤ 1) ∧ (e6_21.u8 16 = 5 → e6_21.u64 24 ≤ 3) ∧ s6_21.blockPresent (e6_21.u8 18) = true ∧
    (e6_21.u8 16 = 3 ∨ e6_21.u8 16 = 4 → s6_21.bell.hostStop = true ∨ (s6_21.block 0).fatalOk = true) ∧
    tget (s6_21.block (e6_21.u8 18)).armed none (e6_21.u8 16) = none) ∧
    (Accepted s6_22 rowFaultInject m0 e6_22 [(16, 0, 8), (17, 0, 8), (18, 0, 8), (19, 0, 8), (24, 0, 64)] ∧ 1 ≤ e6_22.u8 16 ∧ e6_22.u8 16 ≤ 5 ∧
    (e6_22.u8 16 = 1 → 1 ≤ e6_22.u8 17 ∧ e6_22.u8 17 ≤ 3 ∧ e6_22.u8 19 ≤ 15 ∧ e6_22.u64 24 < 2 ^ 28) ∧ e6_22.u8 18 ≤ 52 ∧
    (e6_22.u8 16 = 2 → parityBlock (e6_22.u8 18) (e6_22.u8 19) = true ∧ s6_22.parityAddress (e6_22.u8 19) (e6_22.u64 24) = true) ∧
    (e6_22.u8 16 = 4 → e6_22.u64 24 ≤ 1) ∧ (e6_22.u8 16 = 5 → e6_22.u64 24 ≤ 3) ∧ s6_22.blockPresent (e6_22.u8 18) = true ∧
    (e6_22.u8 16 = 3 ∨ e6_22.u8 16 = 4 → s6_22.bell.hostStop = true ∨ (s6_22.block 0).fatalOk = true) ∧
    tget (s6_22.block (e6_22.u8 18)).armed none (e6_22.u8 16) = none) ∧
    (Accepted s6_23 rowBellConfig m0 e6_23 [(16, 0, 16), (18, 0, 8)] ∧ (e6_23.u16 16 = 0 ∨ 100 ≤ e6_23.u16 16 ∧ e6_23.u16 16 ≤ 10000) ∧
    (s6_23.paired = true → e6_23.u16 16 = 0 ∨ e6_23.u16 16 = 10000) ∧ e6_23.u8 18 = 0) ∧
    (Accepted s6_24 rowBellConfig m0 e6_24 [(16, 0, 16), (18, 0, 8)] ∧ (e6_24.u16 16 = 0 ∨ 100 ≤ e6_24.u16 16 ∧ e6_24.u16 16 ≤ 10000) ∧
    (s6_24.paired = true → e6_24.u16 16 = 0 ∨ e6_24.u16 16 = 10000) ∧ e6_24.u8 18 = 1 ∧ s6_24.hasFar = true ∧ s6_24.claimBusy 5 0 3333 0 = false ∧
    s6_24.bell.dumpOn = false ∧ 4096 ≤ s6_24.farTotal) ∧
    (Accepted s6_25 rowBellConfig m0 e6_25 [(16, 0, 16), (18, 0, 8)] ∧ (e6_25.u16 16 = 0 ∨ 100 ≤ e6_25.u16 16 ∧ e6_25.u16 16 ≤ 10000) ∧
    (s6_25.paired = true → e6_25.u16 16 = 0 ∨ e6_25.u16 16 = 10000) ∧ e6_25.u8 18 = 2) ∧
    (Accepted s6_26 rowWearRead m0 e0 [(16, 0, 8), (17, 0, 8)] ∧ e0.u8 17 ≤ 63 ∧ e0.u8 16 = 0) ∧
    (Accepted s6_27 rowWearRead m0 e6_27 [(16, 0, 8), (17, 0, 8)] ∧ e6_27.u8 17 ≤ 63 ∧ e6_27.u8 16 = 1) := by
  and_intros <;> decide +kernel

theorem test_witness_ClearingInjectionAndMonitors :
    (s6_28.blockPresent n52of53.val = true) ∧
    (up.blockPresent n52of53.val = true ∧ (264#64).getLsbD 63 = false) ∧
    (up.blockPresent n52of53.val = true ∧ codeDefined (bitsAt (9223372036854775840#64).toNat 0 6) = true ∧
    (severity (n52of53.val) (bitsAt (9223372036854775840#64).toNat 0 6) = 2 → (9223372036854775840#64).getLsbD 8 = true) ∧
    (9223372036854775840#64).getLsbD 63 = true) ∧
    ((9223372036854775841#64).getLsbD 63 = true ∧
    (codeDefined (bitsAt (9223372036854775841#64).toNat 0 6) = false ∨ severity (n52of53.val) (bitsAt (9223372036854775841#64).toNat 0 6) = 2 ∧
    (9223372036854775841#64).getLsbD 8 = false)) ∧
    (s6_32.bellCause = 0 ∧ true = true) ∧
    (false = false) ∧
    (s6_34.beatHeld = none ∧ s6_34.bell.started = true ∧ hasCode (s6_34.block 0).causes 10 = false) ∧
    (up.beatHeld = none ∧ up.bell.started = false) ∧
    (up.beatHeld = none ∧ up.fw.halted = false ∧ hasCode (up.block 1).causes 11 = false ∧ up.readsQuiet = true) ∧
    (up.blockPresent n25of53.val = true ∧ up.blockFenced n25of53.val = false) ∧
    (up.blockPresent n17of53.val = true ∧ up.blockFenced n17of53.val = false) ∧
    (hasCode (up.block 0).causes 14 = false) ∧
    (up.blockPresent (spokeBlock n15of16.val) = true ∧ up.gears.change = none) ∧
    (hasCode (up.block 0).causes 28 = false) ∧
    (hasCode (up.block 0).causes 29 = false) ∧
    ((s6_47.mbox m0.val).inExec = some { opcode := 258, entry := e0, buf := none, startNs := 0, missed := false, batch := none : InExec } ∧
    opRow? { opcode := 258, entry := e0, buf := none, startNs := 0, missed := false, batch := none : InExec }.opcode.toNat = some rowNop ∧
    rowNop.classOf { opcode := 258, entry := e0, buf := none, startNs := 0, missed := false, batch := none : InExec }.entry ≠ TimeClass.c ∧
    hasCode (s6_47.block 1).causes 11 = false) ∧
    ((s6_48.mbox m0.val).inExec = some { opcode := 1793, entry := entBuf 320 [], buf := none, startNs := 0, missed := false, batch := some (1, [[]]) : InExec } ∧
    opRow? { opcode := 1793, entry := entBuf 320 [], buf := none, startNs := 0, missed := false, batch := some (1, [[]]) : InExec }.opcode.toNat = some rowRuleInsert ∧
    rowRuleInsert.classOf { opcode := 1793, entry := entBuf 320 [], buf := none, startNs := 0, missed := false, batch := some (1, [[]]) : InExec }.entry = TimeClass.c ∧
    { opcode := 1793, entry := entBuf 320 [], buf := none, startNs := 0, missed := false, batch := some (1, [[]]) : InExec }.batch = some (1, [[]])) ∧
    ((s6_49.mbox m0.val).inExec = some { opcode := 3587, entry := e0, buf := none, startNs := 0, missed := false, batch := none : InExec } ∧
    opRow? { opcode := 3587, entry := e0, buf := none, startNs := 0, missed := false, batch := none : InExec }.opcode.toNat = some rowRoleHandover ∧
    rowRoleHandover.classOf { opcode := 3587, entry := e0, buf := none, startNs := 0, missed := false, batch := none : InExec }.entry = TimeClass.c ∧
    { opcode := 3587, entry := e0, buf := none, startNs := 0, missed := false, batch := none : InExec }.batch = none) := by
  and_intros <;> decide +kernel

theorem test_witness_RegisterAccesses :
    (up.blockPresent n52of53.val = true) ∧
    (up.blockPresent n52of53.val = true ∧ (up.block n52of53.val).chained n7of8.val = false) ∧
    (n8of10.val ≠ 9 ∧ up.storePresent n8of10.val = true) ∧
    (up.hasFar = true) ∧
    (State.reset.gears.change = none ∧ (State.reset.running = false ∨ State.reset.host.linkUp = false)) ∧
    (up.gears.change = none ∧ up.running = true ∧ up.host.linkUp = true ∧ false = false ∧ 1120 = 1120#24 ∧ up.bell.dumpState ≠ DumpState.done) ∧
    (s6_57.gears.change = none ∧ s6_57.running = true ∧ s6_57.host.linkUp = true ∧ false = false ∧ 1320 = 1320#24) ∧
    (up.gears.change = none ∧ up.running = true ∧ up.host.linkUp = true ∧ false = false ∧ 12272 = BitVec.ofNat 24 (8192 + 16 * n255of256.val)) ∧
    (up.gears.change = none ∧ up.running = true ∧ up.host.linkUp = true ∧ false = false ∧ 16 = 16#24 ∧ RegWidth.full = RegWidth.full) ∧
    (up.gears.change = none ∧ up.running = true ∧ up.host.linkUp = true ∧ false = false ∧ 1088 = 1088#24) := by
  and_intros <;> decide +kernel

theorem test_witness_TandemCommands :
    (Accepted s7_1 rowTandemConfig m0 e0 [(16, 0, 8), (17, 0, 2)] ∧ s7_1.hasTandem = true ∧ e0.u8 16 = 0 ∧ s7_1.tandem.role = Role.standalone) ∧
    (Accepted s7_2 rowTandemConfig m0 e0 [(16, 0, 8), (17, 0, 2)] ∧ s7_2.hasTandem = true ∧ e0.u8 16 = 0 ∧ s7_2.tandem.role ≠ Role.standalone) ∧
    (Accepted s7_3 rowTandemConfig m0 e7_3 [(16, 0, 8), (17, 0, 2)] ∧ s7_3.hasTandem = true ∧ e7_3.u8 16 = 1 ∧ s7_3.tandem.role = Role.standalone ∧
    s7_3.tandem.raised = false ∧ (s7_3.tandem.gatesOpen = true → s7_3.gateCondition = true)) ∧
    (Accepted s7_4 rowTandemConfig m0 e7_4 [(16, 0, 8), (17, 0, 2)] ∧ s7_4.hasTandem = true ∧ e7_4.u8 16 = 2 ∧ e7_4.f 17 0 2 = 0 ∧
    s7_4.tandem.role = Role.standalone ∧ s7_4.tandem.linkUp = true ∧ s7_4.partner = some (clm 8 1 1) ∧ claimRole (clm 8 1 1) = 1) ∧
    (Accepted s7_5 rowTandemConfig m0 e7_5 [(16, 0, 8), (17, 0, 2)] ∧ s7_5.hasTandem = true ∧ e7_5.u8 16 = 3 ∧ s7_5.tandem.role ≠ Role.standalone) ∧
    (Accepted s7_6 rowRoleHandover m0 e0 [] ∧ s7_6.hasTandem = true ∧ s7_6.tandem.role = Role.stoker ∧ s7_6.tandem.gatesOpen = false) ∧
    (Accepted s7_7 rowRoleHandover m0 e0 [] ∧ s7_7.hasTandem = true ∧ s7_7.tandem.role = Role.captain ∧ s7_7.partner = some (clm 8 2 1) ∧
    claimEligible (clm 8 2 1) = true) ∧
    (Accepted s7_8 rowClaimRankSet m0 e7_8 [(16, 0, 6)] ∧ s7_8.hasTandem = true ∧ e7_8.f 16 0 6 ≠ 0 ∧ e7_8.f 16 0 6 ≠ 63) ∧
    (Accepted s7_9 rowPelotonConfig m0 e7_9 [(16, 0, 8), (17, 0, 8)] ∧ e7_9.u8 16 ≤ 1 ∧ e7_9.u8 17 ≤ 1 ∧ (e7_9.u8 17 = 1 → s7_9.hasTandem = true)) ∧
    (Accepted s7_10 rowTandemStatus m0 e0 [(16, 0, 8), (18, 0, 16)] ∧ e0.u8 16 = 0 ∧ e0.u16 18 = 0) ∧
    (Accepted s7_11 rowTandemStatus m0 e7_11 [(16, 0, 8), (18, 0, 16)] ∧ e7_11.u8 16 = 1 ∧ e7_11.u16 18 ≤ 128) ∧
    (Accepted s7_12 rowFabricStatus m0 e7_12 [(16, 0, 8)] ∧ e7_12.u8 16 ≤ 2) ∧
    (Accepted s7_13 rowDigestRead m0 e7_13 [(16, 0, 8), (17, 0, 8)] ∧ e7_13.u8 16 < s7_13.portCount ∧ e7_13.u8 16 ≤ 127 ∧
    (s7_13.port (e7_13.u8 16)).digest.compared = some { number := 1, mismatch := true, digest := 3, partner := 4, settled := 5, partnerSettled := 6 : Compared } ∧
    e7_13.u8 17 = 0) ∧
    (Accepted s7_14 rowDigestRead m0 e7_14 [(16, 0, 8), (17, 0, 8)] ∧ e7_14.u8 16 < s7_14.portCount ∧ e7_14.u8 16 ≤ 127 ∧
    (s7_14.port (e7_14.u8 16)).digest.compared = some { number := 1, mismatch := true, digest := 3, partner := 4, settled := 5, partnerSettled := 6 : Compared } ∧
    e7_14.u8 17 = 1) := by
  and_intros <;> decide +kernel

theorem test_witness_TandemEvents :
    ((ClaimPath.pins = ClaimPath.link → up.tandem.linkUp = true) ∧ claimGood 0 = false) ∧
    ((ClaimPath.pins = ClaimPath.link → up.tandem.linkUp = true) ∧ claimGood (clm 8 1 1) = true ∧ (up.path ClaimPath.pins).last ≠ some (clm 8 1 1)) ∧
    ((ClaimPath.link = ClaimPath.link → s7_17.tandem.linkUp = true) ∧ claimGood (clm 8 1 1) = true ∧ (s7_17.path ClaimPath.link).last = some (clm 8 1 1)) ∧
    ((ClaimPath.link = ClaimPath.link → s7_18.tandem.linkUp = true) ∧ claimGood (clm 8 1 5) = true ∧ (s7_18.path ClaimPath.link).last = some (clm 8 1 5)) ∧
    (s7_22.hasTandem = true ∧ s7_22.tandem.linkUp = true) ∧
    (up.hasTandem = true ∧ up.boot.failed.contains { kind := 7, index := 0 : UnitRef } = false) ∧
    (s7_24.hasTandem = true ∧ s7_24.tandem.linkUp = false ∧ s7_24.tandem.role = Role.stoker) ∧
    (s7_25.tandem.role = Role.stoker ∧ s7_25.tandem.sync = SyncState.syncing) ∧
    (s7_26.tandem.role = Role.stoker ∧ s7_26.tandem.sync = SyncState.synced ∧ x7_26b.epoch ≠ s7_26.tandem.epoch) ∧
    (s7_27.tandem.role = Role.stoker ∧ s7_27.tandem.sync = SyncState.synced ∧ rec1.epoch = s7_27.tandem.epoch ∧
    rec1.seq = (match s7_27.tandem.records.getLast? with | some x => x.seq | none => s7_27.tandem.journalSeq) + 1 ∧ s7_27.tandem.records.length < 100) ∧
    (s7_28.tandem.role = Role.stoker ∧ s7_28.tandem.sync = SyncState.synced ∧ x7_28b.epoch ≠ s7_28.tandem.epoch) ∧
    (s7_29.tandem.role = Role.stoker ∧ s7_29.tandem.sync = SyncState.synced ∧ mir1.epoch = s7_29.tandem.epoch ∧ mir1.serial = s7_29.tandem.serialIn + 1) ∧
    (4 ≠ s7_30.tandem.epoch) ∧
    (5 = s7_31.tandem.epoch ∧ s7_31.tandem.role = Role.stoker ∧ s7_31.tandem.gatesOpen = false) ∧
    (s7_32.tandem.role = Role.stoker ∧ s7_32.tandem.sync = SyncState.syncing ∧ s7_32.tandem.linkUp = true ∧ s7_32.tandem.loading = none ∧
    s7_32.tandem.records = [] ∧ s7_32.tandem.mirrors = [] ∧ snap0.commands = [] ∧ snap0.learned = []) ∧
    ({ epoch := 4, seq := 1 : AppliedReport }.epoch ≠ s7_33.tandem.epoch) ∧
    (s7_34.tandem.role = Role.captain ∧ s7_34.tandem.handover = some { epoch := 5, seq := 1 : AppliedReport }.seq ∧
    { epoch := 5, seq := 1 : AppliedReport }.epoch = s7_34.tandem.epoch) ∧
    (s7_35.tandem.role = Role.captain ∧ s7_35.fw.halted = false) ∧
    ({ epoch := 1, frame := 0 : SealFrame }.epoch ≠ up.tandem.epoch) ∧
    (s7_37.paired = true ∧ s7_37.tandem.role = Role.stoker ∧ serialAfter 32 (1#32).toNat (s7_37.port n127of128.val).digest.last.toNat = true) ∧
    (s7_38.paired = true ∧ (s7_38.port n127of128.val).digest.current.covers (1#32).toNat = true) ∧
    (x7_39.epoch ≠ s7_39.tandem.epoch) ∧
    ((blk 1).epoch = s7_40.tandem.epoch ∧ s7_40.paired = true ∧ (s7_40.port ↑(blk 1).port).digest.closed = []) ∧
    ((blk 1).epoch = s7_41.tandem.epoch ∧ s7_41.paired = true ∧ (s7_41.port ↑(blk 1).port).digest.closed = [cst 1] ∧
    (s7_41.port ↑(blk 1).port).digest.partner = [] ∧ (cst 1).number = (blk 1).number ∧ s7_41.blockOpen (↑(blk 1).port) (cst 1) = false ∧
    s7_41.blockSkip (cst 1) (blk 1) = false ∧ (cst 1).digest = (blk 1).digest ∧ (cst 1).settled = (blk 1).settled) ∧
    ((s7_42.port n127of128.val).digest.closed = [cst 1]) ∧
    ({ epoch := 4, port := 127, codes := [] : RefereeCodes }.epoch ≠ up.tandem.epoch) ∧
    ({ epoch := 0, port := 127, codes := [] : RefereeCodes }.epoch = up.tandem.epoch ∧
    (up.paired = false ∨ (up.port ↑{ epoch := 0, port := 127, codes := [] : RefereeCodes }.port).digest.run < 2)) ∧
    ({ epoch := 5, port := 127, codes := [] : RefereeCodes }.epoch = s7_45.tandem.epoch ∧ s7_45.tandem.role = Role.captain ∧
    2 ≤ (s7_45.port ↑{ epoch := 5, port := 127, codes := [] : RefereeCodes }.port).digest.run) := by
  and_intros <;> decide +kernel

theorem test_witness_FabricEvents :
    (s7_46.peloton.joined = true ∧ s7_46.boot.failed.contains { kind := 8, index := n2of3.val : UnitRef } = false ∧ s7_46.gears.change = none) ∧
    (((s7_47.link n2of3.val).state = FabricState.up ∨ (s7_47.link n2of3.val).state = FabricState.mismatch) ∧ s7_47.gears.change = none) ∧
    (s7_48.gears.change = none) ∧
    ((s7_49.link n2of3.val).state = FabricState.up ∧ (s7_49.link n2of3.val).lanesUp.getLsbD n7of8.val = true ∧ s7_49.gears.change = none) ∧
    ((s7_50.link n2of3.val).state = FabricState.up ∧ (s7_50.link n2of3.val).lanesUp.getLsbD n7of8.val = true ∧ s7_50.gears.change = none) ∧
    ((s7_51.link n2of3.val).state = FabricState.up ∧ (s7_51.link n2of3.val).spares ≠ 0) ∧
    ((up.link n2of3.val).state ≠ FabricState.up) ∧
    ((s7_53.link n2of3.val).state = FabricState.up ∧ ffr.corrupt = false ∧ s7_53.readsQuiet = true ∧
    (s7_53.fabricRow ffr.slice.val).dest.getLsbD ffr.port.val = false) ∧
    ((s7_54.link n2of3.val).state = FabricState.up ∧ ffr.corrupt = false ∧ s7_54.readsQuiet = true ∧ ffr.stomp = false ∧
    (s7_54.fabricRow ffr.slice.val).dest.getLsbD ffr.port.val = true ∧ (s7_54.link n2of3.val).received = [] ∧ s7_54.portOpen ffr.port.val = true ∧
    (s7_54.port ffr.port.val).cfg.subscriber = false ∧ List.length ffr.bytes + 4 ≤ (s7_54.port ffr.port.val).cfg.limit ffr.bytes ∧
    (s7_54.port ffr.port.val).staged + cellsFor (List.length ffr.bytes) ≤ (s7_54.port ffr.port.val).stagingSize) := by
  and_intros <;> decide +kernel

theorem test_witness_SwapCountNamesTheBank :
    (s7_55.swap.mb = some 0 ∧ (s7_55.switching fun x => x == Switch.ruleBank) = false) ∧
    ((up.swap.mb = none ∨ (up.switching fun x => x == Switch.ruleBank) = true)) ∧
    (s7_57.swap.count = 65535 ∧ up.swap.count = s7_57.swap.count + 1) := by
  and_intros <;> decide +kernel

theorem test_witness_StoreStatusReturnsTheCounts :
    (Accepted s7_58 rowStoreStatus m0 e7_58 [(32, 0, 4)] ∧ e7_58.f 32 0 4 ≤ 8 ∧ s7_58.storePresent (e7_58.f 32 0 4) = true) ∧
    (Accepted s7_59 rowStoreStatus m0 e7_59 [(32, 0, 4)] ∧ e7_59.f 32 0 4 = 9 ∧ s7_59.storePresent (e7_59.f 32 0 4) = true) ∧
    (Accepted s7_60 rowStoreStatus m0 e7_60 [(32, 0, 4)] ∧ e7_60.f 32 0 4 ≤ 9 ∧ s7_60.storePresent (e7_60.f 32 0 4) = false) ∧
    (Accepted s7_61 rowStoreStatus m0 e7_61 [(32, 0, 4)] ∧ 9 < e7_61.f 32 0 4) := by
  and_intros <;> decide +kernel

theorem test_witness_FrameWithoutBufferIsDropped :
    (s7_62.sw.hostQueue = [4] ∧ s7_62.frame 4 = some x7_62 ∧ s7_62.rxWriter 4 = none ∧ x7_62.was = none ∧ s7_62.far.replayLeft = [] ∧ s7_62.readsQuiet = true ∧
    s7_62.gears.change = none ∧ s7_62.globalRing x7_62.slice x7_62.destQueue = some 255 ∧ (s7_62.ring 255).rx.state = RunState.running ∧
    ((s7_62.ring 255).rx.bucket.refill s7_62.now).positive = true ∧ (s7_62.ring 255).rx.tail = (s7_62.ring 255).rx.head) := by
  and_intros <;> decide +kernel


/-! ### Ill-formed commands are refused by the check -/

/-- A fabric frame whose bytes are given. -/
def longFrame : FabricFrame :=
  { bytes := [], port := 0, cls := 0, colour := 0, slice := 0, queue := 0, lifeline := false, ce := false, tsReq := false,
    ipOffset := 0, flowTag := 0, ingressPort := 0, corrupt := false, stomp := false }

/-- A fuse map with three key hashes where R85 gives four. -/
def badMap : FuseMap :=
  { part := .bx6400, romRelease := 0, siliconStep := 0, serial := 0, keyHash := [0, 0, 0], provisioned := 0, revoked := 0,
    rollback := 0, bundleKey := 0, debugLock := false, second := FuseBits.blank }

theorem test_ill_formed_fw_log_read_buffer : Instr.wellFormed (.fwLogRead m0 e0 (some [0])) = false := by decide
theorem test_ill_formed_patch_stage_buffer : Instr.wellFormed (.patchStage m0 e0 (some [0])) = false := by decide
theorem test_ill_formed_parse_graph_load_buffer : Instr.wellFormed (.parseGraphLoad m0 e0 (some [0])) = false := by decide
theorem test_ill_formed_customer_store_load_buffer : Instr.wellFormed (.customerStoreLoad m0 e0 (some [0])) = false := by decide
theorem test_ill_formed_pattern_set_load_buffer : Instr.wellFormed (.patternSetLoad m0 e0 (some [0])) = false := by decide
theorem test_ill_formed_em_insert_buffer : Instr.wellFormed (.emInsert m0 e0 (some [0])) = false := by decide
theorem test_ill_formed_em_delete_buffer : Instr.wellFormed (.emDelete m0 e0 (some [0])) = false := by decide
theorem test_ill_formed_lpm_add_buffer : Instr.wellFormed (.lpmAdd m0 e0 (some [0])) = false := by decide
theorem test_ill_formed_lpm_delete_buffer : Instr.wellFormed (.lpmDelete m0 e0 (some [0])) = false := by decide
theorem test_ill_formed_rule_insert_buffer : Instr.wellFormed (.ruleInsert m0 e0 (some [0])) = false := by decide
theorem test_ill_formed_rule_delete_buffer : Instr.wellFormed (.ruleDelete m0 e0 (some [0])) = false := by decide
theorem test_ill_formed_action_program_load_buffer : Instr.wellFormed (.actionProgramLoad m0 e0 (some [0])) = false := by decide
theorem test_ill_formed_isolation_matrix_set_buffer : Instr.wellFormed (.isolationMatrixSet m0 e0 (some [0])) = false := by decide
theorem test_ill_formed_counter_snapshot_buffer : Instr.wellFormed (.counterSnapshot m0 e0 (some [0])) = false := by decide
theorem test_ill_formed_unit : Instr.wellFormed (.memoryInitComplete [⟨7, 0⟩] none) = false := by decide
theorem test_ill_formed_unit_kind_1 : Instr.wellFormed (.memoryInitComplete [⟨1, 16⟩] none) = false := by decide
theorem test_ill_formed_unit_kind_2 : Instr.wellFormed (.memoryInitComplete [⟨2, 8⟩] none) = false := by decide
theorem test_ill_formed_unit_kind_3 : Instr.wellFormed (.memoryInitComplete [⟨3, 8⟩] none) = false := by decide
theorem test_ill_formed_unit_kind_4 : Instr.wellFormed (.memoryInitComplete [⟨4, 8⟩] none) = false := by decide
theorem test_ill_formed_unit_kind_5 : Instr.wellFormed (.memoryInitComplete [⟨5, 128⟩] none) = false := by decide
theorem test_ill_formed_unit_kind_6 : Instr.wellFormed (.memoryInitComplete [⟨6, 24⟩] none) = false := by decide
theorem test_ill_formed_fuse_load : Instr.wellFormed (.fuseLoadComplete badMap) = false := by decide
theorem test_ill_formed_fuse_copy : Instr.wellFormed (.fuseLoadComplete { badMap with keyHash := [0, 0, 0, 0], second := { FuseBits.blank with keyHash := [] } }) = false := by decide
theorem test_ill_formed_boot_bundle : Instr.wellFormed (.bootBundleRead 0 (List.replicate 8388609 0) []) = false := by simp only [Instr.wellFormed, List.length_replicate]; decide
theorem test_ill_formed_boot_bundle_other : Instr.wellFormed (.bootBundleRead 0 [] (List.replicate 8388609 0)) = false := by simp only [Instr.wellFormed, List.length_replicate]; decide
theorem test_ill_formed_rx_frame : Instr.wellFormed (.rxFrameStart 0 (List.replicate 65537 0) { preambleOk := true, symbolAt := none }) = false := by simp only [Instr.wellFormed, List.length_replicate]; decide
theorem test_ill_formed_rx_descriptors : Instr.wellFormed (.rxDescriptorFetchDone 0 (List.replicate 4097 0)) = false := by simp only [Instr.wellFormed, List.length_replicate]; decide
theorem test_ill_formed_tx_descriptors : Instr.wellFormed (.txDescriptorsReceived 0 (List.replicate 17 0) []) = false := by simp only [Instr.wellFormed, List.length_replicate]; decide
theorem test_ill_formed_tx_start : Instr.wellFormed (.txDescriptorsReceived 0 [] (List.replicate 45 0)) = false := by simp only [Instr.wellFormed, List.length_replicate]; decide
theorem test_ill_formed_tx_buffer : Instr.wellFormed (.txBufferReadDone 0 (List.replicate 65537 0)) = false := by simp only [Instr.wellFormed, List.length_replicate]; decide
theorem test_ill_formed_expanders : Instr.wellFormed (.cadenceCycle (List.replicate 17 0)) = false := by simp only [Instr.wellFormed, List.length_replicate]; decide
theorem test_ill_formed_sensor_frame : Instr.wellFormed (.lineSensorFrame 0 (some (List.replicate 15 0))) = false := by simp only [Instr.wellFormed, List.length_replicate]; decide
theorem test_ill_formed_temperatures : Instr.wellFormed (.thermalSample (List.replicate 23 0) (List.replicate 64 0) 800) = false := by simp only [Instr.wellFormed, List.length_replicate]; decide
theorem test_ill_formed_slowdowns : Instr.wellFormed (.thermalSample (List.replicate 24 0) (List.replicate 63 0) 800) = false := by simp only [Instr.wellFormed, List.length_replicate]; decide
theorem test_ill_formed_fabric_frame : Instr.wellFormed (.fabricFrameArrival 0 { longFrame with bytes := List.replicate 65537 0 }) = false := by simp only [Instr.wellFormed, List.length_replicate]; decide

/-! ### Statements over every step: a state that meets their hypotheses and has a next state -/

/-- The outcome is a next state that meets a check. -/
def nextMeets (o : Host.Outcome State Fault Refusal) (p : State → Bool) : Bool :=
  match o with
  | .next t => p t
  | _ => false
theorem nextMeets_next (o : Host.Outcome State Fault Refusal) (p : State → Bool) (h : nextMeets o p = true) :
    ∃ t, o = .next t ∧ p t = true := by
  cases o with
  | next t => exact ⟨t, rfl, h⟩
  | fault _ => exact absurd h (by simp [nextMeets])
  | refused _ => exact absurd h (by simp [nextMeets])

/-- A device with one burned bit of ROLLBACK in its first copy and a power event in front of its queue. -/
def burnedState : State :=
  { up with fuses := { Fuses.reset with rollback := 1, revoked := 1, first := { FuseBits.blank with rollback := 1, revoked := 1 } },
            pending := [.timeSample] }

theorem test_witness_BurnedFusesStayBurned :
    fusesAgree burnedState.fuses ∧ ∃ t, step burnedState = .next t ∧
      (burnedState.fuses.rollback.getLsbD 0 = true ∧ burnedState.fuses.revoked.getLsbD 0 = true ∧ t.fuses.rollbackValue = 1) := by
  obtain ⟨t, h, p⟩ := nextMeets_next (step burnedState) (fun t => t.fuses.rollbackValue == 1) (by decide +kernel)
  exact ⟨by unfold fusesAgree; decide +kernel, t, h, by decide +kernel, by decide +kernel, by simpa using p⟩

/-- A device that has written two bytes of host memory, and one with PASID 3. -/
def wroteState : State :=
  { up with host := { HostIf.reset with linkUp := true, mem := [(64, 1), (65, 2)], spaces := [(3, [(64, 1)])] }, pending := [.timeSample] }

theorem test_witness_HostMemoryStaysCanonical :
    memWf wroteState.host.mem = true ∧ (∀ p, memWf (tget wroteState.host.spaces [] p) = true) ∧
      ∃ t, step wroteState = .next t ∧ (memAt wroteState.host.mem 64).isSome = true ∧
        (memAt (tget wroteState.host.spaces [] 3) 64).isSome = true := by
  obtain ⟨t, h, _⟩ := nextMeets_next (step wroteState) (fun _ => true) (by decide +kernel)
  exact ⟨by decide +kernel, tget_all (fun m => memWf m = true) wroteState.host.spaces [] (by decide +kernel) (by decide +kernel),
    t, h, by decide +kernel, by decide +kernel⟩

/-- One command of each clause, with its state. -/
def framed : List (Instr × State) :=
  [(.nop m0 e0, withCmd rowNop.op e0 up), (.schedRead m0 e0, withCmd rowSchedRead.op e0 up),
   (.recircConfig m0 e0, withCmd rowRecircConfig.op e0 up), (.ringPairSet m0 e0, withCmd rowRingPairSet.op e0 up),
   (.sliceResize m0 e0, withCmd rowSliceResize.op e0 up), (.timeSet m0 e0, withCmd rowTimeSet.op e0 up)]

theorem test_witness_FamilyFrames :
    (∀ x ∈ framed, ∃ t, exec x.1 x.2 = .next t) ∧ (withCmd rowSchedRead.op e0 up).wordsQuiet = true ∧ e0.u8 18 ≠ 1 := by
  refine ⟨fun x hx => ?_, by decide +kernel, by decide +kernel⟩
  have h : ∀ y ∈ framed, nextMeets (exec y.1 y.2) (fun _ => true) = true := by decide +kernel
  exact (nextMeets_next _ _ (h x hx)).imp fun _ q => q.1

/-! ### An authentic bundle: the cryptographic functions are opaque (log entry 4), so a bundle is authentic exactly under
what they answer -/

/-- A bundle of 512 header bytes and 64 bytes of ciphertext with every field of Table 4-5 in range. -/
def auBundle : Bytes :=
  [0x41, 0x55, 0x4C, 0x59, 1, 0, 0, 2] ++ List.replicate 22 0 ++ [1, 0, 0, 0, 0, 0, 64, 0, 0, 0] ++ List.replicate 536 0

/-- A payload with one section of TYPE 1. -/
def auPayload : Bytes := [1, 0, 0, 0, 1, 0, 0, 0, 20, 0, 0, 0, 44, 0, 0, 0] ++ List.replicate 48 0

/-- Fuses whose key slot 0 holds the hash of the bundle's key. -/
def auFuses : Fuses :=
  { Fuses.reset with provisioned := 1, keyHash := [Config.sha384 (List.replicate 96 0), 0, 0, 0] }

/-- The bundle that the header and the payload give. -/
def auResult : Bundle :=
  { id := 0, version := 0, keySlot := 0, revokeMask := 0, fwMajor := 0, fwMinor := 0, commandLevel := 0, stateFormat := 0,
    stateFormatMin := 0, parse := SeqPatch.empty, action := SeqPatch.empty, table := SeqPatch.empty }

theorem auPayload_sections (half : Bool) :
    payloadOf half auPayload = some (SeqPatch.empty, SeqPatch.empty, SeqPatch.empty) := by
  cases half <;> decide +kernel

theorem test_authentic_bundle (half : Bool)
    (hv : Config.ecdsaVerifies (List.replicate 96 0) (Config.sha384 (auBundle.take 416 ++ List.replicate 64 0)) (List.replicate 96 0) = true)
    (ho : Config.aesGcmOpen 0 (List.replicate 12 0) (auBundle.take 52) (List.replicate 64 0) (List.replicate 16 0) = some auPayload) :
    auFuses.authenticate half auBundle = .inr auResult := by
  have h1 : headerOk auBundle = true := by decide +kernel
  have h2 : leAt auBundle 36 4 = 64 := by decide +kernel
  have h3 : slice auBundle 512 64 = List.replicate 64 0 := by decide +kernel
  have h4 : slice auBundle 68 96 = List.replicate 96 0 := by decide +kernel
  have h5 : slice auBundle 416 96 = List.replicate 96 0 := by decide +kernel
  have h6 : slice auBundle 40 12 = List.replicate 12 0 := by decide +kernel
  have h7 : slice auBundle 52 16 = List.replicate 16 0 := by decide +kernel
  have h8 : leAt auBundle 17 1 = 0 := by decide +kernel
  have h9 : leAt auBundle 16 1 = 0 := by decide +kernel
  have h10 : leAt auBundle 30 2 = 1 := by decide +kernel
  have h11 : leAt auBundle 32 1 = 0 := by decide +kernel
  have h12 : leAt auBundle 33 1 = 0 := by decide +kernel
  have h13 : leAt auBundle 34 1 = 0 := by decide +kernel
  have h14 : leAt auBundle 35 1 = 0 := by decide +kernel
  have h15 : auBundle.length = 576 := by decide +kernel
  have h16 : leAt auBundle 8 8 = 0 := by decide +kernel
  have h17 : leAt auBundle 18 1 = 0 := by decide +kernel
  have h18 : leAt auBundle 20 2 = 0 := by decide +kernel
  have h19 : leAt auBundle 22 2 = 0 := by decide +kernel
  have h20 : leAt auBundle 24 2 = 0 := by decide +kernel
  have h21 : leAt auBundle 26 2 = 0 := by decide +kernel
  have h22 : leAt auBundle 28 2 = 0 := by decide +kernel
  have hk : auFuses.keyUsable 0 = true := by decide
  have hh : auFuses.keyHash.getD 0 0 = Config.sha384 (List.replicate 96 0) := rfl
  have hr : auFuses.rollbackValue = 0 := by decide +kernel
  have hb : auFuses.bundleKey = 0 := rfl
  have hm : bitAt 1 (partMaskBit auFuses.part) = true := by decide
  have hrom : auFuses.romRelease.toNat = 0 := rfl
  have hst : auFuses.siliconStep.toNat = 0 := rfl
  unfold Fuses.authenticate
  simp only [h1, h2, h3, h4, h5, h6, h7, h8, h9, h10, h11, h12, h13, h14, h15, h16, h17, h18, h19, h20, h21, h22, hk, hh, hr, hb, hm,
    hrom, hst, hv, ho, auPayload_sections, bne_self_eq_false]
  rfl

/-- The clauses of PatchStageAndActivate and BootPhases about an authentic bundle, under what the opaque functions answer. -/
def auEntry (mode : Nat) : Entry := entBuf 576 [(32, 2, mode)]
def auState (mode : Nat) : State := { withCmd rowPatchStage.op (auEntry mode) up with fuses := auFuses }
def auBoot : State := { up with fuses := auFuses, boot := { Boot.reset with phase := .romBoot, bootSrc := 1 } }

/-- The same, of a firmware that the bundle does not fit. -/
def auOther : State := { auState 1 with fw := { Firmware.reset with fwReady := true, fwMajor := 1 } }

theorem test_witness_AuthenticBundle
    (hv : Config.ecdsaVerifies (List.replicate 96 0) (Config.sha384 (auBundle.take 416 ++ List.replicate 64 0)) (List.replicate 96 0) = true)
    (ho : Config.aesGcmOpen 0 (List.replicate 12 0) (auBundle.take 52) (List.replicate 64 0) (List.replicate 16 0) = some auPayload) :
    (∀ mode, mode ∈ [1, 2, 3] → Accepted (auState mode) rowPatchStage m0 (auEntry mode) [(32, 0, 2)] ∧ (auEntry mode).f 32 0 2 ≠ 0 ∧
      auBundle.length = (auEntry mode).bufLen ∧
      (auState mode).fuses.authenticate (!(auState mode).fw.bank) auBundle = .inr auResult ∧
      (auResult.fwMajor = (auState mode).fw.fwMajor ∧ auResult.stateFormatMin ≤ (auState mode).runningFormat) ∧
      (auEntry mode).f 32 0 2 = mode) ∧
    (Accepted auOther rowPatchStage m0 (auEntry 1) [(32, 0, 2)] ∧ auOther.fuses.authenticate (!auOther.fw.bank) auBundle = .inr auResult ∧
      (auEntry 1).f 32 0 2 ≠ 2 ∧ auResult.fwMajor ≠ auOther.fw.fwMajor) ∧
    (auBoot.inBootRom = true ∧ auBoot.bootTries 0 auBundle [] = true ∧ auBoot.fuses.authenticate false auBundle = .inr auResult) := by
  refine ⟨fun mode hmode => ?_, ⟨by decide +kernel, test_authentic_bundle _ hv ho, by decide +kernel, by decide +kernel⟩, by decide +kernel,
    by decide +kernel, test_authentic_bundle false hv ho⟩
  have h : ∀ m ∈ [1, 2, 3], Accepted (auState m) rowPatchStage m0 (auEntry m) [(32, 0, 2)] ∧ (auEntry m).f 32 0 2 ≠ 0 ∧
      auBundle.length = (auEntry m).bufLen ∧
      (auResult.fwMajor = (auState m).fw.fwMajor ∧ auResult.stateFormatMin ≤ (auState m).runningFormat) ∧
      (auEntry m).f 32 0 2 = m := by decide +kernel
  obtain ⟨a, b, c, d, e⟩ := h mode hmode
  exact ⟨a, b, c, test_authentic_bundle _ hv ho, d, e⟩

/-! ### The spec's worked examples, with the figures that the spec gives -/

/-- 00_scope.md, example before R14: ERR_STATUS of pipe 5 is at 0x0054_0010. -/
theorem test_example_page : pageOf 0x540010 = some (pipeBlock 5, 0x10) := by decide

/-- 00_scope.md, example before R14: 0x0000_0004 at 0x0054_0010 clears bit 2 and leaves the upper half; at 0x0054_0014 it acts there. -/
theorem test_example_err_status :
    let s := { up with blocks := [(pipeBlock 5, { Block.reset with codes := 0x700000006 })] }
    ((s.regWrite false 0x540010 .half 4).block (pipeBlock 5)).codes = 0x700000002 ∧
    ((s.regWrite false 0x540014 .half 4).block (pipeBlock 5)).codes = 0x300000006 := by decide +kernel

/-- 02_mailbox.md, example of R37: PHASE is 0 at a count of 0x00FE and 1 at 0x0100 in a ring of 16 entries. -/
theorem test_example_phase :
    (responseBytes { Mailbox.reset with rspTail := 0x00FE } 0 (ent []) 0 0 0 0)[3]? = some 0 ∧
    (responseBytes { Mailbox.reset with rspTail := 0x0100 } 0 (ent []) 0 0 0 0)[3]? = some 1 := by decide +kernel

/-- What a command answers, as (status, DETAIL, RESULT) of a failure. -/
def failed (c : CmdOut) : Option (Nat × Nat × Nat) :=
  match c with
  | .fail st d r => some (st, d, r.toNat)
  | _ => none

/-- 02_mailbox.md, example of R50: CONFLICT with DETAIL 0x0005_0A04 and 3 in RESULT bytes 16–19. -/
theorem test_example_conflict : failed ((State.reset.setClaim 5 0 0x0A04 3).conflict 5 0) = some (0x0F, 0x00050A04, 3) := by
  decide +kernel

/-- 02_mailbox.md, example of R40: on a BX-6120 PORT_STATUS is ABSENT for port 64, BAD_ARG for port 200. -/
theorem test_example_port_status :
    let s := { up with fuses := { Fuses.reset with part := .bx6120 } }
    (failed (bodyPortStatus s 0 (ent [(16, 1, 64)]) none)).map (·.1) = some 0x09 ∧
    (failed (bodyPortStatus s 0 (ent [(16, 1, 200)]) none)).map (·.1) = some 0x02 := by decide +kernel

/-- 03_consistency.md, example of R78: 0x0000_0003 is after 0xFFFF_FFFE. -/
theorem test_example_serial : serialAfter 32 0x00000003 0xFFFFFFFE = true ∧ serialAfter 32 0xFFFFFFFE 0x00000003 = false := by decide

/-- 07_tables.md, example of R156: bank 91, bucket 6,565 at T1, and bucket 421 at T2, T3 and T4. -/
theorem test_example_buckets :
    bucketOf 0xB7E3D9A5 4 = (91, 6565) ∧ bucketOf 0xB7E3D9A5 3 = (91, 421) ∧ bucketOf 0xB7E3D9A5 2 = (91, 421) ∧
    bucketOf 0xB7E3D9A5 1 = (91, 421) := by decide

/-- 08_rules_actions.md, example of R197: the ten entries of block 5 of pipe 2, and the gap for priority 650. -/
def slideState : State :=
  { up with pipes := [(2, { Pipe.reset with rules := (List.range 10).map (fun i =>
      (1280 + i, some { banks := 3, profile := 3, priority := [900, 800, 800, 700, 600, 500, 400, 300, 200, 100].getD i 0, gen := 0, value := 0,
                        mask := 0, program := 0, count := false, stat := 0, arg := 0, parityOk := true })) })] }

theorem test_example_slide :
    slideState.slidePlace 2 5 3 3 650 = 1284 ∧
    slideState.slide 2 5 1284 = some (1284, [(1289, 1290), (1288, 1289), (1287, 1288), (1286, 1287), (1285, 1286), (1284, 1285)]) := by
  decide +kernel

/-- 10_scheduling.md, example of R271: the costs of 1,538 bytes at weights 1 and 3. -/
theorem test_example_costs : cost 1538 1 = 25803358208 ∧ cost 1538 3 = 8601118890 := by decide

/-- 10_scheduling.md, Table 10-7: 61,136 ns at 100,000 kb/s raise −764.20 bytes to just above 0, and not 61,135 ns. -/
theorem test_example_bucket :
    let b : Bucket := { rate := 100000, size := 16000, tokens := -50082611, rem := 0, last := 12304 }
    (b.refill 73439).tokens < 0 ∧ 0 < (b.refill 73441).tokens := by decide

/-- 13_cadence.md, example of R352: 30 lost of 120,030 exceed 200 ppm. -/
theorem test_example_probe :
    ({ mbox := 0, timer := 0, target := .queue 72001, delayLimit := 0, lossPpm := 200,
       window := { ProbeWindow.empty with out := 120000, lost := 30 }, last := ProbeWindow.empty, lastCycle := 0, windows := 0,
       totalOut := 0, totalLost := 0 } : Probe).exceeded = 2 := by decide

end Sys2Proof.Tests
end

section
/-! The rule bank swap count (R65): what settling the waiting switches does to it, and the bank that its parity names. -/
namespace Sys2Proof.Machine
open Sys2Proof

/-! ### What answers and ends a command leaves the swap alone -/

theorem swap_of_besideNotes {s t : State} (h : s.besideNotes = t.besideNotes) : s.swap = t.swap := by
  have hs : s.besideNotes.swap = t.besideNotes.swap := by rw [h]
  exact hs

@[simp] theorem State.finish_swap (s : State) (mb : Nat) (r : OpRow) (res : BitVec 128) : (s.finish mb r res).swap = s.swap :=
  swap_of_besideNotes (besideNotes_finish ..)

@[simp] theorem State.fwRecord_swap (s : State) (k m st op i d : Nat) : (s.fwRecord k m st op i d).swap = s.swap :=
  swap_of_besideNotes (besideNotes_fwRecord ..)

@[simp] theorem State.answerAll_swap (s : State) : s.answerAll.swap = s.swap :=
  forAll_proj (fun u => u.swap) _ (fun _ _ => swap_of_besideNotes (besideNotes_of_reply (besideReply_answerUndefined ..))) _ s

@[simp] theorem State.gearDone_swap (s : State) (c : GearChange) : (s.gearDone c).swap = s.swap := by
  simp [State.gearDone]

@[simp] theorem State.matrixFinish_swap (s : State) (mb : Nat) : (s.matrixFinish mb).swap = s.swap := by
  unfold State.matrixFinish
  dsimp only
  split <;> simp

@[simp] theorem State.activated_swap (s : State) (a : Activation) : (s.activated a).swap = s.swap := by
  unfold State.activated
  dsimp only
  split
  · rfl
  · simp

/-! ### The swap after the waiting switches settle -/

/-- The swap advances when a command waits for it and no pipe has still to switch. -/
def State.swapSettled (s : State) : BankSwap :=
  if s.swap.mb.isSome && !s.switching (· == Switch.ruleBank) then { count := s.swap.count + 1, mb := none } else s.swap

/-- Of all that `switchSettle` settles, only its first stage, the swap's own, touches the swap. -/
theorem State.switchSettle_swap (s : State) : s.switchSettle.swap = s.swapSettled := by
  unfold State.switchSettle
  extract_lets swapped geared _ graph _ customer _ action _ matrix
  have hswap : swapped.swap = s.swapSettled := by
    unfold swapped State.swapSettled
    split
    · next mb hmb => cases hw : s.switching (· == Switch.ruleBank) <;> simp [hmb]
    · next hmb => simp [hmb]
  have hgear : geared.swap = swapped.swap := by unfold geared; split <;> simp [apply_ite State.swap]
  have hgraph : graph.swap = geared.swap := by unfold graph; split <;> simp [apply_ite State.swap]
  have hcustomer : customer.swap = graph.swap := by unfold customer; split <;> simp [apply_ite State.swap]
  have haction : action.swap = customer.swap := by unfold action; split <;> simp [apply_ite State.swap]
  have hmatrix : matrix.swap = action.swap := by unfold matrix; split <;> simp [apply_ite State.swap]
  rw [← hswap, ← hgear, ← hgraph, ← hcustomer, ← haction, ← hmatrix]
  split <;> simp [apply_ite State.swap]

/-- R65: the swap completes once its last pipe has switched. -/
theorem State.swapSettled_complete (s : State) (mb : Nat) (hmb : s.swap.mb = some mb)
    (hdone : s.switching (· == Switch.ruleBank) = false) : s.swapSettled = { count := s.swap.count + 1, mb := none } := by
  simp [State.swapSettled, hmb, hdone]

/-- With no swap waiting, or with a pipe still to switch, the swap stays as it is. -/
theorem State.swapSettled_waiting (s : State) (h : s.swap.mb = none ∨ s.switching (· == Switch.ruleBank) = true) :
    s.swapSettled = s.swap := by
  obtain hmb | hw := h
  · simp [State.swapSettled, hmb]
  · simp [State.swapSettled, hw]

/-! ### The active bank -/

/-- R65: bank B is active when the swap count is odd. -/
theorem State.ruleBank_eq_decide (s : State) : s.ruleBank = decide (s.swap.count.toNat % 2 = 1) := by
  unfold State.ruleBank BitVec.getLsbD
  exact Nat.testBit_zero _

theorem State.ruleBank_eq_true_iff (s : State) : s.ruleBank = true ↔ s.swap.count.toNat % 2 = 1 := by
  rw [s.ruleBank_eq_decide, decide_eq_true_iff]

theorem State.ruleBank_eq_false_iff (s : State) : s.ruleBank = false ↔ s.swap.count.toNat % 2 = 0 := by
  rw [s.ruleBank_eq_decide, decide_eq_false_iff_not, Nat.mod_two_not_eq_one]

/-- Settles O58: the swap after `switchSettle` is its first stage's, which counts a completed swap modulo 2^16, and the
parity of the count is its bit 0. -/
theorem swapCountNamesTheBank : Obligations.SwapCountNamesTheBank := by
  unfold Obligations.SwapCountNamesTheBank
  refine ⟨rfl, fun s mb hmb hdone => ?_, fun s hw => ?_, fun s => ⟨s.ruleBank_eq_false_iff, s.ruleBank_eq_true_iff⟩,
    fun s t hs ht => ?_⟩
  · rw [s.switchSettle_swap, s.swapSettled_complete mb hmb hdone]
    exact ⟨BitVec.toNat_add .., rfl⟩
  · rw [s.switchSettle_swap, s.swapSettled_waiting hw]
  · have hwrap : t.swap.count = 0 := by rw [ht, hs]; rfl
    refine ⟨s.ruleBank_eq_true_iff.mpr ?_, t.ruleBank_eq_false_iff.mpr ?_, hwrap⟩
    · rw [hs]; rfl
    · rw [hwrap]; rfl
end Sys2Proof.Machine
end

section
/-! STORE_STATUS (R254): what its check answers, the four words of its RESULT, and the outcome of each of its cases. -/
namespace Sys2Proof.Machine
open Sys2Proof Sys2Proof.Claims

/-! ### Checks -/

/-- With no reserved bit set, a field out of range is the one named. -/
theorem argCheck_outOfRange {e : Entry} {used : List Field} (h : argCheck e used [] = none) (off : Nat) :
    argCheck e used [(true, off)] = some (0x02, off) := by
  have hreserved : reservedSet e used = [] := by
    cases hset : reservedSet e used with
    | nil => rfl
    | cons a l => simp [argCheck, leastOff, minBy, hset] at h
  simp [argCheck, leastOff, minBy, hreserved]

/-- Where steps 2 to 5 pass without ranges, they answer BAD_ARG for a field out of range. -/
theorem entryCheck_outOfRange {r : OpRow} {s : State} {mb : Nat} {e : Entry} {used : List Field}
    (h : entryCheck r s mb e used [] = none) (off : Nat) : entryCheck r s mb e used [(true, off)] = some (0x02, off) := by
  have htwo : stepTwo r mb e used [] = none := (firstSome_none _).1 h _ (by simp)
  unfold stepTwo at htwo
  unfold entryCheck stepTwo
  split at htwo
  · simp at htwo
  · simp at htwo
  · next hhead => rw [hhead, argCheck_outOfRange htwo]; rfl

/-! ### A RESULT of four words -/

/-- What a field (offset, bytes, value) adds to a RESULT. With the fields' values named, a RESULT is a sum of a few terms: evaluated
on the literal offsets, the kernel would unfold multiplications by 2^96. -/
def resultField (f : Nat × Nat × Nat) : Nat := f.2.2 % 2 ^ (8 * f.2.1) * 2 ^ (8 * (f.1 - 16))

theorem resultOf_eq_sum (l : List (Nat × Nat × Nat)) : resultOf l = BitVec.ofNat 128 (l.map resultField).sum := by
  rw [List.sum_eq_foldl, List.foldl_map]
  rfl

theorem resultOf_four (f g h i : Nat × Nat × Nat) :
    resultOf [f, g, h, i] = BitVec.ofNat 128 (resultField f + (resultField g + (resultField h + resultField i))) := by
  simp [resultOf_eq_sum]

/-- A 32-bit field, shifted to its offset. -/
theorem resultField_word {off k : Nat} (v : Nat) (hk : 8 * (off - 16) = k) : resultField (off, 4, v) = v % 2 ^ 32 * 2 ^ k := by
  rw [← hk]
  rfl

theorem resultOf_words (a b c d : Nat) : resultOf [(16, 4, a), (20, 4, b), (24, 4, c), (28, 4, d)] =
    BitVec.ofNat 128 (a % 2 ^ 32 * 2 ^ 0 + (b % 2 ^ 32 * 2 ^ 32 + (c % 2 ^ 32 * 2 ^ 64 + d % 2 ^ 32 * 2 ^ 96))) := by
  rw [resultOf_four, resultField_word a rfl, resultField_word b rfl, resultField_word c rfl, resultField_word d rfl]

/-- Each word of a RESULT of four 32-bit words is read back at its own offset. -/
theorem field_resultOf_words (a b c d : Nat) :
    field (resultOf [(16, 4, a), (20, 4, b), (24, 4, c), (28, 4, d)]) 16 4 = a % 2 ^ 32 ∧
    field (resultOf [(16, 4, a), (20, 4, b), (24, 4, c), (28, 4, d)]) 20 4 = b % 2 ^ 32 ∧
    field (resultOf [(16, 4, a), (20, 4, b), (24, 4, c), (28, 4, d)]) 24 4 = c % 2 ^ 32 ∧
    field (resultOf [(16, 4, a), (20, 4, b), (24, 4, c), (28, 4, d)]) 28 4 = d % 2 ^ 32 := by
  simp only [resultOf_words, field, bitsAt, BitVec.toNat_ofNat]
  omega

/-! ### The counts of a store -/

/-- The counts of a store of cells. -/
theorem State.storeCounts_cells (s : State) {n : Nat} (h : n ≤ 8) :
    s.storeCounts n = ((s.store n).total, (s.store n).free, (s.store n).queued, (s.store n).loaned) :=
  if_neg (by omega)

/-- The counts of the far store, in blocks. -/
theorem State.storeCounts_far (s : State) : s.storeCounts 9 = (s.farTotal, s.farFree, s.farUsed - s.farLoaned, s.farLoaned) := rfl

/-- The RESULT of STORE_STATUS. -/
def State.storeResult (s : State) (n : Nat) : BitVec 128 :=
  resultOf [(16, 4, (s.storeCounts n).1), (20, 4, (s.storeCounts n).2.1), (24, 4, (s.storeCounts n).2.2.1),
    (28, 4, (s.storeCounts n).2.2.2)]

/-! ### A command that has begun -/

section
variable (s : State) (r : OpRow) (mb : Fin 129) (e : Entry) (b : Option Bytes)

/-- Steps 2 to 5 look at nothing that taking a command into execution changes. -/
@[simp] theorem entryCheck_begun (row : OpRow) (m : Nat) (used : List Field) (bad : List (Bool × Nat)) :
    entryCheck row (begun s r mb e b) m e used bad = entryCheck row s m e used bad := rfl

@[simp] theorem begun_storePresent (n : Nat) : (begun s r mb e b).storePresent n = s.storePresent n := rfl

@[simp] theorem begun_storeResult (n : Nat) : (begun s r mb e b).storeResult n = s.storeResult n := rfl

end

/-! ### The command's cases -/

section
variable {s : State} {mb : Nat} {e : Entry} (hcheck : entryCheck rowStoreStatus s mb e [(32, 0, 4)] [] = none)
include hcheck

/-- With STORE in range, the check of the entry passes and the store's presence decides. -/
theorem bodyStoreStatus_inRange (hn : e.f 32 0 4 ≤ 9) : bodyStoreStatus s mb e none =
    andThen (failIf (!s.storePresent (e.f 32 0 4)) 0x09 32) (.ok s 0 (s.storeResult (e.f 32 0 4))) := by
  have hrange : entryCheck rowStoreStatus s mb e [(32, 0, 4)] [(9 < e.f 32 0 4, 32)] = none := by
    rw [entryCheck_range _ _ _ _ _ _ (by simpa using hn), hcheck]
  unfold bodyStoreStatus
  dsimp only
  rw [hrange]
  cases s.storePresent (e.f 32 0 4) <;> rfl

theorem bodyStoreStatus_outOfRange (hn : 9 < e.f 32 0 4) : bodyStoreStatus s mb e none = .fail 0x02 32 0 := by
  unfold bodyStoreStatus
  dsimp only
  rw [decide_eq_true hn, entryCheck_outOfRange hcheck]
  rfl

end

/-- STORE_STATUS in its turn settles what its effect answers in the state in which it has begun. -/
theorem exec_storeStatus {s : State} {mb : Fin 129} {e : Entry} (hready : s.cmdReady mb.val rowStoreStatus.op e = true) :
    exec (.storeStatus mb e) s = .next ((begun s rowStoreStatus mb e).settle mb.val rowStoreStatus
      (bodyStoreStatus (begun s rowStoreStatus mb e) mb.val e none)) :=
  runCmd_ready _ _ _ _ _ _ hready

section
variable {s : State} {mb : Fin 129} {e : Entry} (h : Accepted s rowStoreStatus mb e [(32, 0, 4)])
include h

theorem storeStatus_present (hn : e.f 32 0 4 ≤ 9) (hp : s.storePresent (e.f 32 0 4) = true) :
    Answers (.storeStatus mb e) s rowStoreStatus mb 0 (s.storeResult (e.f 32 0 4)) (begun s rowStoreStatus mb e) := by
  unfold Answers
  rw [exec_storeStatus h.1, bodyStoreStatus_inRange ((entryCheck_begun ..).trans h.2) hn, begun_storePresent, begun_storeResult, hp]
  rfl

theorem storeStatus_absent (hn : e.f 32 0 4 ≤ 9) (hp : s.storePresent (e.f 32 0 4) = false) :
    exec (.storeStatus mb e) s = .next ((begun s rowStoreStatus mb e).complete mb.val rowStoreStatus 0x09 32 0 0) := by
  rw [exec_storeStatus h.1, bodyStoreStatus_inRange ((entryCheck_begun ..).trans h.2) hn, begun_storePresent, hp]
  rfl

theorem storeStatus_outOfRange (hn : 9 < e.f 32 0 4) :
    exec (.storeStatus mb e) s = .next ((begun s rowStoreStatus mb e).complete mb.val rowStoreStatus 0x02 32 0 0) := by
  rw [exec_storeStatus h.1, bodyStoreStatus_outOfRange ((entryCheck_begun ..).trans h.2) hn]
  rfl

/-- R254: the RESULT of a present store holds its four counts. -/
theorem storeStatus_counts (hn : e.f 32 0 4 ≤ 9) (hp : s.storePresent (e.f 32 0 4) = true) {total free queued loaned : Nat}
    (hcounts : s.storeCounts (e.f 32 0 4) = (total, free, queued, loaned)) :
    ∃ res, Answers (.storeStatus mb e) s rowStoreStatus mb 0 res (begun s rowStoreStatus mb e) ∧
      field res 16 4 = total % 2 ^ 32 ∧ field res 20 4 = free % 2 ^ 32 ∧ field res 24 4 = queued % 2 ^ 32 ∧
      field res 28 4 = loaned % 2 ^ 32 := by
  refine ⟨_, storeStatus_present h hn hp, ?_⟩
  rw [State.storeResult, hcounts]
  exact field_resultOf_words ..

end

/-- Settles O59: the STORE field decides between the counts of a present store, ABSENT and BAD_ARG. -/
theorem storeStatusReturnsTheCounts : Obligations.StoreStatusReturnsTheCounts := by
  unfold Obligations.StoreStatusReturnsTheCounts
  intro s mb e h n u
  refine ⟨fun hn hp => ?cells, fun hn hp => ?far, storeStatus_absent h, storeStatus_outOfRange h⟩
  case cells => exact storeStatus_counts h (Nat.le_succ_of_le hn) hp (s.storeCounts_cells hn)
  case far => exact storeStatus_counts h (Nat.le_of_eq hn) hp (by rw [show e.f 32 0 4 = 9 from hn, s.storeCounts_far])
end Sys2Proof.Machine
end
